-- ==== Sys2Proof/Word.lean ====
section
/-! DEFINITION. The word types of the ALT-16's wire formats: bytes and the multi-byte numbers of the
timing line and the readout port (Conventions of spec/00_scope.md, R186, R187, R189). -/

namespace Sys2Proof

/-- One byte on the timing line or the readout port. -/
abbrev Byte := BitVec 8

/-- A two-byte field: an epoch or a run number. -/
abbrev Word16 := BitVec 16

/-- A four-byte field: a time or a value. -/
abbrev Word32 := BitVec 32

end Sys2Proof
end

