-- ==== Sys2Proof/Syntax.lean ====
section
/-! DEFINITION. The commands of the ALT-16: one constructor of `Instr` for each row of
spec/opcode_table.json, with what the happening brings as its operands, and the frames and payloads
of the timing line (R186, R187), whose fields are held as they stand on the wire. -/

namespace Sys2Proof

/-- The header of a line frame: sender's station number, epoch and sequence (R97, R186). -/
structure Header where
  station : Byte
  epoch : Word16
  seq : Byte
  deriving DecidableEq, Repr

/-- A BEACON's payload; `oldest` is there in a beacon of station 0 alone (R187). -/
structure BeaconPayload where
  courseTime : Word32
  lastSeq : Byte
  gateCount : Byte
  flags : Byte
  highest : Word16
  oldest : Option Word16
  deriving DecidableEq, Repr

/-- A START's payload (R187). -/
structure StartPayload where
  run : Word16
  startTime : Word32
  marks : Byte
  deriving DecidableEq, Repr

/-- A CROSS's payload (R187). -/
structure CrossPayload where
  run : Word16
  gate : Byte
  crossingTime : Word32
  startTime : Word32
  flags : Byte
  deriving DecidableEq, Repr

/-- A RULING's payload (R187). -/
structure RulingPayload where
  run : Word16
  verdict : Byte
  deriving DecidableEq, Repr

/-- A SESSION's payload: the previous epoch (R187). -/
structure SessionPayload where
  previous : Word16
  deriving DecidableEq, Repr

/-- A REPEAT's payload (R187). -/
structure RepeatPayload where
  originator : Byte
  seq : Byte
  deriving DecidableEq, Repr

/-- A GONE's payload (R187). -/
structure GonePayload where
  requester : Byte
  requested : Byte
  oldest : Byte
  deriving DecidableEq, Repr

/-- The payload of a frame of each of the seven kinds (R97, R187). -/
inductive Payload where
  | beacon (p : BeaconPayload)
  | start (p : StartPayload)
  | cross (p : CrossPayload)
  | ruling (p : RulingPayload)
  | session (p : SessionPayload)
  | askRepeat (p : RepeatPayload)
  | gone (p : GonePayload)
  deriving DecidableEq, Repr

/-- A line frame without its preamble, length and check, which the other fields fix (R186). -/
structure Frame where
  header : Header
  payload : Payload
  deriving DecidableEq, Repr

/-- The levels of the twelve strap pins at reset release (R145). -/
structure Straps where
  stn : BitVec 4
  gct : BitVec 3
  cfm : BitVec 2
  hld : BitVec 2
  gpol : Bool
  deriving DecidableEq, Repr

/-- The causes that RESET_ASSERTED reports; CLOCK has a row of its own (R142, R143). -/
inductive ResetInput where
  | power
  | pin
  deriving DecidableEq, Repr

/-- The four operator keys (R173). -/
inductive Key where
  | trip
  | void
  | dnf
  | ack
  deriving DecidableEq, Repr

/-- The two ruling keys (R176). -/
inductive RulingKey where
  | void
  | dnf
  deriving DecidableEq, Repr

/-- The two keys whose release has no effect of its own (R175). -/
inductive PlainKey where
  | trip
  | ack
  deriving DecidableEq, Repr

/-- How a byte on the line ended: whole, or with a dominant stop bit (R127). -/
inductive ByteEnd where
  | byte (b : Byte)
  | framingError
  deriving DecidableEq, Repr

/-- Why a frame in progress is abandoned (R129). -/
inductive AbandonCause where
  | idleRun
  | framingError
  | lengthAbove
  deriving DecidableEq, Repr

/-- The commands: the rows of spec/opcode_table.json. -/
inductive Instr where
  /-- RESET_ASSERTED (R142) -/
  | resetAsserted (cause : ResetInput)
  /-- POWER_FALL_DURING_RESET (R144) -/
  | powerFallDuringReset
  /-- CLOCK_LOSS (R143) -/
  | clockLoss
  /-- RESET_RELEASED (R147) -/
  | resetReleased (straps : Straps)
  /-- LISTEN_END (R150) -/
  | listenEnd
  /-- MILLISECOND_TICK (R27) -/
  | millisecondTick
  /-- BEACON_TIMER_END (R35) -/
  | beaconTimerEnd
  /-- FRESH_SPAN_END (R106) -/
  | freshSpanEnd
  /-- GATE_CANDIDATE_LATCH (R44) -/
  | gateCandidateLatch
  /-- GATE_ACTIVE_AT_RELEASE (R44) -/
  | gateActiveAtRelease
  /-- CANDIDATE_REJECTED (R45) -/
  | candidateRejected
  /-- CROSSING_ACCEPTED (R45) -/
  | crossingAccepted
  /-- HOLDOFF_END (R47): whether the sample that reached the count is active -/
  | holdoffEnd (active : Bool)
  /-- GATE_CLEARED (R48) -/
  | gateCleared
  /-- GATE_BLOCKED (R49) -/
  | gateBlocked
  /-- PENDING_ENTRY_EXPIRY (R68) -/
  | pendingEntryExpiry
  /-- TRIP_PRESS (R175) -/
  | tripPress
  /-- RULING_KEY_PRESS (R176) -/
  | rulingKeyPress (key : RulingKey)
  /-- RULING_KEY_LONG (R176) -/
  | rulingKeyLong (key : RulingKey)
  /-- RULING_KEY_RELEASE (R176) -/
  | rulingKeyRelease (key : RulingKey)
  /-- COMBINATION_FIRES (R177) -/
  | combinationFires
  /-- ACK_PRESS (R156) -/
  | ackPress
  /-- RESULT_HOLD_END (R180) -/
  | resultHoldEnd
  /-- RUN_NUMBER_HOLD_END (R180) -/
  | runNumberHoldEnd
  /-- TONE_STEP_END (R183) -/
  | toneStepEnd
  /-- RECEIVE_BEACON (R116) -/
  | receiveBeacon (h : Header) (p : BeaconPayload)
  /-- RECEIVE_START (R114) -/
  | receiveStart (h : Header) (p : StartPayload)
  /-- RECEIVE_CROSS (R114) -/
  | receiveCross (h : Header) (p : CrossPayload)
  /-- RECEIVE_RULING (R81) -/
  | receiveRuling (h : Header) (p : RulingPayload)
  /-- RECEIVE_SESSION (R89) -/
  | receiveSession (h : Header) (p : SessionPayload)
  /-- RECEIVE_REPEAT (R107) -/
  | receiveRepeat (h : Header) (p : RepeatPayload)
  /-- RECEIVE_GONE (R119) -/
  | receiveGone (h : Header) (p : GonePayload)
  /-- BAD_FRAME_DROPPED (R130) -/
  | badFrameDropped
  /-- FRAME_ABANDONED (R129) -/
  | frameAbandoned (cause : AbandonCause)
  /-- PEER_SILENT (R111) -/
  | peerSilent (peer : Fin 16)
  /-- RETRY_DEADLINE (R117) -/
  | retryDeadline (peer : Fin 16) (seq : Byte)
  /-- TRANSMIT_START (R132) -/
  | transmitStart
  /-- LINE_DEFER (R133) -/
  | lineDefer
  /-- TRANSMIT_COMPLETE (R136) -/
  | transmitComplete
  /-- READBACK_MISMATCH (R137) -/
  | readbackMismatch
  /-- REST_END (R134) -/
  | restEnd
  /-- XSEL_FALL (R164) -/
  | xselFall
  /-- NEXT (R165) -/
  | next
  /-- PEEK (R165) -/
  | peek
  /-- STATUS (R166) -/
  | status
  /-- UNKNOWN_COMMAND (R165): the command byte -/
  | unknownCommand (b : Byte)
  /-- REPLY_SHIFTED_OUT (R167) -/
  | replyShiftedOut
  /-- TRANSFER_COMPLETE (R168) -/
  | transferComplete
  /-- TRANSFER_ABORT (R169) -/
  | transferAbort
  /-- KEY_CANDIDATE_LATCH (R174): a sample of a key, down or up -/
  | keyCandidateLatch (key : Key) (down : Bool)
  /-- TRIP_OR_ACK_RELEASE (R174) -/
  | tripOrAckRelease (key : PlainKey)
  /-- BYTE_TAKEN (R127) -/
  | byteTaken (ended : ByteEnd)
  /-- WAITING_FOR_A_FRAME (R128) -/
  | waitingForAFrame
  /-- LINE_BUSY (R134) -/
  | lineBusy
  deriving DecidableEq, Repr

end Sys2Proof
end

