-- ==== Sys2Proof/Decode.lean ====
section
/-! DEFINITION. The command that a word spells. No row of spec/opcode_table.json gives bits (assumption log
17); the one word that the spec itself gives a command is the command byte of the Readout Port (R164, R189).
The frames of the timing line are read from their bytes in Sys2Proof/Machine/Wire.lean. -/

namespace Sys2Proof

/-- The command that a command byte selects (R164, R189). -/
def portCommand (b : Byte) : Instr :=
  if b = 0x4E#8 then .next
  else if b = 0x50#8 then .peek
  else if b = 0x53#8 then .status
  else .unknownCommand b

/-- The command a word spells: a word of eight bits is a command byte of the Readout Port (R164, R189), and
no other word spells a command, since the table's rows have no bits (assumption log 17). -/
def decodeTableWord (nbits w : Nat) : Option Instr :=
  if nbits = 8 ∧ w < 256 then some (portCommand (BitVec.ofNat 8 w)) else none

end Sys2Proof
end

