-- ==== Sys2Proof/Config.lean ====
section
/-! DEFINITION. The numbers the data sheet fixes for every ALT-16, and the free values: the order in which
happenings that fall together inside a single happening are taken, and the levels of the input pins that no
command moves. -/

namespace Sys2Proof.Config

/-- Course time stops here: 24 hours in milliseconds (R27, R38). -/
def timeLimit : Nat := 86400000

/-- Crystal periods in one millisecond (R27). -/
def periodsPerMs : Nat := 4096

/-- Crystal periods in one bit time of the timing line (R124). -/
def periodsPerBit : Nat := 32

/-- Crystal periods in the ten bit times of one byte (R125). -/
def periodsPerByte : Nat := 320

/-- Crystal periods from a byte's start edge to the middle of its stop bit (R127). -/
def stopBitMiddle : Nat := 304

/-- Crystal periods in one cycle of TONE's square wave of 2048 Hz (R183). -/
def tonePeriods : Nat := 2000

/-- Run records a Run Table holds (R1). -/
def tableCapacity : Nat := 48

/-- The highest run number (R1, R15). -/
def maxRun : Nat := 999

/-- Entries of the Pending Crossing List (R57). -/
def pendingCapacity : Nat := 8

/-- How long a pending crossing waits, from its crossing time (R58). -/
def pendingWait : Nat := 2000

/-- Entries of the Outbox ring (R99). -/
def ringCapacity : Nat := 32

/-- Entries of the Control List (R102). -/
def controlCapacity : Nat := 6

/-- Entries of one peer's Missing List (R115). -/
def missingCapacity : Nat := 8

/-- Records of the Result Queue (R160). -/
def queueCapacity : Nat := 24

/-- Stations a line can carry (R108). -/
def stationCount : Nat := 16

/-- The beacon interval (R35). -/
def beaconInterval : Nat := 250

/-- The FRESH span (R106). -/
def freshSpan : Nat := 2000

/-- How long a peer may be unheard before it is SILENT (R111). -/
def silenceSpan : Nat := 1000

/-- From one attempt at a repair to the next (R117, R118). -/
def retrySpan : Nat := 100

/-- The RESULT hold (R180). -/
def resultHoldSpan : Nat := 5000

/-- The RUN NUMBER hold (R180). -/
def runHoldSpan : Nat := 2000

/-- Samples that make a filtered key change (R174). -/
def filterSamples : Nat := 20

/-- Key samples after which a VOID or DNF hold is long (R176). -/
def longHold : Nat := 1000

/-- Key samples after which the combination fires (R177). -/
def comboFires : Nat := 3000

/-- Active samples after which a gate is blocked (R48). -/
def blockedSamples : Nat := 100000

/-- Consecutive failed attempts that silence the station (R139). -/
def maxFailed : Nat := 16

/-- The access gap in bit times (R132). -/
def gapBits : Nat := 12

/-- The gap while the rest is in force, and the length of the rest, in bit times (R132, R134). -/
def restBits : Nat := 76

/-- Bit times of idle after which a frame in progress is abandoned and a new one may begin (R128, R129). -/
def abandonBits : Nat := 10

/-- DESIGN CHOICE (assumption log 5). The order of happenings that fall together inside ONE command
(R29, R38, R70), where the data sheet says that either may be first: a free value with no body,
applied to a counter of State. No proof can see which order it gives. -/
opaque freeOrder : Nat → Nat

/-! ### Input pins that no command of the table moves (assumption logs 14 and 13)

Each is a free value with no body, applied to the counter of State at each crystal period with no command
waiting. No proof can see a level. -/

/-- DESIGN CHOICE (assumption log 14). Whether the dominant level that others hold on the timing line ends
with this crystal period (R126, R127). -/
opaque levelEnds : Nat → Bool

/-- DESIGN CHOICE (assumption log 13). Whether XCLK changes its level in this crystal period (R163). -/
opaque xclkEdge : Nat → Bool

/-- DESIGN CHOICE (assumption log 13). The level of XIN in this crystal period (R164). -/
opaque xinHigh : Nat → Bool

end Sys2Proof.Config
end

