-- ==== Sys2Proof/Machine/State.lean ====
section
/-! DEFINITION. The state of one station, as plain data: one structure for each block of
spec/00_scope.md, holding what that block owns, the queue of waiting commands, and the state while
reset is held. -/

namespace Sys2Proof.Machine

/-! ### Course Clock -/

/-- The Course Clock (R27, R41). `stopTicks` counts the millisecond ticks since course time stopped,
so that `courseTime + stopTicks` is the clock on which every timer runs (R29; assumption log 6). -/
structure Clock where
  courseTime : Nat
  phase : Nat
  stopTicks : Nat
  deriving DecidableEq, Repr

/-! ### Gate Capture -/

/-- The capture states (R44 to R48). -/
inductive Capture where
  | armed
  | confirming
  | holdoff
  | awaitClear
  deriving DecidableEq, Repr

/-- Gate Capture (R42 to R49, R55); `high` is the level of the GATE pin. -/
structure GateUnit where
  capture : Capture
  candidate : Option Nat
  confirm : Nat
  holdoff : Nat
  blocked : Nat
  firstSample : Bool
  interval : Nat
  divider : Nat
  high : Bool
  deriving DecidableEq, Repr

/-! ### Run Table -/

/-- The states of a run (R3). -/
inductive RunState where
  | onCourse
  | finished
  | dnf
  | void
  deriving DecidableEq, Repr

/-- A present split (R2). -/
structure Split where
  time : Nat
  manual : Bool
  late : Bool
  disturbed : Bool
  deriving DecidableEq, Repr

/-- A run record (R1). `splits` has one slot for each gate 1 to N−1; `voided` and `dnfed` are the
rulings set; `reported` is none until the first settlement result. `stepped` is the STEPPED mark.
`carriesStepped`: the mark is there from a step that came with the run's start time known, so that the
Assignment Unit reads the run as carrying it (R13; assumption log 28). No fact and no step clears a mark. -/
structure RunRecord where
  run : Nat
  start : Option Nat
  splits : List (Option Split)
  voided : Bool
  dnfed : Bool
  manualStart : Bool
  learned : Bool
  stepped : Bool
  carriesStepped : Bool
  corrected : Bool
  reported : Option RunState
  deriving DecidableEq, Repr

/-- The Run Table: its records in ascending run number, the eviction floor (R9), the next-run counter
(R15) and the listening mark (R24). -/
structure RunTable where
  records : List RunRecord
  floor : Nat
  nextRun : Nat
  markEpoch : Word16
  markRun : Nat
  deriving DecidableEq, Repr

/-! ### Assignment Unit -/

/-- An entry of the Pending Crossing List (R58). -/
structure PendingEntry where
  time : Nat
  manual : Bool
  deadline : Nat
  joining : Bool
  deriving DecidableEq, Repr

/-- The Assignment Unit (R57): the Pending Crossing List, HELD with its boundary, and the station 0
listening record. -/
structure Assign where
  entries : List PendingEntry
  held : Bool
  boundary : Nat
  recEpoch : Word16
  recHighest : Nat
  recOldest : Nat
  deriving DecidableEq, Repr

/-! ### Outbox -/

/-- An entry of the Outbox ring: a complete sequenced frame, SENT or UNSENT (R99). -/
structure RingEntry where
  frame : Frame
  sent : Bool
  deriving DecidableEq, Repr

/-- An entry of the Control List (R102). A GONE's and a REPEAT's header epoch is written at
transmission start (R103). -/
inductive ControlEntry where
  | copy (frame : Frame)
  | gone (requester requested oldest : Byte)
  | askRepeat (originator seq : Byte)
  deriving DecidableEq, Repr

/-- The Outbox: the ring (R99), the delivery values of R101, the Control List (R102), the beacon
state (R35) and FRESH with its span (R106: `freshEnd` is none once the span has ended). -/
structure Outbox where
  ring : List RingEntry
  nextSeq : Byte
  lastSent : Option Byte
  firstBeaconSent : Bool
  control : List ControlEntry
  beaconDue : Bool
  beaconTimer : Option Nat
  fresh : Bool
  freshEnd : Option Nat
  deriving DecidableEq, Repr

/-! ### Receiver and Peer Table -/

/-- The presences of a peer (R108). -/
inductive Presence where
  | unknown
  | present
  | silent
  | mismatch
  deriving DecidableEq, Repr

/-- An entry of a Missing List (R115). -/
structure MissingEntry where
  seq : Byte
  attempts : Nat
  deadline : Nat
  deriving DecidableEq, Repr

/-- A peer's entry of the Peer Table (R108). -/
structure Peer where
  presence : Presence
  lastHeard : Nat
  silenceEnd : Option Nat
  expected : Option Byte
  missing : List MissingEntry
  deriving DecidableEq, Repr

/-- The last-beacon snapshot of station 0 (R108, R113). -/
structure Snapshot where
  taken : Bool
  highest : Nat
  oldest : Nat
  deriving DecidableEq, Repr

/-- The Peer Table, sixteen entries by station number, with station 0's snapshot (R108). -/
structure Receiver where
  peers : List Peer
  snapshot : Snapshot
  deriving DecidableEq, Repr

/-! ### Line Access Unit -/

/-- Where in the Outbox the frame being sent stands (R105). -/
inductive TxSource where
  | control
  | beacon
  | ring
  deriving DecidableEq, Repr

/-- The transmit state (R131). WAITING holds the gap being counted, in bit times, and the slot's
periods once the gap was reached (R132); SENDING holds the frame taken and the periods driven. -/
inductive TxState where
  | off
  | idle
  | waiting (gap : Nat) (slot : Option Nat)
  | sending (source : TxSource) (frame : Frame) (periods : Nat)
  deriving DecidableEq, Repr

/-- The receiver's conditions (R128); a frame in progress holds its bytes from the preamble on. -/
inductive RxState where
  | waiting
  | inFrame (bytes : List Byte)
  | ignoring
  deriving DecidableEq, Repr

/-- A byte being received (R127): the crystal periods since its start edge, and the levels taken so far at
the middles of its bits, from the start bit on, true for dominant. -/
structure Reading where
  periods : Nat
  levels : List Bool
  deriving DecidableEq, Repr

/-- The Line Access Unit (R131). The rest timer and the idle run are kept in crystal periods, 32 to
the bit time (R124). `restDue`: a frame went out whole, and the rest comes into force where its last stop bit
ends (R134). `dominant` is the level that others hold on the pair (R124), and `reading` the byte being
received (R127). `complete` is a complete frame that the Receiver has not taken yet (R130; the
model's own latch, assumption log 15). -/
structure LineUnit where
  tx : TxState
  rest : Bool
  restDue : Bool
  restPeriods : Nat
  failed : Nat
  idlePeriods : Nat
  dominant : Bool
  reading : Option Reading
  rx : RxState
  complete : Option (List Byte)
  deriving DecidableEq, Repr

/-! ### Result Queue and Readout Port -/

/-- The reasons of a STRAY result (R157). -/
inductive StrayReason where
  | noRun
  | held
  | mute
  | closed
  | outboxFull
  | runLimit
  | tableFull
  | displaced
  deriving DecidableEq, Repr

/-- The kinds of a result record (R157); NONE stands in replies alone. -/
inductive ResultKind where
  | finished
  | dnf
  | void
  | correction
  | stray
  | dropped
  | linkLoss
  | session
  | closed
  | noRecord
  deriving DecidableEq, Repr

/-- The reason or peer field of a result record (R157). -/
inductive Reason where
  | empty
  | stray (reason : StrayReason)
  | station (number : Nat)
  | newState (state : RunState)
  deriving DecidableEq, Repr

/-- The marks of a result record (R157, R20): the last three are summaries over the splits. -/
structure Marks where
  manualStart : Bool
  learned : Bool
  stepped : Bool
  corrected : Bool
  disturbed : Bool
  late : Bool
  manual : Bool
  deriving DecidableEq, Repr

/-- A result record (R157). -/
structure ResultRecord where
  kind : ResultKind
  reason : Reason
  run : Nat
  value : Option Nat
  courseTime : Nat
  marks : Marks
  gates : Nat
  lost : Nat
  seq : Byte
  deriving DecidableEq, Repr

/-- The Result Queue (R161). -/
structure Results where
  records : List ResultRecord
  lost : Nat
  counter : Byte
  deriving DecidableEq, Repr

/-- The transfer phases (R163). -/
inductive PortPhase where
  | idle
  | command
  | reply
  | done
  deriving DecidableEq, Repr

/-- The Readout Port (R161). `shown` is the number of the bit that XOUT shows in a transfer (R163);
`xselLow` and `xclkHigh` are the levels of the XSEL and XCLK pins (R163, R172). -/
structure Port where
  phase : PortPhase
  fill : Nat
  bits : Nat
  command : Byte
  latched : Option (List Byte)
  latchedSeq : Option Byte
  overtaken : Bool
  shown : Nat
  xselLow : Bool
  xclkHigh : Bool
  deriving DecidableEq, Repr

/-! ### Panel Unit -/

/-- A key's filter (R174) and the level of its pin (R173). -/
structure KeyFilter where
  pressed : Bool
  change : Nat
  candidate : Option Nat
  down : Bool
  deriving DecidableEq, Repr

/-- A ruling key's hold count and spoiled mark (R176). -/
structure RulingHold where
  count : Nat
  spoiled : Bool
  deriving DecidableEq, Repr

/-- The RESULT hold while it runs (R180). -/
structure ResultHold where
  endsAt : Nat
  elapsed : Option Nat
  deriving DecidableEq, Repr

/-- The RUN NUMBER hold while it runs (R180). -/
structure RunHold where
  endsAt : Nat
  run : Nat
  deriving DecidableEq, Repr

/-- The tone patterns (R183). -/
inductive Pattern where
  | click
  | double
  | refuse
  | alarm
  deriving DecidableEq, Repr

/-- The tone player while it plays (R183); steps are counted from 0. -/
structure TonePlay where
  pattern : Pattern
  step : Nat
  endsAt : Nat
  deriving DecidableEq, Repr

/-- The Panel Unit (R185). `toneDivider` is the divider that gives TONE its square wave from the crystal
(R183; assumption log 29). -/
structure Panel where
  trip : KeyFilter
  void : KeyFilter
  dnf : KeyFilter
  ack : KeyFilter
  voidHold : RulingHold
  dnfHold : RulingHold
  comboRunning : Bool
  comboCount : Nat
  resultHold : Option ResultHold
  runHold : Option RunHold
  tone : Option TonePlay
  toneDivider : Nat
  divider : Nat
  deriving DecidableEq, Repr

/-! ### Station Control -/

/-- The station states (R146). -/
inductive StationState where
  | reset
  | configFault
  | listening
  | active
  | mute
  | closed
  deriving DecidableEq, Repr

/-- The reset causes (R142, R144). -/
inductive ResetCause where
  | power
  | pin
  | clock
  deriving DecidableEq, Repr

/-- The error codes (R155). -/
inductive ErrorCode where
  | e01
  | e02
  | e03
  | e04
  | e05
  | e06
  | e07
  | e08
  | e09
  | e10
  | e11
  deriving DecidableEq, Repr

/-- The pending error set: each code pending or not (R155). -/
structure ErrorSet where
  e01 : Bool
  e02 : Bool
  e03 : Bool
  e04 : Bool
  e05 : Bool
  e06 : Bool
  e07 : Bool
  e08 : Bool
  e09 : Bool
  e10 : Bool
  e11 : Bool
  deriving DecidableEq, Repr

/-- Station Control (R146). `closedSpeaking`: the station entered CLOSED from ACTIVE and has raised
neither E01 nor E02 since (R104; assumption log 20). -/
structure StationControl where
  state : StationState
  cause : ResetCause
  straps : Option Straps
  errors : ErrorSet
  listenCount : Nat
  closedSpeaking : Bool
  deriving DecidableEq, Repr

/-! ### The whole station -/

/-- The state of one station. `freeIndex` is the model's own counter for the free values (assumption
log 5); `pending` is the queue of commands that are waiting, the first to be taken at its head. -/
structure State where
  clock : Clock
  gate : GateUnit
  table : RunTable
  assign : Assign
  epoch : Word16
  outbox : Outbox
  receiver : Receiver
  line : LineUnit
  results : Results
  port : Port
  panel : Panel
  station : StationControl
  freeIndex : Nat
  pending : List Instr
  deriving DecidableEq, Repr

/-- The reasons a step can stop with a fault: none. The data sheet gives every happening an effect in
every station state; errors are pending codes of State (R155), and no rule stops the machine. -/
inductive Fault where
  deriving DecidableEq, Repr

/-- The reasons a step can be refused. -/
inductive Refusal where
  /-- Raised by `exec` for a command that has no meaning yet; safe. No command is left so. -/
  | notModelled (mnemonic : String)
  deriving DecidableEq, Repr

/-! ### The values after reset -/

/-- A peer's entry after reset (R108). -/
def Peer.reset : Peer :=
  { presence := .unknown, lastHeard := 0, silenceEnd := none, expected := none, missing := [] }

/-- No error pending (R155). -/
def ErrorSet.none : ErrorSet :=
  { e01 := false, e02 := false, e03 := false, e04 := false, e05 := false, e06 := false
    e07 := false, e08 := false, e09 := false, e10 := false, e11 := false }

/-- A key filter after reset (R174), its pin up (assumption log 7). -/
def KeyFilter.reset : KeyFilter :=
  { pressed := false, change := 0, candidate := none, down := false }

/-- A ruling key's hold after reset (R185). -/
def RulingHold.reset : RulingHold := { count := 0, spoiled := false }

/-- The Course Clock after reset (R41). -/
def Clock.reset : Clock := { courseTime := 0, phase := 0, stopTicks := 0 }

/-- Gate Capture after reset (R55), the GATE pin low (assumption log 7). -/
def GateUnit.reset : GateUnit :=
  { capture := .armed, candidate := none, confirm := 0, holdoff := 0, blocked := 0
    firstSample := true, interval := 0, divider := 0, high := false }

/-- The Run Table after reset (R5). -/
def RunTable.reset : RunTable :=
  { records := [], floor := 0, nextRun := 1, markEpoch := 0#16, markRun := 0 }

/-- The Assignment Unit after reset (R57). -/
def Assign.reset : Assign :=
  { entries := [], held := false, boundary := 0, recEpoch := 0#16, recHighest := 0, recOldest := 0 }

/-- The Outbox after reset (R99, R101, R102, R41). -/
def Outbox.reset : Outbox :=
  { ring := [], nextSeq := 0#8, lastSent := none, firstBeaconSent := false, control := []
    beaconDue := false, beaconTimer := none, fresh := false, freshEnd := none }

/-- The Peer Table after reset (R108). -/
def Receiver.reset : Receiver :=
  { peers := List.replicate Config.stationCount Peer.reset
    snapshot := { taken := false, highest := 0, oldest := 0 } }

/-- The Line Access Unit after reset (R131), the pair not driven by others (assumption log 7). -/
def LineUnit.reset : LineUnit :=
  { tx := .off, rest := false, restDue := false, restPeriods := 0, failed := 0, idlePeriods := 0, dominant := false
    reading := none, rx := .ignoring, complete := none }

/-- The Result Queue after reset (R161). -/
def Results.reset : Results := { records := [], lost := 0, counter := 0#8 }

/-- The Readout Port after reset (R161), the XSEL pin high and the XCLK pin low (assumption log 7). -/
def Port.reset : Port :=
  { phase := .idle, fill := 0, bits := 0, command := 0#8, latched := none, latchedSeq := none
    overtaken := false, shown := 0, xselLow := false, xclkHigh := false }

/-- The Panel Unit after reset (R185). -/
def Panel.reset : Panel :=
  { trip := KeyFilter.reset, void := KeyFilter.reset, dnf := KeyFilter.reset, ack := KeyFilter.reset
    voidHold := RulingHold.reset, dnfHold := RulingHold.reset, comboRunning := false, comboCount := 0
    resultHold := none, runHold := none, tone := none, toneDivider := 0, divider := 0 }

/-- Station Control while reset is held, after the station's first power-up (R144, R146). -/
def StationControl.reset : StationControl :=
  { state := .reset, cause := .power, straps := none, errors := ErrorSet.none, listenCount := 0
    closedSpeaking := false }

/-- The machine right after reset: every block at the values its chapter gives (R144), the station in
RESET with cause POWER, and no command waiting. -/
def State.reset : State :=
  { clock := Clock.reset, gate := GateUnit.reset, table := RunTable.reset, assign := Assign.reset
    epoch := 0#16, outbox := Outbox.reset, receiver := Receiver.reset, line := LineUnit.reset
    results := Results.reset, port := Port.reset, panel := Panel.reset
    station := StationControl.reset, freeIndex := 0, pending := [] }

end Sys2Proof.Machine
end

