-- ==== Sys2Proof/Machine/Wire.lean ====
section
/-! DEFINITION. The line frame on the wire (spec/11_wire_formats.md): the bytes of a frame, the
check, the reading of a complete frame's bytes, and the test of form. -/

namespace Sys2Proof

/-! ### Multi-byte fields, most significant byte first (R186) -/

/-- The two bytes of a two-byte field. -/
def bytes16 (w : Word16) : List Byte :=
  [w.extractLsb' 8 8, w.extractLsb' 0 8]

/-- The four bytes of a four-byte field. -/
def bytes32 (w : Word32) : List Byte :=
  [w.extractLsb' 24 8, w.extractLsb' 16 8, w.extractLsb' 8 8, w.extractLsb' 0 8]

/-- A two-byte field from its bytes. -/
def word16 (b1 b0 : Byte) : Word16 := b1 ++ b0

/-- A four-byte field from its bytes. -/
def word32 (b3 b2 b1 b0 : Byte) : Word32 := b3 ++ b2 ++ b1 ++ b0

/-! ### The check (R188) -/

/-- One bit of the check: the bit is compared with bit 15, the register shifts left, and is combined
with 1021h where the two differed (R188 step 2). -/
def crcBit (reg : Word16) (bit : Bool) : Word16 :=
  if bit = reg.msb then reg <<< 1 else (reg <<< 1) ^^^ 0x1021#16

/-- The eight bits of a byte, from the most significant (R188 step 2). -/
def crcByte (reg : Word16) (b : Byte) : Word16 :=
  [7, 6, 5, 4, 3, 2, 1, 0].foldl (fun r i => crcBit r (b.getLsbD i)) reg

/-- The check over a list of bytes, from FFFFh and without a final inversion (R188). -/
def crc (bs : List Byte) : Word16 := bs.foldl crcByte 0xFFFF#16

/-! ### Frames (R186, R187) -/

/-- The first byte of every frame (R186). -/
def preamble : Byte := 0xA6#8

/-- The kind codes of R186. -/
def Payload.kindCode : Payload → Byte
  | .beacon _ => 0x11#8
  | .start _ => 0x21#8
  | .cross _ => 0x22#8
  | .ruling _ => 0x23#8
  | .session _ => 0x24#8
  | .askRepeat _ => 0x31#8
  | .gone _ => 0x32#8

/-- Whether a frame of this kind carries its sender's sequence number (R97). -/
def Payload.sequenced : Payload → Bool
  | .start _ | .cross _ | .ruling _ | .session _ => true
  | .beacon _ | .askRepeat _ | .gone _ => false

/-- The payload bytes in the order R187 gives. -/
def Payload.bytes : Payload → List Byte
  | .beacon p =>
    bytes32 p.courseTime ++ [p.lastSeq, p.gateCount, p.flags] ++ bytes16 p.highest ++
      (match p.oldest with
        | some o => bytes16 o
        | none => [])
  | .start p => bytes16 p.run ++ bytes32 p.startTime ++ [p.marks]
  | .cross p =>
    bytes16 p.run ++ [p.gate] ++ bytes32 p.crossingTime ++ bytes32 p.startTime ++ [p.flags]
  | .ruling p => bytes16 p.run ++ [p.verdict]
  | .session p => bytes16 p.previous
  | .askRepeat p => [p.originator, p.seq]
  | .gone p => [p.requester, p.requested, p.oldest]

/-- The bytes the check is taken over: from the kind to the last payload byte (R186, R188). -/
def Frame.body (f : Frame) : List Byte :=
  [f.payload.kindCode, f.header.station] ++ bytes16 f.header.epoch ++
    [f.header.seq, BitVec.ofNat 8 f.payload.bytes.length] ++ f.payload.bytes

/-- A frame's bytes in the order they are sent (R186). -/
def Frame.bytes (f : Frame) : List Byte :=
  preamble :: f.body ++ bytes16 (crc f.body)

/-! ### Levels on the pair (R125) -/

/-- The ten bits of a byte as levels, true for dominant: the start bit, the data bits from the least
significant on, dominant for a 0, and the stop bit (R125). -/
def byteLevels (b : Byte) : List Bool :=
  true :: (List.range 8).map (fun i => !b.getLsbD i) ++ [false]

/-- The byte that the levels of a start bit and eight data bits spell (R127). -/
def levelsByte (levels : List Bool) : Byte :=
  (List.range 8).foldl
    (fun b i => if levels.getD (i + 1) true then b else b ||| (1#8 <<< i)) 0#8

/-- A frame as levels on the pair, its bytes back to back (R125, R136). -/
def Frame.levels (f : Frame) : List Bool := f.bytes.flatMap byteLevels

/-! ### Reading a complete frame -/

/-- The payload that a kind code and a payload's bytes spell, where the byte count is one the kind
has (R186, R187). -/
def readPayload (kind : Byte) (bs : List Byte) : Option Payload :=
  if kind = 0x11#8 then
    match bs with
    | [t3, t2, t1, t0, l, g, fl, h1, h0] =>
      some (.beacon ⟨word32 t3 t2 t1 t0, l, g, fl, word16 h1 h0, none⟩)
    | [t3, t2, t1, t0, l, g, fl, h1, h0, o1, o0] =>
      some (.beacon ⟨word32 t3 t2 t1 t0, l, g, fl, word16 h1 h0, some (word16 o1 o0)⟩)
    | _ => none
  else if kind = 0x21#8 then
    match bs with
    | [r1, r0, t3, t2, t1, t0, m] => some (.start ⟨word16 r1 r0, word32 t3 t2 t1 t0, m⟩)
    | _ => none
  else if kind = 0x22#8 then
    match bs with
    | [r1, r0, g, c3, c2, c1, c0, t3, t2, t1, t0, fl] =>
      some (.cross ⟨word16 r1 r0, g, word32 c3 c2 c1 c0, word32 t3 t2 t1 t0, fl⟩)
    | _ => none
  else if kind = 0x23#8 then
    match bs with
    | [r1, r0, v] => some (.ruling ⟨word16 r1 r0, v⟩)
    | _ => none
  else if kind = 0x24#8 then
    match bs with
    | [p1, p0] => some (.session ⟨word16 p1 p0⟩)
    | _ => none
  else if kind = 0x31#8 then
    match bs with
    | [o, q] => some (.askRepeat ⟨o, q⟩)
    | _ => none
  else if kind = 0x32#8 then
    match bs with
    | [r, q, o] => some (.gone ⟨r, q, o⟩)
    | _ => none
  else none

/-- The test of form of R98, for what a frame's fields can still get wrong once its kind and length
are known (a SESSION's epoch fields: R89). -/
def Frame.wellFormed (f : Frame) : Bool :=
  f.header.station.toNat < Config.stationCount &&
  (f.payload.sequenced || f.header.seq == 0#8) &&
  (match f.payload with
    | .beacon p => p.oldest.isSome == (f.header.station == 0#8)
    | .session p =>
      1 ≤ p.previous.toNat && p.previous.toNat ≤ 65534 &&
        f.header.epoch.toNat == p.previous.toNat + 1
    | .askRepeat p => p.originator.toNat < Config.stationCount && p.originator != f.header.station
    | .gone p => p.requester.toNat < Config.stationCount && p.requester != f.header.station
    | .start _ | .cross _ | .ruling _ => true)

/-- A complete frame's bytes as the Receiver takes them: the frame, where the check is right (R130)
and the frame is well formed (R98), and none where it is dropped. -/
def readFrame (bs : List Byte) : Option Frame :=
  match bs with
  | pre :: kind :: station :: e1 :: e0 :: seq :: len :: rest =>
    let payload := rest.take len.toNat
    let body := [kind, station, e1, e0, seq, len] ++ payload
    if pre = preamble ∧ rest.drop len.toNat = bytes16 (crc body) then
      match readPayload kind payload with
      | some p =>
        let f : Frame := ⟨⟨station, word16 e1 e0, seq⟩, p⟩
        if f.wellFormed then some f else none
      | none => none
    else none
  | _ => none

end Sys2Proof
end

