-- ==== Sys2Proof/Machine/Operands.lean ====
section
/-! DEFINITION. What the rules read: the strapped configuration and the role it gives (R145), the
conditions on the station state, the clock that timers run on (R29), the fields of the frames, and the
facts a frame carries (R6). -/

namespace Sys2Proof.Machine

/-! ### Straps and roles (R145) -/

/-- The strapped configuration; before release nothing is held and nothing reads it (R146). -/
def State.config (s : State) : Straps :=
  s.station.straps.getD { stn := 0#4, gct := 0#3, cfm := 0#2, hld := 0#2, gpol := false }

/-- The station number n (R145). -/
def State.number (s : State) : Nat := s.config.stn.toNat

/-- The gate count N: codes 0 to 6 give 2 to 8 (R145). -/
def State.gates (s : State) : Nat := s.config.gct.toNat + 2

/-- The station number as a byte of a frame. -/
def State.stationByte (s : State) : Byte := BitVec.ofNat 8 s.number

/-- The confirm count of the CFM strap (R42). -/
def State.confirmLimit (s : State) : Nat :=
  match s.config.cfm.toNat with
  | 0 => 10
  | 1 => 20
  | 2 => 50
  | _ => 100

/-- The hold-off count of the HLD strap (R42). -/
def State.holdoffLimit (s : State) : Nat :=
  match s.config.hld.toNat with
  | 0 => 1000
  | 1 => 2500
  | 2 => 5000
  | _ => 10000

/-- The listen time in crystal periods: 4096 × (1000 + 50 × n) (R148). -/
def State.listenLimit (s : State) : Nat := Config.periodsPerMs * (1000 + 50 * s.number)

/-- A station numbered 0 to N−1 owns a gate (R145). -/
def State.isGateStation (s : State) : Bool := s.number < s.gates

/-- Stations 1 to N−1 have an Assignment Unit at work (R57). -/
def State.isAssigner (s : State) : Bool := 1 ≤ s.number && s.number < s.gates

/-- The finish station, n = N−1 (R145). -/
def State.isFinish (s : State) : Bool := s.number + 1 == s.gates

/-! ### Conditions on the station state -/

/-- The states in which frames are received (R127). -/
def State.receives (s : State) : Bool :=
  match s.station.state with
  | .listening | .active | .mute | .closed => true
  | .reset | .configFault => false

/-- The states in which the Run Table takes facts and the course's rules run (R5). -/
def State.onCourse (s : State) : Bool :=
  match s.station.state with
  | .active | .mute | .closed => true
  | .reset | .configFault | .listening => false

/-- Whether the station is ACTIVE. -/
def State.isActive (s : State) : Bool := s.station.state == .active

/-- Whether the station is out of RESET: its crystal counts, its keys are sampled and its port is
served (R27, R172, R173). -/
def State.running (s : State) : Bool := s.station.state != .reset

/-- Whether the station is speaking (R104). -/
def State.speaking (s : State) : Bool :=
  match s.station.state with
  | .active => true
  | .closed => s.station.closedSpeaking
  | .reset | .configFault | .listening | .mute => false

/-- Gate Capture is released: samples are judged (R43). -/
def State.gateReleased (s : State) : Bool := s.onCourse && s.isGateStation

/-- The Line Access Unit is driving a frame (R131). -/
def State.sending (s : State) : Bool :=
  match s.line.tx with
  | .sending _ _ _ => true
  | .off | .idle | .waiting _ _ => false

/-- Whether the station drives the pair dominant: while SENDING, the level of the frame's bit that the
periods driven have come to; at every other moment the pair is released (R124, R136). -/
def LineUnit.drives (l : LineUnit) : Bool :=
  match l.tx with
  | .sending _ f periods => f.levels.getD (periods / Config.periodsPerBit) false
  | .off | .idle | .waiting _ _ => false

/-- The level on the pair: a dominant level prevails (R124). -/
def LineUnit.level (l : LineUnit) : Bool := l.dominant || l.drives

/-- A byte is being received whose start bit has been found, at its middle; before that a recessive level
may still make it a glitch (R127). -/
def LineUnit.inByte (l : LineUnit) : Bool :=
  l.reading.any (fun r => decide (Config.periodsPerBit / 2 ≤ r.periods))

/-- The line is busy while a dominant level is on it, and through every byte being received. After a glitch
it is idle from the end of the dominant level on (R126, R127). -/
def LineUnit.busy (l : LineUnit) : Bool := l.level || l.inByte

/-! ### The clock of timers -/

/-- The clock that timers stated in ms run on: course time, and the ticks since it stopped (R29). -/
def State.now (s : State) : Nat := s.clock.courseTime + s.clock.stopTicks

/-- Whether a timer, stopped or running to an end, has reached its end (R29). -/
def State.due (s : State) (timer : Option Nat) : Bool :=
  match timer with
  | some e => e ≤ s.now
  | none => false

/-! ### Peers -/

/-- The Peer Table's entry for a station number (R108). -/
def State.peer (s : State) (p : Nat) : Peer := s.receiver.peers.getD p Peer.reset

/-- Whether a peer's Missing List holds a sequence (R115). -/
def Peer.misses (p : Peer) (q : Byte) : Bool := p.missing.any (fun m => m.seq == q)

/-! ### Frame fields (R187) -/

/-- A time field: absent when all ones, in range up to the limit, otherwise no value at all (R6). -/
def timeField (w : Word32) : Option (Option Nat) :=
  if w = 0xFFFFFFFF#32 then some none
  else if w.toNat ≤ Config.timeLimit then some (some w.toNat)
  else none

/-- A run number as a beacon's fields are held: above 999 it counts as 0 (R24, R73, R113). -/
def heldRun (w : Word16) : Nat := if w.toNat ≤ Config.maxRun then w.toNat else 0

/-- A run field that names a run: 1 to 999 (R6). -/
def runField (w : Word16) : Option Nat :=
  if 1 ≤ w.toNat ∧ w.toNat ≤ Config.maxRun then some w.toNat else none

/-- BEACON flag bit 1, FRESH (R187). -/
def beaconFresh (p : BeaconPayload) : Bool := p.flags.getLsbD 1

/-- The last sequence sent: none where flag bit 3, NONE SENT, is set (R101, R116). -/
def beaconLastSequence (p : BeaconPayload) : Option Byte :=
  if p.flags.getLsbD 3 then none else some p.lastSeq

/-! ### Facts (R6, R10 to R12) -/

/-- The verdict of a ruling (R12). -/
inductive Verdict where
  | void
  | dnf
  deriving DecidableEq, Repr

/-- A fact that the Run Table takes and that has passed the checks of R6. -/
inductive Fact where
  | start (run time : Nat) (manual : Bool)
  | cross (run gate time : Nat) (start : Option Nat) (manual late disturbed : Bool)
  | ruling (run : Nat) (verdict : Verdict)
  deriving DecidableEq, Repr

/-- The run a fact names. -/
def Fact.run : Fact → Nat
  | .start r _ _ => r
  | .cross r _ _ _ _ _ _ => r
  | .ruling r _ => r

/-- Whether a record created by this fact is LEARNED (R11, R12). -/
def Fact.learns : Fact → Bool
  | .start _ _ _ => false
  | .cross _ _ _ _ _ _ _ => true
  | .ruling _ _ => true

/-- The fact of a START frame, where it passes the checks of R6; marks bit 0 is MANUAL START. -/
def startFact (p : StartPayload) : Option Fact :=
  match runField p.run, timeField p.startTime with
  | some r, some (some t) => some (.start r t (p.marks.getLsbD 0))
  | _, _ => none

/-- The fact of a CROSS frame at a station of N gates, where it passes the checks of R6. -/
def crossFact (gates : Nat) (p : CrossPayload) : Option Fact :=
  match runField p.run, timeField p.crossingTime, timeField p.startTime with
  | some r, some (some t), some st =>
    if 1 ≤ p.gate.toNat ∧ p.gate.toNat < gates then
      some (.cross r p.gate.toNat t st (p.flags.getLsbD 0) (p.flags.getLsbD 1) (p.flags.getLsbD 2))
    else none
  | _, _, _ => none

/-- The fact of a RULING frame, where it passes the checks of R6: 01h VOID, 02h DNF (R187). -/
def rulingFact (p : RulingPayload) : Option Fact :=
  match runField p.run with
  | some r =>
    if p.verdict = 0x01#8 then some (.ruling r .void)
    else if p.verdict = 0x02#8 then some (.ruling r .dnf)
    else none
  | none => none

/-- The fact a payload carries, if any. -/
def payloadFact (gates : Nat) : Payload → Option Fact
  | .start p => startFact p
  | .cross p => crossFact gates p
  | .ruling p => rulingFact p
  | .beacon _ | .session _ | .askRepeat _ | .gone _ => none

end Sys2Proof.Machine
end

