-- ==== Sys2Proof/Machine/Flags.lean ====
section
/-! DEFINITION. Readings derived from the state: a run's state and readings (R3, R4), the pending error
set (R155), and what the outputs show (R162, R163, R180 to R183). -/

namespace Sys2Proof.Machine

/-! ### A run record (R2 to R4) -/

/-- The present splits. -/
def RunRecord.present (r : RunRecord) : List Split := r.splits.filterMap id

/-- The finish split: the slot of gate N−1 (R2). -/
def RunRecord.finish (r : RunRecord) : Option Split := r.splits.getLast?.join

/-- The slot of gate g holds a split. -/
def RunRecord.passed (r : RunRecord) (g : Nat) : Bool := (r.splits.getD (g - 1) none).isSome

/-- The derived state (R3). -/
def RunRecord.state (r : RunRecord) : RunState :=
  if r.voided then .void
  else if r.finish.isSome then .finished
  else if r.dnfed then .dnf
  else .onCourse

/-- FINISHED, DNF and VOID are the settled states (R3). -/
def RunRecord.settled (r : RunRecord) : Bool := r.state != .onCourse

/-- The highest gate passed, or 0 (R4): slot i is gate i + 1. -/
def RunRecord.highestGate (r : RunRecord) : Nat :=
  (r.splits.zipIdx.filterMap (fun x => if x.1.isSome then some (x.2 + 1) else none)).foldl max 0

/-- The gates passed count (R4). -/
def RunRecord.gatesPassed (r : RunRecord) : Nat := r.present.length

/-- The elapsed time: none without a start time, and 0 where the finish is not later (R21). -/
def RunRecord.elapsed (r : RunRecord) : Option Nat :=
  match r.start, r.finish with
  | some st, some f => some (f.time - st)
  | _, _ => none

/-- The marks a record's results carry (R20). -/
def RunRecord.marks (r : RunRecord) : Marks :=
  { manualStart := r.manualStart, learned := r.learned, stepped := r.stepped
    corrected := r.corrected
    disturbed := r.present.any (fun p => p.disturbed)
    late := r.present.any (fun p => p.late)
    manual := r.present.any (fun p => p.manual) }

/-- Result marks with none set (R158). -/
def Marks.none : Marks :=
  { manualStart := false, learned := false, stepped := false, corrected := false
    disturbed := false, late := false, manual := false }

/-! ### The table's readings (R4) -/

/-- The record of a run, if the table holds one. -/
def State.lookup (s : State) (run : Nat) : Option RunRecord :=
  s.table.records.find? (fun r => r.run == run)

/-- Highest run known (R4). -/
def State.highestKnown (s : State) : Nat :=
  max ((s.table.records.map (fun r => r.run)).foldl max 0)
    (max s.table.floor (if s.number = 0 then s.table.nextRun - 1 else 0))

/-- The records that are ON_COURSE, in ascending run number. -/
def State.courseRecords (s : State) : List RunRecord :=
  s.table.records.filter (fun r => !r.settled)

/-- Oldest on-course run, or 0 (R4). -/
def State.oldestOnCourse (s : State) : Nat :=
  match s.courseRecords.head? with
  | some r => r.run
  | none => 0

/-- Newest on-course run, or 0 (R4). -/
def State.newestOnCourse (s : State) : Nat :=
  match s.courseRecords.getLast? with
  | some r => r.run
  | none => 0

/-- Any on course (R4). -/
def State.anyOnCourse (s : State) : Bool := s.table.records.any (fun r => !r.settled)

/-! ### The pending error set (R155) -/

/-- Whether a code is pending. -/
def ErrorSet.has (e : ErrorSet) : ErrorCode → Bool
  | .e01 => e.e01
  | .e02 => e.e02
  | .e03 => e.e03
  | .e04 => e.e04
  | .e05 => e.e05
  | .e06 => e.e06
  | .e07 => e.e07
  | .e08 => e.e08
  | .e09 => e.e09
  | .e10 => e.e10
  | .e11 => e.e11

/-- The set with one code pending or not. -/
def ErrorSet.put (e : ErrorSet) (v : Bool) : ErrorCode → ErrorSet
  | .e01 => { e with e01 := v }
  | .e02 => { e with e02 := v }
  | .e03 => { e with e03 := v }
  | .e04 => { e with e04 := v }
  | .e05 => { e with e05 := v }
  | .e06 => { e with e06 := v }
  | .e07 => { e with e07 := v }
  | .e08 => { e with e08 := v }
  | .e09 => { e with e09 := v }
  | .e10 => { e with e10 := v }
  | .e11 => { e with e11 := v }

/-- The codes, lowest first. -/
def ErrorCode.all : List ErrorCode :=
  [.e01, .e02, .e03, .e04, .e05, .e06, .e07, .e08, .e09, .e10, .e11]

/-- The number of a code: Ek is k. -/
def ErrorCode.number : ErrorCode → Nat
  | .e01 => 1
  | .e02 => 2
  | .e03 => 3
  | .e04 => 4
  | .e05 => 5
  | .e06 => 6
  | .e07 => 7
  | .e08 => 8
  | .e09 => 9
  | .e10 => 10
  | .e11 => 11

/-- The lowest pending code (R156). -/
def ErrorSet.lowest (e : ErrorSet) : Option ErrorCode := ErrorCode.all.find? (fun c => e.has c)

/-- The codes that ACK removes: E04 to E09 (R156). -/
def ErrorCode.acknowledged (c : ErrorCode) : Bool := 4 ≤ c.number && c.number ≤ 9

/-! ### Outputs -/

/-- XRDY (R162). -/
def State.xrdy (s : State) : Bool :=
  s.running && s.port.phase == .idle && !s.results.records.isEmpty

/-- The bytes that XOUT shows in a transfer: the fill count, then the latched reply (R163). -/
def State.portBytes (s : State) : List Byte :=
  BitVec.ofNat 8 s.port.fill :: s.port.latched.getD []

/-- Bit k of a transfer as XOUT shows it, k from 1 to 136, most significant bit of each byte first:
bits 1 to 8 in COMMAND, bits 9 to 136 in REPLY, where bit 8 stays until the next falling edge, and low
otherwise (R163). -/
def State.xoutBit (s : State) (k : Nat) : Bool :=
  let shown := (s.portBytes.getD ((k - 1) / 8) 0#8).getLsbD (7 - (k - 1) % 8)
  match s.port.phase with
  | .command => decide (1 ≤ k ∧ k ≤ 8) && shown
  | .reply => decide (8 ≤ k ∧ k ≤ 136) && shown
  | .idle | .done => false

/-- The level of the XOUT output: the bit that it shows by now (R163). -/
def State.xout (s : State) : Bool := s.xoutBit s.port.shown

/-- The steps of a pattern: on or off, and its length in ms (R183). -/
def Pattern.steps : Pattern → List (Bool × Nat)
  | .click => [(true, 50)]
  | .double => [(true, 100), (false, 100), (true, 100)]
  | .refuse => [(true, 50), (false, 50), (true, 50)]
  | .alarm => [(true, 500)]

/-- The tone of the pattern that plays is on (R183). -/
def State.toneOn (s : State) : Bool :=
  match s.panel.tone with
  | some t => (t.pattern.steps.getD t.step (false, 0)).1
  | none => false

/-- The level of the TONE output: a square wave of 2048 Hz divided from the crystal while a tone is on, and
low while none is (R183; the wave's phase: assumption log 29). -/
def State.tonePin (s : State) : Bool :=
  s.toneOn && decide (s.panel.toneDivider < Config.tonePeriods / 2)

/-- The contents the display chooses among (R180). -/
inductive DisplayContent where
  | dark
  | error (code : ErrorCode)
  | result (elapsed : Option Nat)
  | runNumber (run : Nat)
  | courseTime (time : Nat)
  deriving DecidableEq, Repr

/-- The content shown: the first whose condition holds; dark while reset is held (R180, R142). -/
def State.display (s : State) : DisplayContent :=
  if s.running then
    match s.station.errors.lowest, s.panel.resultHold, s.panel.runHold with
    | some c, _, _ => .error c
    | none, some h, _ => .result h.elapsed
    | none, none, some h => .runNumber h.run
    | none, none, none => .courseTime s.clock.courseTime
  else .dark

/-- What one digit shows (R181). -/
inductive Glyph where
  | blank
  | dash
  | letterE
  | letterR
  | figure (n : Nat)
  deriving DecidableEq, Repr

/-- The two figures of a number from 0 to 99. -/
def twoFigures (n : Nat) : List Glyph := [.figure (n / 10 % 10), .figure (n % 10)]

/-- The six digits from the left, and whether the points after digits 2 and 4 are lit (R181). -/
def DisplayContent.digits : DisplayContent → List Glyph × Bool
  | .dark => (List.replicate 6 .blank, false)
  | .error c => ([.blank, .blank, .blank, .letterE] ++ twoFigures c.number, false)
  | .result none => (List.replicate 6 .dash, false)
  | .result (some t) =>
    if 6000000 ≤ t then (List.replicate 6 .dash, false)
    else
      let minutes := t / 60000
      ((if minutes < 10 then [.blank, .figure minutes] else twoFigures minutes) ++
        twoFigures (t / 1000 % 60) ++ twoFigures (t / 10 % 100), true)
  | .runNumber r =>
    ([.letterR, .blank, .blank, if r < 100 then .blank else .figure (r / 100 % 10),
      if r < 10 then .blank else .figure (r / 10 % 10), .figure (r % 10)], false)
  | .courseTime t =>
    let h := t % 3600000
    (twoFigures (h / 60000) ++ twoFigures (h / 1000 % 60) ++ twoFigures (h / 10 % 100), true)

/-- The SYNC indicator (R182). -/
def State.syncLit (s : State) : Bool :=
  (s.station.state == .active || s.station.state == .closed) &&
    s.receiver.peers.any (fun p => p.presence == .present)

/-- The RUN indicator (R182). -/
def State.runLit (s : State) : Bool := s.running && s.anyOnCourse

/-- The HELD indicator (R182). -/
def State.heldLit (s : State) : Bool := s.running && s.assign.held

/-- The ERR indicator (R182). -/
def State.errLit (s : State) : Bool := s.running && s.station.errors.lowest.isSome

/-- Whether the station drives the pair dominant (R124, R136). -/
def State.drives (s : State) : Bool := s.line.drives

/-- The level of the pair (R124). -/
def State.lineLevel (s : State) : Bool := s.line.level

end Sys2Proof.Machine
end

