-- ==== Sys2Proof/Machine/Ops.lean ====
section
/-! DEFINITION. The named operations that the commands share: appending results (R159, R160), tones
(R184), errors (R155), the Outbox (R99 to R107), stopping to speak (R104), and the unit's readiness to
send (R131, R132). -/

namespace Sys2Proof.Machine

/-! ### Result Queue -/

/-- What a block hands the queue: the fields of a record without the queue's stamps (R159). -/
structure ResultContents where
  kind : ResultKind
  reason : Reason
  run : Nat
  value : Option Nat
  marks : Marks
  gates : Nat
  deriving DecidableEq, Repr

/-- Whether the discard of the oldest record overtakes the transfer: in REPLY or DONE, where that
record carries the latched sequence (R170). -/
def State.overtakes (s : State) (oldest : ResultRecord) : Bool :=
  (s.port.phase == .reply || s.port.phase == .done) && s.port.latchedSeq == some oldest.seq

/-- Appends a result: stamped with course time, sequence and lost count, it joins the end; in a full
queue the oldest is discarded and counted first (R159, R160, R170). -/
def State.append (s : State) (c : ResultContents) : State :=
  let record : ResultRecord :=
    { kind := c.kind, reason := c.reason, run := c.run, value := c.value
      courseTime := s.clock.courseTime, marks := c.marks, gates := c.gates
      lost := s.results.lost, seq := s.results.counter }
  if s.results.records.length < Config.queueCapacity then
    { s with
      results :=
        { s.results with
          records := s.results.records ++ [record]
          counter := s.results.counter + 1 } }
  else
    { s with
      results :=
        { records := s.results.records.drop 1 ++ [record]
          lost := min 255 (s.results.lost + 1)
          counter := s.results.counter + 1 }
      port :=
        { s.port with
          overtaken :=
            s.port.overtaken ||
              (match s.results.records.head? with
                | some oldest => s.overtakes oldest
                | none => false) } }

/-- A STRAY result (R60, R158): the crossing time as its value, and the MANUAL summary for a TRIP. -/
def State.stray (s : State) (reason : StrayReason) (time : Nat) (manual : Bool) : State :=
  s.append
    { kind := .stray, reason := .stray reason, run := 0, value := some time
      marks := { Marks.none with manual := manual }, gates := 0 }

/-- STRAY results for several entries, in their order (R60). -/
def State.strays (s : State) (reason : StrayReason) : List PendingEntry → State
  | [] => s
  | e :: es => (s.stray reason e.time e.manual).strays reason es

/-! ### Tones and errors -/

/-- Starts a pattern at its first step (R183). -/
def State.playTone (s : State) (p : Pattern) : State :=
  let len := (p.steps.getD 0 (false, 0)).2
  { s with panel := { s.panel with tone := some ⟨p, 0, s.now + len⟩ } }

/-- Requests a pattern: while ALARM plays, only ALARM is taken (R184). -/
def State.requestTone (s : State) (p : Pattern) : State :=
  match s.panel.tone with
  | some t => if t.pattern = .alarm ∧ p ≠ .alarm then s else s.playTone p
  | none => s.playTone p

/-- Raises a code: it enters the pending set with ALARM, unless it is pending already (R155). -/
def State.raise (s : State) (c : ErrorCode) : State :=
  if s.station.errors.has c then s
  else
    { s with station := { s.station with errors := s.station.errors.put true c } }.requestTone .alarm

/-- Removes a code from the pending set (R49, R156). -/
def State.clearError (s : State) (c : ErrorCode) : State :=
  { s with station := { s.station with errors := s.station.errors.put false c } }

/-- Ends the step of the tone that plays: the next step begins, its end counted from the end of the
one before, or the player goes idle (R183; assumption log 8). -/
def State.endToneStep (s : State) : State :=
  match s.panel.tone with
  | some t =>
    match t.pattern.steps[t.step + 1]? with
    | some (_, len) =>
      { s with panel := { s.panel with tone := some ⟨t.pattern, t.step + 1, t.endsAt + len⟩ } }
    | none => { s with panel := { s.panel with tone := none } }
  | none => s

/-! ### Display holds (R180) -/

/-- Starts the RUN NUMBER hold. -/
def State.holdRunNumber (s : State) (run : Nat) : State :=
  { s with panel := { s.panel with runHold := some ⟨s.now + Config.runHoldSpan, run⟩ } }

/-- Starts the RESULT hold. -/
def State.holdResult (s : State) (elapsed : Option Nat) : State :=
  { s with panel := { s.panel with resultHold := some ⟨s.now + Config.resultHoldSpan, elapsed⟩ } }

/-! ### The Outbox ring (R99, R100) -/

/-- The ring with room made for one more entry, or none where all 32 are UNSENT (R100). -/
def ringRoom (ring : List RingEntry) : Option (List RingEntry) :=
  if ring.length < Config.ringCapacity then some ring
  else if ring.any (fun e => e.sent) then some (ring.eraseP (fun e => e.sent))
  else none

/-- Asks the Outbox for a place: the frame takes the next sequence number and joins the ring UNSENT,
or is refused (R99, R100). -/
def State.place (s : State) (epoch : Word16) (p : Payload) : Option State :=
  match ringRoom s.outbox.ring with
  | some ring =>
    some
      { s with
        outbox :=
          { s.outbox with
            ring := ring ++ [⟨⟨⟨s.stationByte, epoch, s.outbox.nextSeq⟩, p⟩, false⟩]
            nextSeq := s.outbox.nextSeq + 1 } }
  | none => none

/-- The oldest retained sequence (R100). -/
def State.oldestRetained (s : State) : Byte :=
  match s.outbox.ring.head? with
  | some e => e.frame.header.seq
  | none => s.outbox.nextSeq

/-- The oldest UNSENT entry's frame (R105). -/
def State.oldestUnsent (s : State) : Option Frame :=
  (s.outbox.ring.find? (fun e => !e.sent)).map (fun e => e.frame)

/-- The ring with its oldest UNSENT entry become SENT (R101). -/
def markSent : List RingEntry → List RingEntry
  | [] => []
  | e :: es => if e.sent then e :: markSent es else { e with sent := true } :: es

/-! ### The Control List (R102) -/

/-- Whether two entries have the same identity (R102). -/
def ControlEntry.same : ControlEntry → ControlEntry → Bool
  | .copy f, .copy g => f.header.seq == g.header.seq
  | .gone r q _, .gone r' q' _ => r == r' && q == q'
  | .askRepeat o q, .askRepeat o' q' => o == o' && q == q'
  | _, _ => false

/-- Offers an entry to the Control List: it joins the end unless one of the same identity is there,
the list is full, or the station is not speaking (R102). -/
def State.addControl (s : State) (e : ControlEntry) : State :=
  if s.speaking ∧ s.outbox.control.length < Config.controlCapacity ∧
      ¬ s.outbox.control.any (fun x => x.same e) then
    { s with outbox := { s.outbox with control := s.outbox.control ++ [e] } }
  else s

/-- Entries that are waiting in the Control List, all but one that is on the line (R120, R122). -/
def State.controlOnLine (s : State) : Nat :=
  match s.line.tx with
  | .sending .control _ _ => 1
  | _ => 0

/-- Removes the waiting REPEATs that a test picks (R110, R118, R120): one on the line is sent on. -/
def State.dropRepeats (s : State) (test : Byte → Byte → Bool) : State :=
  let keep : ControlEntry → Bool := fun e =>
    match e with
    | .askRepeat o q => !test o q
    | .copy _ | .gone _ _ _ => true
  { s with
    outbox :=
      { s.outbox with
        control :=
          s.outbox.control.take s.controlOnLine ++
            (s.outbox.control.drop s.controlOnLine).filter keep } }

/-! ### Speaking and the transmit state -/

/-- The Outbox has a frame ready: one of the three choices of R105 is available (R131). -/
def State.frameReady (s : State) : Bool :=
  !s.outbox.control.isEmpty || s.outbox.beaconDue ||
    (s.outbox.firstBeaconSent && s.outbox.ring.any (fun e => !e.sent))

/-- The gap of R132 for a count that starts now: 76 bit times while the rest is in force, else 12. In the
last stop bit of a frame that went out whole no count runs yet, and the rest is in force where one can
start (R134). -/
def LineUnit.gap (l : LineUnit) : Nat :=
  if l.rest || l.restDue then Config.restBits else Config.gapBits

/-- WAITING with a fresh count: the slot is counted from now where the gap is already reached (R132). -/
def State.startWaiting (s : State) : TxState :=
  .waiting s.line.gap
    (if !s.line.busy && s.line.gap * Config.periodsPerBit ≤ s.line.idlePeriods then some 0 else none)

/-- The unit goes from IDLE to WAITING as soon as the Outbox has a frame ready (R131). -/
def State.settleLine (s : State) : State :=
  if s.line.tx = .idle ∧ s.frameReady then
    { s with line := { s.line with tx := s.startWaiting } }
  else s

/-- The unit after a frame has ended: WAITING if the Outbox has a frame ready, else IDLE (R136, R137). -/
def State.afterFrame (s : State) : State :=
  { s with line := { s.line with tx := if s.frameReady then s.startWaiting else .idle } }

/-- The station stops speaking: the Control List is emptied, the beacon-due flag cleared, the beacon
timer stopped, and the unit goes OFF (R104, R36, R131). -/
def State.stopSpeaking (s : State) : State :=
  { s with
    outbox := { s.outbox with control := [], beaconDue := false, beaconTimer := none }
    line := { s.line with tx := .off }
    station := { s.station with closedSpeaking := false } }

/-! ### The free order of happenings that fall together (assumption log 5) -/

/-- Picks an order for a list by the free value at an index: a list of one is taken as it is. -/
def pickOrder {α : Type} (fuel index : Nat) (l : List α) : List α :=
  match fuel, l with
  | 0, l => l
  | _, [] => []
  | _, [a] => [a]
  | fuel + 1, a :: b :: rest =>
    let l := a :: b :: rest
    let k := Config.freeOrder index % l.length
    (l.drop k).take 1 ++ pickOrder fuel (index + 1) (l.eraseIdx k)

end Sys2Proof.Machine
end

