-- ==== Sys2Proof/Machine/Table.lean ====
section
/-! DEFINITION. The Run Table's operations (spec/01_the_run_table.md): finding or making a record
(R7 to R9), applying a fact to a record (R10 to R12), its results (R19 to R23), the step report (R13),
the clearing (R25), and the start rule of station 0 (R15 to R17). -/

namespace Sys2Proof.Machine

/-! ### Records -/

/-- A new record, before the fact that made it is applied (R7); LEARNED as R11 and R12 give. -/
def newRecord (gates run : Nat) (learned : Bool) : RunRecord :=
  { run := run, start := none, splits := List.replicate (gates - 1) none, voided := false
    dnfed := false, manualStart := false, learned := learned, stepped := false, carriesStepped := false
    corrected := false, reported := none }

/-- The records with one more, in ascending run number. -/
def insertRecord (r : RunRecord) : List RunRecord → List RunRecord
  | [] => [r]
  | x :: xs => if r.run < x.run then r :: x :: xs else x :: insertRecord r xs

/-- The records with the record of the same run replaced. -/
def replaceRecord (r : RunRecord) (l : List RunRecord) : List RunRecord :=
  l.map (fun x => if x.run = r.run then r else x)

/-- The table with other records. -/
def State.withRecords (s : State) (l : List RunRecord) : State :=
  { s with table := { s.table with records := l } }

/-- The eviction floor raised to a run (R9). -/
def State.raiseFloor (s : State) (run : Nat) : State :=
  { s with table := { s.table with floor := max s.table.floor run } }

/-- Evicts a run's record and raises the floor to it (R9). -/
def State.evict (s : State) (run : Nat) : State :=
  (s.withRecords (s.table.records.filter (fun r => r.run != run))).raiseFloor run

/-! ### Applying a fact to a record (R10 to R12) -/

/-- An absent start time is filled (R10, R11). Every mark stays as it was (R1, R14). -/
def RunRecord.fillStart (r : RunRecord) (start : Option Nat) : RunRecord :=
  { r with start := r.start <|> start }

/-- A START (R10). -/
def RunRecord.takeStart (r : RunRecord) (time : Nat) (manual : Bool) : RunRecord :=
  { r.fillStart (some time) with manualStart := r.manualStart || manual }

/-- A CROSS: an absent start time is filled, then an empty slot of the gate (R11). -/
def RunRecord.takeCross (r : RunRecord) (gate : Nat) (start : Option Nat) (p : Split) : RunRecord :=
  { r.fillStart start with
    splits := if r.passed gate then r.splits else r.splits.set (gate - 1) (some p) }

/-- A RULING: the verdict joins the rulings set (R12). -/
def RunRecord.takeRuling (r : RunRecord) : Verdict → RunRecord
  | .void => { r with voided := true }
  | .dnf => { r with dnfed := true }

/-- A fact applied to the record of the run it names. -/
def RunRecord.take (r : RunRecord) : Fact → RunRecord
  | .start _ t m => r.takeStart t m
  | .cross _ g t st m l d => r.takeCross g st ⟨t, m, l, d⟩
  | .ruling _ v => r.takeRuling v

/-! ### Results (R19 to R22) -/

/-- The kind of a settlement (R20). -/
def RunState.kind : RunState → ResultKind
  | .finished => .finished
  | .dnf => .dnf
  | .void => .void
  | .onCourse => .noRecord

/-- The value of a settlement or CORRECTION: the elapsed time for FINISHED, else none (R20). -/
def RunRecord.resultValue (r : RunRecord) : Option Nat :=
  if r.state = .finished then r.elapsed else none

/-- A result of a record, of a kind and with a reason (R20). -/
def RunRecord.contents (r : RunRecord) (kind : ResultKind) (reason : Reason) : ResultContents :=
  { kind := kind, reason := reason, run := r.run, value := r.resultValue, marks := r.marks
    gates := r.gatesPassed }

/-- A FINISHED settlement or correction is handed to the Panel Unit: the RESULT hold, and at the
finish station the DOUBLE (R20, R180, R184). -/
def State.handFinished (s : State) (r : RunRecord) : State :=
  if r.state = .finished then
    if s.isFinish then (s.holdResult r.elapsed).requestTone .double else s.holdResult r.elapsed
  else s

/-- Stores a record a fact has changed and appends the result due (R19). -/
def State.settle (s : State) (r : RunRecord) : State :=
  if r.state = .onCourse ∨ r.reported = some r.state then
    s.withRecords (replaceRecord r s.table.records)
  else
    match r.reported with
    | none =>
      let r' := { r with reported := some r.state }
      ((s.withRecords (replaceRecord r' s.table.records)).append
        (r'.contents r.state.kind .empty)).handFinished r'
    | some _ =>
      let r' := { r with reported := some r.state, corrected := true }
      ((s.withRecords (replaceRecord r' s.table.records)).append
        (r'.contents .correction (.newState r.state))).handFinished r'

/-- A DROPPED result for a record that is evicted ON_COURSE (R22). -/
def State.reportDropped (s : State) (r : RunRecord) : State :=
  s.append
    { kind := .dropped, reason := .empty, run := r.run, value := none, marks := r.marks
      gates := r.gatesPassed }

/-- Drops a named run that has no record: DROPPED, and the floor raised to it (R8, R22). -/
def State.dropNamed (s : State) (run : Nat) : State :=
  (s.append
    { kind := .dropped, reason := .empty, run := run, value := none, marks := Marks.none
      gates := 0 }).raiseFloor run

/-! ### Admission (R7, R8) -/

/-- The table with a new record for a run. -/
def State.create (s : State) (run : Nat) (learned : Bool) : State :=
  s.withRecords (insertRecord (newRecord s.gates run learned) s.table.records)

/-- Finds or makes the record of a run; the Bool says whether there is one afterwards (R7, R8). -/
def State.enrol (s : State) (run : Nat) (learned : Bool) : State × Bool :=
  if (s.lookup run).isSome then (s, true)
  else if run ≤ s.table.floor then (s, false)
  else if s.table.records.length < Config.tableCapacity then (s.create run learned, true)
  else
    match s.table.records.find? (fun r => r.settled) with
    | some r => ((s.evict r.run).create run learned, true)
    | none =>
      if s.number = 0 then (s.dropNamed run, false)
      else
        match s.table.records.head? with
        | some low =>
          if run < low.run then (s.dropNamed run, false)
          else (((s.reportDropped low).evict low.run).create run learned, true)
        | none => (s, false)

/-- The table with another next-run counter (R15). -/
def State.withNextRun (s : State) (n : Nat) : State :=
  { s with table := { s.table with nextRun := n } }

/-- Station 0's counter follows a fact that names a run at or above it (R15). -/
def State.raiseCounter (s : State) (run : Nat) : State :=
  if s.number = 0 ∧ s.table.nextRun ≤ run then s.withNextRun (run + 1) else s

/-- Whether a fact that took a record from `old` to `new` gives a table notice (R26). -/
def noticeDue (old new : RunRecord) : Bool :=
  (old.start.isNone && new.start.isSome) || (!old.settled && new.settled)

/-- Takes a fact: the counter, the record, the fact, the result; the Bool says whether the Run Table
gives a notice for it (R7 to R12, R15, R19, R26). -/
def State.takeFact (s : State) (f : Fact) : State × Bool :=
  let s1 := s.raiseCounter f.run
  let known := (s1.lookup f.run).isSome
  let admitted := s1.enrol f.run f.learns
  if admitted.2 then
    match admitted.1.lookup f.run with
    | some r => (admitted.1.settle (r.take f), !known || noticeDue r (r.take f))
    | none => (admitted.1, false)
  else (admitted.1, false)

/-! ### The step report and the clearing -/

/-- The STEPPED mark of a step, which stays for the life of the record (R1, R13). A run whose start time is
not known yet does not carry the mark of this step to the Assignment Unit (R13; assumption log 28). -/
def RunRecord.step (r : RunRecord) : RunRecord :=
  { r with stepped := true, carriesStepped := r.carriesStepped || r.start.isSome }

/-- Every ON_COURSE record receives the STEPPED mark (R13, R32). -/
def State.markStepped (s : State) : State :=
  s.withRecords (s.table.records.map (fun r => if r.settled then r else r.step))

/-- The clearing at a session change (R25). -/
def State.clearTable (s : State) : State :=
  { s with table := { s.table with records := [], floor := 0, nextRun := 1 } }

/-! ### The start rule (R16, R17) -/

/-- The START payload of an accepted start (R17). -/
def startPayload (run time : Nat) (manual : Bool) : Payload :=
  .start ⟨BitVec.ofNat 16 run, BitVec.ofNat 32 time, if manual then 0x01#8 else 0x00#8⟩

/-- All 48 records are ON_COURSE (R16). -/
def State.tableFull (s : State) : Bool :=
  Config.tableCapacity ≤ s.table.records.length && s.table.records.all (fun r => !r.settled)

/-- A crossing at station 0 in ACTIVE (R16, R17). -/
def State.startRule (s : State) (time : Nat) (manual : Bool) : State :=
  if Config.maxRun < s.table.nextRun then (s.stray .runLimit time manual).raise .e07
  else if s.tableFull then (s.stray .tableFull time manual).raise .e08
  else
    match s.place s.epoch (startPayload s.table.nextRun time manual) with
    | none => (s.stray .outboxFull time manual).raise .e06
    | some s1 =>
      let s2 := s1.withNextRun (s.table.nextRun + 1)
      let s3 := (s2.takeFact (.start s.table.nextRun time manual)).1
      (s3.holdRunNumber s.table.nextRun).requestTone .click

end Sys2Proof.Machine
end

