-- ==== Sys2Proof/Machine/Crossing.lean ====
section
/-! DEFINITION. The Assignment Unit's operations (spec/04_crossing_assignment.md): taking a crossing
(R59 to R62), the matching walk (R63 to R67), expiry (R68), leaving ACTIVE (R70), HELD (R74 to R76). -/

namespace Sys2Proof.Machine

/-! ### Eligibility (R63) -/

/-- A run is eligible at station g. -/
def RunRecord.eligible (r : RunRecord) (g : Nat) : Bool :=
  r.state == .onCourse && r.start.isSome && !r.passed g && r.highestGate < g

/-- A run's start time is earlier than a crossing time. -/
def RunRecord.precedes (r : RunRecord) (time : Nat) : Bool :=
  match r.start with
  | some st => st < time
  | none => false

/-- The run an entry is matched to: the lowest-numbered eligible run that can precede it (R64). -/
def State.candidateRun (s : State) (e : PendingEntry) : Option RunRecord :=
  s.table.records.find? (fun r => r.eligible s.number && r.precedes e.time)

/-! ### The matching walk (R64 to R67) -/

/-- The list with other entries. -/
def State.withEntries (s : State) (l : List PendingEntry) : State :=
  { s with assign := { s.assign with entries := l } }

/-- The CROSS flags byte: bit 0 MANUAL, bit 1 LATE, bit 2 DISTURBED (R187). -/
def crossFlags (manual late disturbed : Bool) : Byte :=
  (if manual then 0x01#8 else 0x00#8) ||| (if late then 0x02#8 else 0x00#8) |||
    (if disturbed then 0x04#8 else 0x00#8)

/-- A start time as a frame carries it (R187). -/
def timeBytes (t : Option Nat) : Word32 :=
  match t with
  | some t => BitVec.ofNat 32 t
  | none => 0xFFFFFFFF#32

/-- The CROSS payload made from an entry for a run at station g (R65). -/
def crossPayload (g : Nat) (e : PendingEntry) (r : RunRecord) : Payload :=
  .cross
    ⟨BitVec.ofNat 16 r.run, BitVec.ofNat 8 g, BitVec.ofNat 32 e.time, timeBytes r.start,
      crossFlags e.manual (!e.joining) r.carriesStepped⟩

/-- Makes a CROSS for a run from an entry: the frame, the fact, the RUN NUMBER hold and CLICK (R65),
or STRAY OUTBOX FULL and E06 (R66). -/
def State.makeCross (s : State) (e : PendingEntry) (r : RunRecord) : State :=
  match s.place s.epoch (crossPayload s.number e r) with
  | none => (s.stray .outboxFull e.time e.manual).raise .e06
  | some s1 =>
    let s2 :=
      (s1.takeFact (.cross r.run s.number e.time r.start e.manual (!e.joining) r.carriesStepped)).1
    let s3 := s2.holdRunNumber r.run
    if s.isFinish then s3 else s3.requestTone .click

/-- Walks entries oldest first; gives the state and the entries that stay (R64). -/
def State.walkEntries (s : State) : List PendingEntry → State × List PendingEntry
  | [] => (s, [])
  | e :: es =>
    match s.candidateRun e with
    | none =>
      let rest := s.walkEntries es
      (rest.1, e :: rest.2)
    | some r => (s.makeCross e r).walkEntries es

/-- A matching walk, at stations 1 to N−1 in ACTIVE (R67). -/
def State.walk (s : State) : State :=
  if s.isAssigner ∧ s.isActive then
    let walked := s.walkEntries s.assign.entries
    walked.1.withEntries walked.2
  else s

/-- Takes a fact and runs the walk on its notice, which stations 1 to N−1 alone give (R26, R67). -/
def State.takeFactAndWalk (s : State) (f : Fact) : State :=
  let taken := s.takeFact f
  if taken.2 then taken.1.walk else taken.1

/-! ### Taking a crossing (R59 to R62) -/

/-- An entry at the place its crossing time gives it: after every entry earlier or equal (R62). -/
def insertEntry (e : PendingEntry) : List PendingEntry → List PendingEntry
  | [] => [e]
  | x :: xs => if e.time < x.time then e :: x :: xs else x :: insertEntry e xs

/-- The end of a joining walk: a joined entry whose deadline is already reached expires, and the
joining mark is cleared (R67, R68). -/
def State.endJoining (s : State) : State :=
  let expired := s.assign.entries.filter (fun e => e.joining && decide (e.deadline ≤ s.now))
  let kept := s.assign.entries.filter (fun e => !(e.joining && decide (e.deadline ≤ s.now)))
  (s.withEntries (kept.map (fun e => { e with joining := false }))).strays .noRun expired

/-- A crossing joins the list: the oldest entry of a full list is displaced, the new one takes its
place, and its joining walk runs (R61, R62, R67). -/
def State.join (s : State) (time : Nat) (manual : Bool) : State :=
  let displaced := s.assign.entries.take (s.assign.entries.length - (Config.pendingCapacity - 1))
  let kept := s.assign.entries.drop (s.assign.entries.length - (Config.pendingCapacity - 1))
  let e : PendingEntry := ⟨time, manual, time + Config.pendingWait, true⟩
  ((s.strays .displaced displaced).withEntries (insertEntry e kept)).walk.endJoining

/-- A crossing taken at stations 1 to N−1: by state, then by HELD (R59). -/
def State.takeCrossing (s : State) (time : Nat) (manual : Bool) : State :=
  match s.station.state with
  | .closed => s.stray .closed time manual
  | .mute => s.stray .mute time manual
  | .active => if s.assign.held then s.stray .held time manual else s.join time manual
  | .reset | .configFault | .listening => s

/-! ### Expiry and leaving (R68, R70) -/

/-- Every entry whose deadline is reached leaves as STRAY NO RUN, oldest first (R68). -/
def State.expireEntries (s : State) : State :=
  (s.withEntries (s.assign.entries.filter (fun e => !decide (e.deadline ≤ s.now)))).strays .noRun
    (s.assign.entries.filter (fun e => decide (e.deadline ≤ s.now)))

/-- Every entry leaves as a STRAY with a reason, oldest first (R70, R75). -/
def State.strayEntries (s : State) (reason : StrayReason) : State :=
  (s.withEntries []).strays reason s.assign.entries

/-! ### HELD (R74 to R76) -/

/-- Sets HELD, or raises its boundary, after a loss or a late join from station 0; `second` is the
highest run known that station 0 reported (R75). -/
def State.setHeld (s : State) (second : Nat) : State :=
  if s.isAssigner ∧ s.onCourse then
    let b := max s.highestKnown second + 1
    if s.assign.held then
      { s with assign := { s.assign with boundary := max s.assign.boundary b } }
    else
      { s with assign := { s.assign with held := true, boundary := b } }.strayEntries .held
  else s

/-- Whether station 0's oldest on-course field releases HELD: 0, or at or above the boundary, and not
above 999 (R76). -/
def State.releases (s : State) (oldest : Nat) : Bool :=
  oldest == 0 || (decide (s.assign.boundary ≤ oldest) && decide (oldest ≤ Config.maxRun))

/-- HELD is released by station 0's beacon (R76). -/
def State.releaseHeld (s : State) (oldest : Nat) : State :=
  if s.isAssigner ∧ s.onCourse ∧ s.assign.held ∧ s.releases oldest then
    { s with assign := { s.assign with held := false, boundary := 0 } }
  else s

/-- The HELD decision at entry to ACTIVE (R74). -/
def State.decideHeld (s : State) : State :=
  if s.isAssigner ∧ s.assign.recEpoch = s.epoch ∧ s.assign.recOldest ≠ 0 then
    { s with assign := { s.assign with held := true, boundary := s.assign.recHighest + 1 } }
  else s

/-- The clearing at a session change (R71). -/
def State.clearAssign (s : State) : State :=
  { s with assign := { s.assign with entries := [], held := false, boundary := 0 } }

end Sys2Proof.Machine
end

