-- ==== Sys2Proof/Machine/Session.lean ====
section
/-! DEFINITION. Rulings (R78 to R80), the epoch and new sessions (R83 to R91), the 24-hour close (R38),
entry to MUTE (R152), the acknowledge request (R156), and the hand-over of a crossing (R50, R51, R53):
operations that reach several blocks at once. -/

namespace Sys2Proof.Machine

/-! ### The session change (R90) and new sessions (R88) -/

/-- The session change, naming a peer: the Run Table and the Assignment Unit are cleared, and a
SESSION result is appended (R90). -/
def State.changeSession (s : State) (peer : Nat) : State :=
  s.clearTable.clearAssign.append
    { kind := .session, reason := .station peer, run := 0, value := some s.epoch.toNat
      marks := Marks.none, gates := 0 }

/-- The station with another epoch (R83). -/
def State.withEpoch (s : State) (epoch : Word16) : State := { s with epoch := epoch }

/-- Adopts a higher epoch from a peer's frame (R86). -/
def State.adoptEpoch (s : State) (epoch : Word16) (peer : Nat) : State :=
  (s.withEpoch epoch).changeSession peer

/-- A new-session request in ACTIVE (R88). -/
def State.newSession (s : State) : State :=
  if s.epoch.toNat = 65535 then (s.raise .e09).requestTone .refuse
  else
    match s.place (s.epoch + 1) (.session ⟨s.epoch⟩) with
    | none => (s.raise .e06).requestTone .refuse
    | some s1 =>
      ((s1.withEpoch (s.epoch + 1)).changeSession s.number).requestTone .click

/-- Founding or adopting at the end of LISTENING (R85). -/
def State.settleEpoch (s : State) : State :=
  if s.epoch = 0#16 then s.withEpoch 1#16 else s

/-! ### Rulings (R78 to R80) -/

/-- The verdict byte of a RULING (R187). -/
def Verdict.code : Verdict → Byte
  | .void => 0x01#8
  | .dnf => 0x02#8

/-- The target of a request: VOID the newest, DNF the oldest on-course run, or 0 (R78). -/
def State.target (s : State) : Verdict → Nat
  | .void => s.newestOnCourse
  | .dnf => s.oldestOnCourse

/-- A ruling request in ACTIVE (R79). -/
def State.rulingRequest (s : State) (v : Verdict) : State :=
  let run := s.target v
  if run = 0 then s.requestTone .refuse
  else
    match s.place s.epoch (.ruling ⟨BitVec.ofNat 16 run, v.code⟩) with
    | none => (s.raise .e06).requestTone .refuse
    | some s1 => (s1.takeFactAndWalk (.ruling run v)).requestTone .click

/-! ### The acknowledge request (R156) -/

/-- ACK: the lowest pending code is removed if it is E04 to E09 (R156), with CLICK, or the request
is refused with REFUSE (R175). -/
def State.acknowledge (s : State) : State :=
  match s.station.errors.lowest with
  | some c => if c.acknowledged then (s.clearError c).requestTone .click else s.requestTone .refuse
  | none => s.requestTone .refuse

/-! ### The 24-hour close (R38) -/

/-- The station with another state. -/
def State.enter (s : State) (state : StationState) : State :=
  { s with station := { s.station with state := state } }

/-- Course time has reached the limit in ACTIVE or MUTE: the station enters CLOSED, a list held in
ACTIVE leaving as STRAY CLOSED (R70), raises E10, and appends a CLOSED result (R38). A station that
closes from ACTIVE goes on speaking (R104). -/
def State.close (s : State) : State :=
  let speaking := s.isActive
  let s1 := { s with station := { s.station with state := .closed, closedSpeaking := speaking } }
  ((s1.strayEntries .closed).raise .e10).append
    { kind := .closed, reason := .empty, run := 0, value := some s.epoch.toNat
      marks := Marks.none, gates := 0 }

/-- Closes a station in ACTIVE or MUTE whose course time stands at the limit (R38, R39, R152). -/
def State.closeAtLimit (s : State) : State :=
  if s.clock.courseTime = Config.timeLimit ∧
      (s.station.state = .active ∨ s.station.state = .mute) then s.close
  else s

/-! ### MUTE (R152) -/

/-- Gate Capture released in ARMED with the first-sample condition in force (R54). -/
def State.releaseGate (s : State) : State :=
  { s with
    gate :=
      { s.gate with
        capture := .armed, candidate := none, confirm := 0, holdoff := 0, blocked := 0
        firstSample := true } }

/-- Entry to MUTE from ACTIVE: the station stops speaking and every pending crossing leaves as STRAY
MUTE (R152, R70, R104). -/
def State.muteFromActive (s : State) : State := ((s.enter .mute).stopSpeaking).strayEntries .mute

/-- Entry to MUTE from LISTENING: the epoch is settled, Gate Capture released, and the station closes
at once where course time stands at the limit (R152, R85, R39). -/
def State.muteFromListening (s : State) : State :=
  (s.settleEpoch.enter .mute).releaseGate.closeAtLimit

/-- What a silencing error does after it is raised: MUTE from LISTENING or ACTIVE, and in CLOSED the
end of speaking (R109, R139, R152, R153). -/
def State.silence (s : State) : State :=
  match s.station.state with
  | .listening => s.muteFromListening
  | .active => s.muteFromActive
  | .closed => s.stopSpeaking
  | .mute | .reset | .configFault => s

/-! ### Handing a crossing on (R50, R51, R53) -/

/-- An accepted sensor crossing, by role and station state (R50, R51). -/
def State.handSensor (s : State) (time : Nat) : State :=
  if s.number = 0 then
    match s.station.state with
    | .active => s.startRule time false
    | .mute => s.stray .mute time false
    | .closed => s.stray .closed time false
    | .reset | .configFault | .listening => s
  else s.takeCrossing time false

/-- A TRIP crossing at a gate station in ACTIVE (R53). -/
def State.handTrip (s : State) (time : Nat) : State :=
  if s.number = 0 then s.startRule time true else s.takeCrossing time true

end Sys2Proof.Machine
end

