-- ==== Sys2Proof/Machine/Keys.lean ====
section
/-! DEFINITION. The operator's keys (spec/10_operator_panel.md): KEY_CANDIDATE_LATCH, TRIP_PRESS,
ACK_PRESS, TRIP_OR_ACK_RELEASE, RULING_KEY_PRESS, RULING_KEY_LONG, RULING_KEY_RELEASE,
COMBINATION_FIRES. A change is accepted where its filter is changing; the count of 20 is then taken as
reached (assumption log 2). -/

namespace Sys2Proof.Machine

/-! ### Filters (R174) -/

/-- A key's filter. -/
def Panel.filter (p : Panel) : Key → KeyFilter
  | .trip => p.trip
  | .void => p.void
  | .dnf => p.dnf
  | .ack => p.ack

/-- The panel with a key's filter changed. -/
def Panel.putFilter (p : Panel) (f : KeyFilter) : Key → Panel
  | .trip => { p with trip := f }
  | .void => { p with void := f }
  | .dnf => { p with dnf := f }
  | .ack => { p with ack := f }

/-- The station with its panel changed. -/
def State.withPanel (s : State) (p : Panel) : State := { s with panel := p }

/-- A sample at a course time: one that agrees with the filtered level sets the change count to 0; the
first that differs latches the candidate time; each that differs raises the count, short of the
twentieth, which is an acceptance (R174). -/
def KeyFilter.sample (f : KeyFilter) (down : Bool) (time : Nat) : KeyFilter :=
  if down = f.pressed then { f with down := down, change := 0 }
  else if f.change = 0 then { f with down := down, change := 1, candidate := some time }
  else { f with down := down, change := min (f.change + 1) (Config.filterSamples - 1) }

/-- A change that a filter can accept: to a level it is changing to, in a station that samples its keys
(R174, R178). -/
def State.accepts (s : State) (k : Key) (press : Bool) : Bool :=
  s.running && (s.panel.filter k).pressed != press && (s.panel.filter k).change != 0

/-- The filter once a change is accepted (R174). -/
def KeyFilter.accept (f : KeyFilter) (press : Bool) : KeyFilter :=
  { f with pressed := press, change := 0, down := press }

/-- The station with a key's change accepted. -/
def State.acceptKey (s : State) (k : Key) (press : Bool) : State :=
  s.withPanel (s.panel.putFilter ((s.panel.filter k).accept press) k)

/-- KEY_CANDIDATE_LATCH (R174): one sample of a key. -/
def execKeyCandidateLatch (key : Key) (down : Bool) (s : State) :
    Host.Outcome State Fault Refusal :=
  .next
    (if s.running then
      s.withPanel
        (s.panel.putFilter ((s.panel.filter key).sample down s.clock.courseTime) key)
    else s)

/-- The key of a TRIP or ACK release. -/
def PlainKey.key : PlainKey → Key
  | .trip => .trip
  | .ack => .ack

/-- TRIP_OR_ACK_RELEASE (R174, R175). -/
def execTripOrAckRelease (key : PlainKey) (s : State) : Host.Outcome State Fault Refusal :=
  .next
    (if s.accepts (PlainKey.key key) false then s.acceptKey (PlainKey.key key) false else s)

/-- TRIP_PRESS (R175, R53): in ACTIVE at a gate station a MANUAL crossing with the press time, handed
on by role; otherwise refused (R178). -/
def execTripPress (s : State) : Host.Outcome State Fault Refusal :=
  .next
    (if s.accepts .trip true then
      let s1 := s.acceptKey .trip true
      if s.isActive ∧ s.isGateStation then
        (s1.handTrip (s.panel.trip.candidate.getD s.clock.courseTime)).settleLine
      else s1.requestTone .refuse
    else s)

/-- ACK_PRESS (R156, R175). -/
def execAckPress (s : State) : Host.Outcome State Fault Refusal :=
  .next (if s.accepts .ack true then (s.acceptKey .ack true).acknowledge else s)

/-! ### The ruling keys (R176, R177) -/

/-- The key of a ruling key. -/
def RulingKey.key : RulingKey → Key
  | .void => .void
  | .dnf => .dnf

/-- The other ruling key. -/
def RulingKey.other : RulingKey → RulingKey
  | .void => .dnf
  | .dnf => .void

/-- The verdict of a ruling key (R176). -/
def RulingKey.verdict : RulingKey → Verdict
  | .void => .void
  | .dnf => .dnf

/-- A ruling key's hold. -/
def Panel.hold (p : Panel) : RulingKey → RulingHold
  | .void => p.voidHold
  | .dnf => p.dnfHold

/-- The panel with a ruling key's hold changed. -/
def Panel.putHold (p : Panel) (h : RulingHold) : RulingKey → Panel
  | .void => { p with voidHold := h }
  | .dnf => { p with dnfHold := h }

/-- A ruling key's filtered level is pressed. -/
def State.held (s : State) (k : RulingKey) : Bool := (s.panel.filter (RulingKey.key k)).pressed

/-- An accepted press of a ruling key (R176, R177): the hold starts at 20; the key is spoiled where the
other is pressed or the station is not ACTIVE, and spoils the other; with the other pressed in ACTIVE
the combination count starts at 20. -/
def State.pressRuling (s : State) (k : RulingKey) : State :=
  let both := s.held (RulingKey.other k)
  let p1 :=
    (s.acceptKey (RulingKey.key k) true).panel.putHold
      ⟨Config.filterSamples, both || !s.isActive⟩ k
  let p2 :=
    if both then
      p1.putHold { p1.hold (RulingKey.other k) with spoiled := true } (RulingKey.other k)
    else p1
  let p3 :=
    if both ∧ s.isActive then { p2 with comboRunning := true, comboCount := Config.filterSamples }
    else p2
  s.withPanel p3

/-- RULING_KEY_PRESS (R176): refused with REFUSE where the station is not ACTIVE (R178). -/
def execRulingKeyPress (key : RulingKey) (s : State) : Host.Outcome State Fault Refusal :=
  .next
    (if s.accepts (RulingKey.key key) true then
      if s.isActive then s.pressRuling key else (s.pressRuling key).requestTone .refuse
    else s)

/-- RULING_KEY_LONG (R176): the hold count of a pressed key reaches 1000. -/
def execRulingKeyLong (key : RulingKey) (s : State) : Host.Outcome State Fault Refusal :=
  .next
    (if s.running ∧ s.held key ∧ (s.panel.hold key).count < Config.longHold then
      s.withPanel (s.panel.putHold ⟨Config.longHold, true⟩ key)
    else s)

/-- An accepted release of a ruling key: the combination count is stopped (R177). -/
def State.releaseRuling (s : State) (k : RulingKey) : State :=
  let s1 := s.acceptKey (RulingKey.key k) false
  s1.withPanel { s1.panel with comboRunning := false, comboCount := 0 }

/-- RULING_KEY_RELEASE (R176): nothing where the key is spoiled, a ruling request in ACTIVE, and REFUSE
otherwise. -/
def execRulingKeyRelease (key : RulingKey) (s : State) : Host.Outcome State Fault Refusal :=
  .next
    (if s.accepts (RulingKey.key key) false then
      let s1 := s.releaseRuling key
      if (s.panel.hold key).spoiled then s1
      else if s.isActive then (s1.rulingRequest (RulingKey.verdict key)).settleLine
      else s1.requestTone .refuse
    else s)

/-- The combination fired: the count stops at 3000 and both keys are spoiled (R177). -/
def Panel.fired (p : Panel) : Panel :=
  { p with
    comboRunning := false
    comboCount := Config.comboFires
    voidHold := { p.voidHold with spoiled := true }
    dnfHold := { p.dnfHold with spoiled := true } }

/-- COMBINATION_FIRES (R177): a new-session request in ACTIVE, and REFUSE otherwise. -/
def execCombinationFires (s : State) : Host.Outcome State Fault Refusal :=
  .next
    (if s.running ∧ s.panel.comboRunning then
      let s1 := s.withPanel s.panel.fired
      if s.isActive then s1.newSession.settleLine else s1.requestTone .refuse
    else s)

end Sys2Proof.Machine
end

