-- ==== Sys2Proof/Machine/Line.lean ====
section
/-! DEFINITION. The Line Access Unit (spec/07_the_timing_line.md): BYTE_TAKEN, BAD_FRAME_DROPPED,
FRAME_ABANDONED, WAITING_FOR_A_FRAME, LINE_BUSY, LINE_DEFER, REST_END, TRANSMIT_START,
TRANSMIT_COMPLETE, READBACK_MISMATCH. -/

namespace Sys2Proof.Machine

/-- The unit with its line state changed. -/
def State.withLine (s : State) (l : LineUnit) : State := { s with line := l }

/-! ### Receiving bytes (R126 to R130) -/

/-- The receiver's condition after a byte in a frame: the length byte is tested, and the last check
byte completes the frame (R128). The second part is a frame that is complete. -/
def frameByte (bytes : List Byte) : RxState × Option (List Byte) :=
  if bytes.length < 7 then (.inFrame bytes, none)
  else
    let len := (bytes.getD 6 0#8).toNat
    if 12 < len then (.ignoring, none)
    else if bytes.length < 9 + len then (.inFrame bytes, none)
    else (.ignoring, some bytes)

/-- A whole byte, by the receiver's condition (R128). -/
def RxState.takeByte (r : RxState) (b : Byte) : RxState × Option (List Byte) :=
  match r with
  | .ignoring => (.ignoring, none)
  | .waiting => if b = preamble then (.inFrame [b], none) else (.ignoring, none)
  | .inFrame bytes => frameByte (bytes ++ [b])

/-- A busy line gives up a count of gap and slot: the next count starts from its gap (R133). -/
def TxState.giveUpCount (tx : TxState) (gap : Nat) : TxState :=
  match tx with
  | .waiting _ _ => .waiting gap none
  | .off => .off
  | .idle => .idle
  | .sending source frame periods => .sending source frame periods

/-- The line becomes busy: the idle run and a rest timer in force are at 0, and a count of gap and slot is
given up (R126, R133, R134). -/
def LineUnit.madeBusy (l : LineUnit) : LineUnit :=
  { l with
    tx := l.tx.giveUpCount l.gap
    idlePeriods := 0
    restPeriods := if l.rest then 0 else l.restPeriods }

/-- The stop bit of the byte being received has been read, and its second half is on the line (R127). -/
def LineUnit.inStopBit (l : LineUnit) : Bool :=
  match l.reading with
  | some r => decide (Config.stopBitMiddle ≤ r.periods)
  | none => false

/-- The rest comes into force, its timer at 0, where the last stop bit of a frame that went out whole has
ended (R134). -/
def LineUnit.settleRest (l : LineUnit) : LineUnit :=
  if l.restDue && !l.inStopBit then { l with rest := true, restPeriods := 0, restDue := false } else l

/-- The byte being received once the line goes from recessive to dominant: the edge begins a byte where no
byte is being received (R127).

DESIGN CHOICE (assumption log 31): in the second half of a stop bit, which R127 has read and R126 has still
going on, an edge begins the next byte. And where a first level has ended before the middle of its bit and a
second edge comes before that middle, R127 does not say which of the two edges times the bits if the line is
dominant at the middle: here it is the first, whose middle is still being waited for. -/
def LineUnit.edge (l : LineUnit) : Option Reading :=
  if l.dominant then l.reading
  else if l.reading.isNone || l.inStopBit then some ⟨0, []⟩
  else l.reading

/-- A dominant level appears that others hold (R126, R127). -/
def LineUnit.fall (l : LineUnit) : LineUnit :=
  { l.madeBusy with dominant := true, reading := l.edge }.settleRest

/-- What is being received once a whole byte has been taken: the rest of its stop bit where its own count
gave it, and otherwise nothing, or the next byte of the frame that this station drives (R125, R127). -/
def LineUnit.afterByte (l : LineUnit) (sending : Bool) : Option Reading :=
  if l.inStopBit then l.reading else if sending then some ⟨0, []⟩ else none

/-- A dominant level that begins no byte stays on the line: a byte has had a framing error (R127). -/
def LineUnit.heldDominant (l : LineUnit) : LineUnit :=
  { l.madeBusy with dominant := true, reading := none, rx := .ignoring }.settleRest

/-- BYTE_TAKEN (R127, R128): a whole byte is taken by the receiver's condition, and the line is idle from
the end of its stop bit on; after a framing error it is busy until the dominant level ends. A complete
frame is kept for the Receiver where it receives (R130). -/
def execByteTaken (ended : ByteEnd) (s : State) : Host.Outcome State Fault Refusal :=
  .next
    (if s.running then
      match ended with
      | .byte b =>
        let taken := s.line.rx.takeByte b
        s.withLine
          { s.line.madeBusy with
            dominant := false
            reading := s.line.afterByte s.sending
            rx := taken.1
            complete :=
              match taken.2 with
              | some bytes => if s.receives then some bytes else none
              | none => s.line.complete }.settleRest
      | .framingError => s.withLine s.line.heldDominant
    else s)

/-- BAD_FRAME_DROPPED (R130): a complete frame goes with no effect outside the unit. -/
def execBadFrameDropped (s : State) : Host.Outcome State Fault Refusal :=
  .next
    (if s.running then s.withLine { s.line with rx := .ignoring, complete := none } else s)

/-- The idle run has passed 10 bit times (R128, R129), and with it a rest timer in force (R134). -/
def LineUnit.idlePassed (l : LineUnit) : LineUnit :=
  let passed := Config.abandonBits * Config.periodsPerBit + 1
  let idle := { l with dominant := false, reading := none }.settleRest
  { idle with
    idlePeriods := max idle.idlePeriods passed
    restPeriods := if idle.rest then max idle.restPeriods passed else idle.restPeriods }

/-- FRAME_ABANDONED (R129): a frame in progress is dropped whole; after an idle run past 10 the
receiver goes straight on to waiting for a frame. -/
def execFrameAbandoned (cause : AbandonCause) (s : State) : Host.Outcome State Fault Refusal :=
  .next
    (match s.line.rx with
      | .inFrame _ =>
        if s.running then
          match cause with
          | .idleRun => s.withLine { s.line.idlePassed with rx := .waiting }
          | .framingError => s.withLine s.line.heldDominant
          | .lengthAbove => s.withLine { s.line with rx := .ignoring }
        else s
      | .waiting | .ignoring => s)

/-- WAITING_FOR_A_FRAME (R128): while ignoring, the idle run passes 10 bit times. -/
def execWaitingForAFrame (s : State) : Host.Outcome State Fault Refusal :=
  .next
    (if s.running ∧ s.line.rx = .ignoring then
      s.withLine { s.line.idlePassed with rx := .waiting }
    else s)

/-! ### Taking the line (R131 to R135) -/

/-- The unit is counting the gap and the slot. -/
def State.isWaiting (s : State) : Bool :=
  match s.line.tx with
  | .waiting _ _ => true
  | .off | .idle | .sending _ _ _ => false

/-- LINE_BUSY (R126, R127, R134): a dominant level of another station's appears while the unit is not
WAITING. -/
def execLineBusy (s : State) : Host.Outcome State Fault Refusal :=
  .next (if s.running ∧ ¬ s.isWaiting then s.withLine s.line.fall else s)

/-- LINE_DEFER (R133): the line becomes busy in WAITING, and the count of gap and slot is given up; the
next count starts from its gap. No failed attempt is counted. -/
def execLineDefer (s : State) : Host.Outcome State Fault Refusal :=
  .next (if s.isWaiting then s.withLine s.line.fall else s)

/-- REST_END (R134): the rest ends, and its timer stops at 76 bit times. On a busy line the timer is at 0,
and the rest stays in force (R141). -/
def execRestEnd (s : State) : Host.Outcome State Fault Refusal :=
  .next
    (if s.line.rest ∧ s.line.busy = false then
      s.withLine
        { s.line with rest := false, restPeriods := Config.restBits * Config.periodsPerBit }
    else s)

/-! ### Sending (R105, R132, R136, R137) -/

/-- The flags byte of a beacon (R187): STATE, FRESH, HELD, NONE SENT. HELD is clear at station 0 and
at followers (R37). -/
def State.beaconFlags (s : State) : Byte :=
  (if s.station.state = .closed then 0x01#8 else 0x00#8) |||
    (if s.outbox.fresh then 0x02#8 else 0x00#8) |||
    (if s.isAssigner ∧ s.assign.held then 0x04#8 else 0x00#8) |||
    (if s.outbox.lastSent.isNone then 0x08#8 else 0x00#8)

/-- A beacon's contents as they stand (R37); station 0's carries the oldest on-course run. -/
def State.beaconFrame (s : State) : Frame :=
  { header := { station := s.stationByte, epoch := s.epoch, seq := 0#8 }
    payload :=
      .beacon
        { courseTime := BitVec.ofNat 32 s.clock.courseTime
          lastSeq := s.outbox.lastSent.getD 0xFF#8
          gateCount := BitVec.ofNat 8 s.gates
          flags := s.beaconFlags
          highest := BitVec.ofNat 16 s.highestKnown
          oldest := if s.number = 0 then some (BitVec.ofNat 16 s.oldestOnCourse) else none } }

/-- The frame of a Control List entry; a GONE's and a REPEAT's epoch is written now (R103). -/
def State.controlFrame (s : State) : ControlEntry → Frame
  | .copy f => f
  | .gone r q o =>
    { header := { station := s.stationByte, epoch := s.epoch, seq := 0#8 }
      payload := .gone { requester := r, requested := q, oldest := o } }
  | .askRepeat o q =>
    { header := { station := s.stationByte, epoch := s.epoch, seq := 0#8 }
      payload := .askRepeat { originator := o, seq := q } }

/-- The frame the Outbox hands over, and where it stands: the oldest Control List entry, else the due
beacon, else the oldest UNSENT ring entry once the first beacon has been sent (R105). -/
def State.chooseFrame (s : State) : Option (TxSource × Frame) :=
  match s.outbox.control with
  | e :: _ => some (.control, s.controlFrame e)
  | [] =>
    if s.outbox.beaconDue then some (.beacon, s.beaconFrame)
    else if s.outbox.firstBeaconSent then s.oldestUnsent.map (fun f => (.ring, f))
    else none

/-- TRANSMIT_START (R132): in WAITING, the unit takes the frame the Outbox chooses and goes to SENDING;
a beacon's flag is cleared at this moment (R37); with no frame ready the unit goes to IDLE. On a busy line
the station has deferred, and nothing is sent (R133, R141). -/
def execTransmitStart (s : State) : Host.Outcome State Fault Refusal :=
  .next
    (if s.isWaiting ∧ s.line.busy = false then
      match s.chooseFrame with
      | some (source, frame) =>
        { s with
          line :=
            { s.line.madeBusy with tx := .sending source frame 0, reading := some ⟨0, []⟩ }
          outbox :=
            { s.outbox with
              beaconDue := if source = .beacon then false else s.outbox.beaconDue } }
      | none => s.withLine { s.line with tx := .idle }
    else s)

/-- The Outbox once the frame on the line went out whole (R101, R102, R106). -/
def Outbox.frameSent (o : Outbox) (source : TxSource) (frame : Frame) : Outbox :=
  match source with
  | .control => { o with control := o.control.drop 1 }
  | .beacon => { o with firstBeaconSent := true, fresh := o.fresh && o.freshEnd.isSome }
  | .ring => { o with ring := markSent o.ring, lastSent := some frame.header.seq }

/-- The rest comes into force at once, where the pair is released (R134). -/
def LineUnit.startRest (l : LineUnit) : LineUnit :=
  { l with rest := true, restPeriods := 0, restDue := false }

/-- What is on the line once the frame's last stop bit has been read back, at its middle: the second half of
that bit (R136; assumption log 30). -/
def LineUnit.afterStop (l : LineUnit) : Option Reading :=
  if l.inStopBit then l.reading else some ⟨Config.stopBitMiddle, []⟩

/-- TRANSMIT_COMPLETE (R136): the Outbox is told, the failed-attempt count is set to 0, and the rest is due
at the end of the stop bit that has been read back (R134). The frame is the station's own and is not
received (R130). -/
def execTransmitComplete (s : State) : Host.Outcome State Fault Refusal :=
  .next
    (match s.line.tx with
      | .sending source frame _ =>
        ({ s with
          outbox := s.outbox.frameSent source frame
          line :=
            { s.line.madeBusy with
              restDue := true, failed := 0, dominant := false, reading := s.line.afterStop
              rx := .ignoring, complete := none } }).afterFrame
      | .off | .idle | .waiting _ _ => s)

/-- The Outbox once the frame on the line did not go out: a beacon is due again (R37, R137). -/
def Outbox.frameFailed (o : Outbox) (source : TxSource) : Outbox :=
  if source = .beacon then { o with beaconDue := true } else o

/-- The byte being received once its bit in progress has been read at a level, at that bit's middle: a start
bit recessive there was a glitch (R127). -/
def Reading.readBit (r : Reading) (dominant : Bool) : Option Reading :=
  let bit := r.periods / Config.periodsPerBit
  if bit = 0 ∧ dominant = false then none
  else
    some
      ⟨max r.periods (bit * Config.periodsPerBit + Config.periodsPerBit / 2),
        r.levels.take bit ++ [dominant]⟩

/-- The station's own receiver once a bit has been read back at a level (R137, R127): a data bit or a start
bit holds that level, whatever was sent; a stop bit that is dominant is a framing error, which drops the frame;
and where the level is recessive, no other station holds the pair (R124). -/
def LineUnit.readBack (l : LineUnit) (dominant : Bool) : LineUnit :=
  match l.reading with
  | some r =>
    if r.periods < Config.stopBitMiddle - Config.periodsPerBit / 2 then
      { l with dominant := l.dominant && dominant, reading := r.readBit dominant }
    else if dominant then { l with dominant := true, reading := none, rx := .ignoring }
    else { l with dominant := false }
  | none => { l with dominant := l.dominant && dominant }

/-- The unit without its own frame among what it has received: a frame with a mismatch is not whole (R137). -/
def LineUnit.dropOwn (l : LineUnit) (frame : Frame) : LineUnit :=
  { l with complete := if l.complete = some frame.bytes then none else l.complete }

/-- READBACK_MISMATCH (R137): the bit in progress reads at the level that was not sent, also in the station's
own receiver, which goes on reading the pair, so the truncated frame has no effect there (assumption log 32).
The pair is released, a failed attempt is counted, the frame is kept and the rest comes into force; at sixteen
attempts E02 silences the station (R139). -/
def execReadbackMismatch (s : State) : Host.Outcome State Fault Refusal :=
  .next
    (match s.line.tx with
      | .sending source frame _ =>
        let failed := min Config.maxFailed (s.line.failed + 1)
        let s1 :=
          ({ s with
            outbox := s.outbox.frameFailed source
            line :=
              { ((s.line.readBack !s.drives).dropOwn frame).startRest with
                tx := .idle, failed := failed } }).afterFrame
        if failed = Config.maxFailed then (s1.raise .e02).silence else s1
      | .off | .idle | .waiting _ _ => s)

end Sys2Proof.Machine
end

