-- ==== Sys2Proof/Machine/Peers.lean ====
section
/-! DEFINITION. The Peer Table's operations (spec/06_message_delivery.md): presence (R111), sequence
bookkeeping (R114 to R116), repair and loss (R117 to R121), MISMATCH (R110), and the timers that a
step or trim ends (R29 to R32). -/

namespace Sys2Proof.Machine

/-! ### Entries -/

/-- The Peer Table with one entry changed. -/
def State.withPeer (s : State) (p : Nat) (x : Peer) : State :=
  { s with receiver := { s.receiver with peers := s.receiver.peers.set p x } }

/-- A peer's Missing List changed. -/
def State.withMissing (s : State) (p : Nat) (l : List MissingEntry) : State :=
  s.withPeer p { s.peer p with missing := l }

/-- An accepted frame's presence (R111). -/
def State.hear (s : State) (p : Nat) : State :=
  s.withPeer p
    { s.peer p with
      presence := .present
      lastHeard := s.clock.courseTime
      silenceEnd := some (s.now + Config.silenceSpan) }

/-- A PRESENT peer whose silence timer has ended becomes SILENT (R111). -/
def Peer.fallSilent (p : Peer) : Peer := { p with presence := .silent, silenceEnd := none }

/-- Whether a peer's silence timer has ended (R111). -/
def State.silenceDue (s : State) (p : Peer) : Bool := p.presence == .present && s.due p.silenceEnd

/-! ### Loss (R121) and repair (R120) -/

/-- A sequence leaves a peer's Missing List, and a REPEAT for it that waits is removed (R120). -/
def State.dropMissing (s : State) (p : Nat) (q : Byte) : State :=
  (s.withMissing p ((s.peer p).missing.filter (fun m => m.seq != q))).dropRepeats
    (fun o r => o.toNat == p && r == q)

/-- A sequence is declared lost: it leaves the list, LINK LOSS is appended, E05 raised, and a loss
from station 0 sets HELD (R121, R75). -/
def State.lose (s : State) (p : Nat) (q : Byte) : State :=
  let s1 :=
    ((s.dropMissing p q).append
      { kind := .linkLoss, reason := .station p, run := 0, value := some q.toNat
        marks := Marks.none, gates := 0 }).raise .e05
  if p = 0 then s1.setHeld s1.receiver.snapshot.highest else s1

/-- Several sequences are declared lost, each whole, in their order (R121). -/
def State.loseAll (s : State) (p : Nat) : List Byte → State
  | [] => s
  | q :: qs => (s.lose p q).loseAll p qs

/-! ### Sequence bookkeeping (R114, R115) -/

/-- `count` sequences from a first one on, in the order they are sent. -/
def sequencesFrom (first : Byte) (count : Nat) : List Byte :=
  (List.range count).map (fun i => first + BitVec.ofNat 8 i)

/-- The first retry deadline of a new entry: 20 ms and 5 for each unit of the number (R115). -/
def State.firstDeadline (s : State) : Nat := s.now + 20 + 5 * s.number

/-- Sequences join a Missing List, oldest first, while it has room; gives the list and the sequences
left over, which are lost (R115). -/
def listMissing (deadline : Nat) (l : List MissingEntry) :
    List Byte → List MissingEntry × List Byte
  | [] => (l, [])
  | q :: qs =>
    if l.any (fun m => m.seq == q) then listMissing deadline l qs
    else if l.length < Config.missingCapacity then
      listMissing deadline (l ++ [⟨q, 0, deadline⟩]) qs
    else
      let rest := listMissing deadline l qs
      (rest.1, q :: rest.2)

/-- An entry lies within the 128 sequences before e (R114). -/
def withinRange (e q : Byte) : Bool := 1 ≤ (e - q).toNat && (e - q).toNat ≤ 128

/-- Missing sequences are listed, the expected sequence changes, and the entries that no longer lie
within its range are lost, with the sequences that found no room after them (R114, R115, R121;
assumption log 10). -/
def State.advance (s : State) (p : Nat) (missing : List Byte) (e : Byte) : State :=
  let found := listMissing s.firstDeadline (s.peer p).missing missing
  let s1 := s.withPeer p { s.peer p with expected := some e, missing := found.1 }
  s1.loseAll p ((found.1.filter (fun m => !withinRange e m.seq)).map (fun m => m.seq) ++ found.2)

/-- Missing sequences are listed under the expected sequence as it stands; those that find no room are
lost (R115, R121). -/
def State.listAll (s : State) (p : Nat) (missing : List Byte) : State :=
  let found := listMissing s.firstDeadline (s.peer p).missing missing
  (s.withMissing p found.1).loseAll p found.2

/-- The bookkeeping of an accepted sequenced frame; the Bool says whether it is applied (R114). -/
def State.bookSequence (s : State) (p : Nat) (q : Byte) : State × Bool :=
  if (s.peer p).misses q then (s.dropMissing p q, true)
  else
    match (s.peer p).expected with
    | none => (s.advance p [] (q + 1), true)
    | some e =>
      let d := (q - e).toNat
      if d < 128 then (s.advance p (sequencesFrom e d) (q + 1), true) else (s, false)

/-- Every entry of a peer's Missing List is declared lost: the peer has restarted (R116). -/
def State.loseEntries (s : State) (p : Nat) : State :=
  s.loseAll p ((s.peer p).missing.map (fun m => m.seq))

/-- The bookkeeping of an accepted BEACON (R116); a late join of station 0 sets HELD (R75). -/
def State.bookBeacon (s : State) (p : Nat) (b : BeaconPayload) : State :=
  let e := (s.peer p).expected
  let join (s : State) : State := if p = 0 then s.setHeld (heldRun b.highest) else s
  match beaconLastSequence b with
  | none =>
    if beaconFresh b then (s.loseEntries p).advance p [] 0#8
    else
      match e with
      | none => join (s.advance p [] 0#8)
      | some _ => s
  | some l =>
    if beaconFresh b ∧ e ≠ some (l + 1) then
      ((s.loseEntries p).advance p [] (l + 1)).listAll p (sequencesFrom 0#8 (l.toNat + 1))
    else
      match e with
      | none => join (s.advance p [] (l + 1))
      | some e' =>
        if (l - e').toNat < 128 then
          s.advance p (sequencesFrom e' ((l - e').toNat + 1)) (l + 1)
        else s

/-! ### MISMATCH (R110) -/

/-- Station 0's snapshot at its reset values (R108, R110). -/
def State.clearSnapshot (s : State) : State :=
  { s with
    receiver := { s.receiver with snapshot := { taken := false, highest := 0, oldest := 0 } } }

/-- A peer enters MISMATCH: E04, and its entry is reset without losses (R110). -/
def State.enterMismatch (s : State) (p : Nat) : State :=
  let s1 := (s.raise .e04).dropRepeats (fun o _ => o.toNat == p)
  let s2 :=
    s1.withPeer p
      { s1.peer p with
        presence := .mismatch, silenceEnd := none, expected := none, missing := [] }
  if p = 0 then s2.clearSnapshot else s2

/-! ### Retries (R117) and GONE (R119) -/

/-- A Missing List with the entry of a sequence changed. -/
def changeEntry (q : Byte) (f : MissingEntry → MissingEntry) (l : List MissingEntry) :
    List MissingEntry :=
  l.map (fun m => if m.seq = q then f m else m)

/-- An entry's deadline ends: an attempt is consumed and a REPEAT offered, or after three attempts the
sequence is lost (R117). -/
def State.retry (s : State) (p : Nat) (m : MissingEntry) : State :=
  if m.attempts < 3 then
    (s.withMissing p
      (changeEntry m.seq
        (fun x => { x with attempts := x.attempts + 1, deadline := s.now + Config.retrySpan })
        (s.peer p).missing)).addControl (.askRepeat (BitVec.ofNat 8 p) m.seq)
  else s.lose p m.seq

/-- The entry of a peer and sequence whose deadline has ended (R117). -/
def State.retryDue (s : State) (p : Nat) (q : Byte) : Option MissingEntry :=
  (s.peer p).missing.find? (fun m => m.seq == q && decide (m.deadline ≤ s.now))

/-- The retry of one peer and sequence, where its deadline has ended. -/
def State.retryOne (s : State) (p : Nat) (q : Byte) : State :=
  match s.retryDue p q with
  | some m => s.retry p m
  | none => s

/-- The entries whose deadlines have ended, by ascending peer and for each peer oldest first (R117). -/
def State.retriesDue (s : State) : List (Nat × Byte) :=
  (s.receiver.peers.zipIdx.map
    (fun x =>
      (x.1.missing.filter (fun m => decide (m.deadline ≤ s.now))).map (fun m => (x.2, m.seq)))).flatten

/-- The retries of a list, in its order. -/
def State.retryAll (s : State) : List (Nat × Byte) → State
  | [] => s
  | x :: xs => (s.retryOne x.1 x.2).retryAll xs

/-- The declarations of a GONE from peer p: the requested sequence and every entry older than the
oldest retained (R119). -/
def State.takeGone (s : State) (p : Nat) (g : GonePayload) : State :=
  s.loseAll p
    (((s.peer p).missing.filter
        (fun m =>
          m.seq == g.requested ||
            (decide (1 ≤ (g.oldest - m.seq).toNat) && decide ((g.oldest - m.seq).toNat ≤ 127)))).map
      (fun m => m.seq))

/-- Another station's REPEAT for a sequence missing here moves its deadline and removes the REPEAT of
this station that waits (R118). -/
def State.suppress (s : State) (r : RepeatPayload) : State :=
  if (s.peer r.originator.toNat).misses r.seq then
    (s.withMissing r.originator.toNat
      (changeEntry r.seq (fun x => { x with deadline := s.now + Config.retrySpan })
        (s.peer r.originator.toNat).missing)).dropRepeats
      (fun o q => o == r.originator && q == r.seq)
  else s

/-- A REPEAT addressed to this station is served while it is speaking (R107). -/
def State.serve (s : State) (requester : Byte) (q : Byte) : State :=
  if s.speaking then
    match s.outbox.ring.find? (fun e => e.frame.header.seq == q) with
    | some e => if e.sent then s.addControl (.copy e.frame) else s
    | none => s.addControl (.gone requester q s.oldestRetained)
  else s

/-! ### Adoption of course time (R29 to R34) -/

/-- The beacon timer's end: the flag is set, and the next end is 250 ms on (R35). -/
def State.endBeaconTimer (s : State) : State :=
  { s with
    outbox :=
      { s.outbox with beaconDue := true, beaconTimer := some (s.now + Config.beaconInterval) } }

/-- The fresh span's end: FRESH clears once a beacon has been sent (R106). -/
def State.endFreshSpan (s : State) : State :=
  { s with
    outbox :=
      { s.outbox with
        freshEnd := none
        fresh := s.outbox.fresh && !s.outbox.firstBeaconSent } }

/-- Ends the beacon timer where its end is reached. -/
def State.beaconTimerStep (s : State) : State :=
  if s.due s.outbox.beaconTimer then s.endBeaconTimer else s

/-- Ends the fresh span where its end is reached. -/
def State.freshStep (s : State) : State := if s.due s.outbox.freshEnd then s.endFreshSpan else s

/-- Ends the RESULT hold where its end is reached (R180). -/
def State.resultHoldStep (s : State) : State :=
  if s.due (s.panel.resultHold.map (fun h => h.endsAt)) then
    { s with panel := { s.panel with resultHold := none } }
  else s

/-- Ends the RUN NUMBER hold where its end is reached (R180). -/
def State.runHoldStep (s : State) : State :=
  if s.due (s.panel.runHold.map (fun h => h.endsAt)) then
    { s with panel := { s.panel with runHold := none } }
  else s

/-- Ends one step of the tone where its end is reached (R183). -/
def State.toneStep (s : State) : State :=
  if s.due (s.panel.tone.map (fun t => t.endsAt)) then s.endToneStep else s

/-- Every PRESENT peer whose silence timer has ended becomes SILENT (R111). -/
def State.silencePeers (s : State) : State :=
  { s with
    receiver :=
      { s.receiver with
        peers := s.receiver.peers.map (fun p => if s.silenceDue p then p.fallSilent else p) } }

/-- The timers that an adoption ends and whose order among themselves shows nowhere (R29): silence,
beacon, fresh span, holds, and up to three steps of a tone. -/
def State.endTimers (s : State) : State :=
  s.silencePeers.beaconTimerStep.freshStep.resultHoldStep.runHoldStep.toneStep.toneStep.toneStep

/-- What can fall together at one change of course time and whose order shows: expiries, retries and
the close (R38, R70). -/
inductive Together where
  | expire
  | retry
  | close
  deriving DecidableEq, Repr

/-- One of them, taken whole. -/
def State.takeTogether (s : State) : Together → State
  | .expire => s.expireEntries
  | .retry => s.retryAll s.retriesDue
  | .close => s.closeAtLimit

/-- Those that have something to do at the course time now reached. -/
def State.together (s : State) : List Together :=
  (if s.assign.entries.any (fun e => decide (e.deadline ≤ s.now)) then [Together.expire] else []) ++
    (if s.retriesDue.isEmpty then [] else [Together.retry]) ++
    (if s.clock.courseTime = Config.timeLimit ∧
        (s.station.state = .active ∨ s.station.state = .mute) then [Together.close]
      else [])

/-- In a step that closes the station the expiries come first of all: every entry that the step reached
leaves as STRAY NO RUN (R38, R70). The others keep their order. -/
def expiriesFirst (l : List Together) : List Together :=
  l.filter (fun x => x == .expire) ++ l.filter (fun x => x != .expire)

/-- Several, one after the other. -/
def State.takeAll (s : State) : List Together → State
  | [] => s
  | x :: xs => (s.takeTogether x).takeAll xs

/-- Takes what falls together at a change of course time: in a free order (assumption log 5), but in a
step that closes the station with the expiries first (R38, R70). -/
def State.fallTogether (s : State) (isStep : Bool) : State :=
  let l := s.together
  let order := pickOrder l.length s.freeIndex l
  let order := if isStep ∧ l.contains .close then expiriesFirst order else order
  { s with freeIndex := s.freeIndex + l.length }.takeAll order

/-- Adopts a time (R31): T + 1, limited, with the phase at 0. -/
def State.adoptTime (s : State) (t : Nat) : State :=
  { s with
    clock := { s.clock with courseTime := min (t + 1) Config.timeLimit, phase := 0 } }

/-- Whether an adoption is a step: d of 3 or more in ACTIVE or MUTE (R31). -/
def State.isStep (s : State) (t : Nat) : Bool :=
  decide (s.clock.courseTime + 3 ≤ t + 1) &&
    (s.station.state == .active || s.station.state == .mute)

/-- The Course Clock takes a carried time: no change where it is not ahead, else an adoption, which a
step reports to the Run Table (R13, R32), and which ends every timer it reaches (R29). -/
def State.takeTime (s : State) (t : Nat) : State :=
  if t + 1 ≤ s.clock.courseTime then s
  else
    let s1 := s.adoptTime t
    let s2 := if s.isStep t then s1.markStepped else s1
    s2.endTimers.fallTogether (s.isStep t)

end Sys2Proof.Machine
end

