-- ==== Sys2Proof/WellFormed.lean ====
section
/-! DEFINITION. Which commands are well formed: a received frame that passes the test of form (R98),
and an unknown command byte that is none of the three commands (R164, R189). Every other operand is
in range by its type. -/

namespace Sys2Proof

/-- The command bytes of NEXT, PEEK and STATUS (R189). -/
def commandBytes : List Byte := [0x4E#8, 0x50#8, 0x53#8]

/-- A command the outside world can send: one whose operands the spec admits. -/
def Instr.wellFormed : Instr → Bool
  | .receiveBeacon h p => Frame.wellFormed ⟨h, .beacon p⟩
  | .receiveStart h p => Frame.wellFormed ⟨h, .start p⟩
  | .receiveCross h p => Frame.wellFormed ⟨h, .cross p⟩
  | .receiveRuling h p => Frame.wellFormed ⟨h, .ruling p⟩
  | .receiveSession h p => Frame.wellFormed ⟨h, .session p⟩
  | .receiveRepeat h p => Frame.wellFormed ⟨h, .askRepeat p⟩
  | .receiveGone h p => Frame.wellFormed ⟨h, .gone p⟩
  | .unknownCommand b => !commandBytes.contains b
  | .resetAsserted _ | .powerFallDuringReset | .clockLoss | .resetReleased _ | .listenEnd
  | .millisecondTick | .beaconTimerEnd | .freshSpanEnd | .gateCandidateLatch
  | .gateActiveAtRelease | .candidateRejected | .crossingAccepted | .holdoffEnd _ | .gateCleared
  | .gateBlocked | .pendingEntryExpiry | .tripPress | .rulingKeyPress _ | .rulingKeyLong _
  | .rulingKeyRelease _ | .combinationFires | .ackPress | .resultHoldEnd | .runNumberHoldEnd
  | .toneStepEnd | .badFrameDropped | .frameAbandoned _ | .peerSilent _ | .retryDeadline _ _
  | .transmitStart | .lineDefer | .transmitComplete | .readbackMismatch | .restEnd | .xselFall
  | .next | .peek | .status | .replyShiftedOut | .transferComplete | .transferAbort
  | .keyCandidateLatch _ _ | .tripOrAckRelease _ | .byteTaken _ | .waitingForAFrame
  | .lineBusy => true

end Sys2Proof
end

