-- ==== Sys2Proof/Machine/Port.lean ====
section
/-! DEFINITION. The Readout Port (spec/09_results_and_the_readout_port.md) with the layouts of its
replies (R189, R190): XSEL_FALL, NEXT, PEEK, STATUS, UNKNOWN_COMMAND, REPLY_SHIFTED_OUT,
TRANSFER_COMPLETE, TRANSFER_ABORT. -/

namespace Sys2Proof.Machine

/-! ### The record's layout (R189) -/

/-- The kind codes of R189. -/
def ResultKind.code : ResultKind → Byte
  | .finished => 0x01#8
  | .dnf => 0x02#8
  | .void => 0x03#8
  | .correction => 0x04#8
  | .stray => 0x05#8
  | .dropped => 0x06#8
  | .linkLoss => 0x07#8
  | .session => 0x08#8
  | .closed => 0x09#8
  | .noRecord => 0x0F#8

/-- The STRAY reason codes of R189. -/
def StrayReason.code : StrayReason → Byte
  | .noRun => 0x01#8
  | .held => 0x02#8
  | .mute => 0x03#8
  | .closed => 0x04#8
  | .outboxFull => 0x05#8
  | .runLimit => 0x06#8
  | .tableFull => 0x07#8
  | .displaced => 0x08#8

/-- Byte 2 of a record (R189). -/
def Reason.code : Reason → Byte
  | .empty => 0x00#8
  | .stray r => r.code
  | .station n => BitVec.ofNat 8 n
  | .newState .finished => 0x01#8
  | .newState .dnf => 0x02#8
  | .newState .void => 0x03#8
  | .newState .onCourse => 0x00#8

/-- A flag at a bit place. -/
def bitAt (b : Bool) (i : Nat) : Byte := if b then 1#8 <<< i else 0#8

/-- The marks byte of a record (R189). -/
def Marks.byte (m : Marks) : Byte :=
  bitAt m.manualStart 0 ||| bitAt m.learned 1 ||| bitAt m.stepped 2 ||| bitAt m.corrected 3 |||
    bitAt m.disturbed 4 ||| bitAt m.late 5 ||| bitAt m.manual 6

/-- A value field: all ones for none (R189). -/
def valueWord (v : Option Nat) : Word32 :=
  match v with
  | some n => BitVec.ofNat 32 n
  | none => 0xFFFFFFFF#32

/-- The sixteen bytes of a record (R189). -/
def ResultRecord.bytes (r : ResultRecord) : List Byte :=
  [r.kind.code, r.reason.code] ++ bytes16 (BitVec.ofNat 16 r.run) ++ bytes32 (valueWord r.value) ++
    bytes32 (BitVec.ofNat 32 r.courseTime) ++
    [r.marks.byte, BitVec.ofNat 8 r.gates, BitVec.ofNat 8 r.lost, r.seq]

/-- A NONE record (R165). -/
def State.noneRecord (s : State) : ResultRecord :=
  { kind := .noRecord, reason := .empty, run := 0, value := none
    courseTime := s.clock.courseTime, marks := Marks.none, gates := 0, lost := s.results.lost
    seq := s.results.counter }

/-- The reply of a NEXT or a PEEK: the oldest record with the current lost count, or NONE (R165). -/
def State.recordReply (s : State) : List Byte :=
  match s.results.records.head? with
  | some r => { r with lost := s.results.lost }.bytes
  | none => s.noneRecord.bytes

/-! ### The STATUS snapshot (R166, R190) -/

/-- The station state codes of R190. -/
def StationState.code : StationState → Byte
  | .reset => 0x00#8
  | .configFault => 0x01#8
  | .listening => 0x02#8
  | .active => 0x03#8
  | .mute => 0x04#8
  | .closed => 0x05#8

/-- The two bits of a presence (R190). -/
def Presence.code : Presence → Byte
  | .unknown => 0#8
  | .present => 1#8
  | .silent => 2#8
  | .mismatch => 3#8

/-- The two bits of a reset cause (R190). -/
def ResetCause.code : ResetCause → Byte
  | .power => 1#8
  | .pin => 2#8
  | .clock => 3#8

/-- The presences of stations 4k to 4k + 3 in one byte, the lowest number in the two highest bits; the
station's own entry reads UNKNOWN (R190, R166). -/
def State.presenceByte (s : State) (k : Nat) : Byte :=
  let code (i : Nat) : Byte :=
    if 4 * k + i = s.number then Presence.unknown.code
    else ((s.receiver.peers.getD (4 * k + i) Peer.reset).presence).code
  (code 0 <<< 6) ||| (code 1 <<< 4) ||| (code 2 <<< 2) ||| code 3

/-- The pending errors: bit k − 1 for Ek (R190). -/
def ErrorSet.word (e : ErrorSet) : Word16 :=
  ErrorCode.all.foldl
    (fun w c => w ||| (if e.has c then 1#16 <<< (c.number - 1) else 0#16)) 0#16

/-- Byte 16: the queue fill, the reset cause and HELD (R190). -/
def State.statusByte (s : State) : Byte :=
  BitVec.ofNat 8 s.results.records.length ||| (s.station.cause.code <<< 5) |||
    bitAt (s.isAssigner && s.assign.held) 7

/-- The sixteen bytes of the STATUS snapshot (R190). -/
def State.statusReply (s : State) : List Byte :=
  [0x10#8, s.stationByte, s.station.state.code] ++ bytes16 s.epoch ++
    bytes32 (BitVec.ofNat 32 s.clock.courseTime) ++
    [s.presenceByte 0, s.presenceByte 1, s.presenceByte 2, s.presenceByte 3] ++
    bytes16 s.station.errors.word ++ [s.statusByte]

/-! ### The transfer (R163 to R169) -/

/-- The port changed. -/
def State.withPort (s : State) (p : Port) : State := { s with port := p }

/-- XSEL_FALL (R164): in IDLE a transfer begins, the fill is read, and XOUT shows bit 1 (R163). A fall with
the pin low already is none (R172; assumption log 12). In RESET the port ignores it (R172). -/
def execXselFall (s : State) : Host.Outcome State Fault Refusal :=
  .next
    (if s.running ∧ s.port.phase = .idle ∧ s.port.xselLow = false then
      s.withPort
        { s.port with
          phase := .command, fill := s.results.records.length, bits := 0, shown := 1
          xselLow := true }
    else s.withPort { s.port with xselLow := true })

/-- The latch at the eighth rising edge, which leaves XCLK high: the reply and the latched sequence (R165).
XOUT shows bit 8 until the next falling edge (R163). -/
def State.latch (s : State) (b : Byte) (reply : List Byte) (seq : Option Byte) : State :=
  if s.running ∧ s.port.phase = .command then
    s.withPort
      { s.port with
        phase := .reply, bits := 8, shown := 8, command := b, latched := some reply
        latchedSeq := seq, overtaken := false, xclkHigh := true }
  else s

/-- The command byte with one more bit from XIN, most significant first (R164). -/
def shiftIn (b : Byte) (high : Bool) : Byte := (b <<< 1) ||| (if high then 1#8 else 0#8)

/-- NEXT (R165): a copy of the oldest record with its sequence, or a NONE record. -/
def execNext (s : State) : Host.Outcome State Fault Refusal :=
  .next (s.latch 0x4E#8 s.recordReply (s.results.records.head?.map (fun r => r.seq)))

/-- PEEK (R165). -/
def execPeek (s : State) : Host.Outcome State Fault Refusal :=
  .next (s.latch 0x50#8 s.recordReply none)

/-- STATUS (R165, R166). -/
def execStatus (s : State) : Host.Outcome State Fault Refusal :=
  .next (s.latch 0x53#8 s.statusReply none)

/-- UNKNOWN_COMMAND (R165): any other command byte latches a NONE record. -/
def execUnknownCommand (b : Byte) (s : State) : Host.Outcome State Fault Refusal :=
  .next (if commandBytes.contains b then s else s.latch b s.noneRecord.bytes none)

/-- REPLY_SHIFTED_OUT (R167): the 136th rising edge, which leaves XCLK high. -/
def execReplyShiftedOut (s : State) : Host.Outcome State Fault Refusal :=
  .next
    (if s.running ∧ s.port.phase = .reply then
      s.withPort { s.port with phase := .done, bits := 136, shown := 136, xclkHigh := true }
    else s)

/-- The port after a transfer has ended, XSEL high (R168, R169). -/
def Port.ended (p : Port) : Port :=
  { p with
    phase := .idle, latched := none, latchedSeq := none, overtaken := false, xselLow := false }

/-- A completed transfer removes its record: a NEXT's latched record that is not overtaken and still
the oldest (R168). -/
def State.removes (s : State) : Bool :=
  !s.port.overtaken &&
    (match s.port.latchedSeq, s.results.records.head? with
      | some q, some r => r.seq == q
      | _, _ => false)

/-- TRANSFER_COMPLETE (R168): XSEL rises in DONE. -/
def execTransferComplete (s : State) : Host.Outcome State Fault Refusal :=
  .next
    (if s.running ∧ s.port.phase = .done then
      if s.removes then
        { s with
          results := { s.results with records := s.results.records.drop 1, lost := 0 }
          port := s.port.ended }
      else s.withPort s.port.ended
    else s)

/-- TRANSFER_ABORT (R169): XSEL rises in COMMAND or REPLY; nothing is removed. A rise while the port is
IDLE, as after a reset, leaves the pin high and nothing else (R172; assumption log 12). -/
def execTransferAbort (s : State) : Host.Outcome State Fault Refusal :=
  .next
    (match s.port.phase with
      | .command | .reply => if s.running then s.withPort s.port.ended else s
      | .idle => s.withPort { s.port with xselLow := false }
      | .done => s)

end Sys2Proof.Machine
end

