-- ==== Sys2Proof/Machine/Crystal.lean ====
section
/-! DEFINITION. What the station does by itself, while no command waits (assumption log 4): the
happenings that its own counts and timers make fall due, and one crystal period, which raises every
count that runs on the crystal (R27, R42, R124, R148, R173, R183), and takes the levels of the timing line
and of the Readout Port's clock (R127, R136, R163). -/

namespace Sys2Proof.Machine

/-! ### What one crystal period counts: the state, and the commands that fall due with it -/

/-- The Course Clock's phase (R27). The period that would carry it past 4095 is the tick's. -/
def State.countPhase (s : State) : State × List Instr :=
  if s.clock.phase + 1 < Config.periodsPerMs then
    ({ s with clock := { s.clock with phase := s.clock.phase + 1 } }, [])
  else (s, [.millisecondTick])

/-- The listen counter (R148). -/
def State.countListening (s : State) : State × List Instr :=
  if s.station.state = .listening then
    ({ s with station := { s.station with listenCount := s.station.listenCount + 1 } },
      if s.listenLimit ≤ s.station.listenCount + 1 then [.listenEnd] else [])
  else (s, [])

/-- The intervals between gate samples, in crystal periods (R42). -/
def gateIntervals : List Nat := [410, 409, 410, 410, 409, 410, 409, 410, 410, 409]

/-- One judged gate sample (R44 to R48): a sample that only raises a count raises it, and any other is
a command. -/
def State.gateSample (s : State) : State × List Instr :=
  let active := s.gate.high == s.config.gpol
  if s.gateReleased then
    match s.gate.capture with
    | .armed =>
      if active then
        (s, [if s.gate.firstSample then .gateActiveAtRelease else .gateCandidateLatch])
      else ({ s with gate := { s.gate with firstSample := false } }, [])
    | .confirming =>
      if active then
        if s.gate.confirm + 1 < s.confirmLimit then
          ({ s with gate := { s.gate with confirm := s.gate.confirm + 1 } }, [])
        else (s, [.crossingAccepted])
      else (s, [.candidateRejected])
    | .holdoff =>
      if s.gate.holdoff + 1 < s.holdoffLimit then
        ({ s with gate := { s.gate with holdoff := s.gate.holdoff + 1 } }, [])
      else (s, [.holdoffEnd active])
    | .awaitClear =>
      if active then
        if s.gate.blocked + 1 < Config.blockedSamples then
          ({ s with gate := { s.gate with blocked := s.gate.blocked + 1 } }, [])
        else if s.gate.blocked < Config.blockedSamples then (s, [.gateBlocked])
        else (s, [])
      else (s, [.gateCleared])
  else (s, [])

/-- The gate sample divider (R42). -/
def State.countGate (s : State) : State × List Instr :=
  if s.gate.divider + 1 < gateIntervals.getD s.gate.interval 410 then
    ({ s with gate := { s.gate with divider := s.gate.divider + 1 } }, [])
  else
    { s with
      gate := { s.gate with divider := 0, interval := (s.gate.interval + 1) % 10 } }.gateSample

/-- The command of a key's accepted change (R174 to R176). -/
def acceptance (k : Key) (press : Bool) : Instr :=
  match k, press with
  | .trip, true => .tripPress
  | .trip, false => .tripOrAckRelease .trip
  | .ack, true => .ackPress
  | .ack, false => .tripOrAckRelease .ack
  | .void, true => .rulingKeyPress .void
  | .void, false => .rulingKeyRelease .void
  | .dnf, true => .rulingKeyPress .dnf
  | .dnf, false => .rulingKeyRelease .dnf

/-- A filter is taking its twentieth sample at the new level (R174). -/
def KeyFilter.accepting (f : KeyFilter) : Bool :=
  f.down != f.pressed && Config.filterSamples ≤ f.change + 1

/-- One sample of one key (R174): the first that differs and the twentieth are commands. -/
def State.keySample (s : State) (k : Key) : State × List Instr :=
  let f := s.panel.filter k
  if f.down = f.pressed then (s.withPanel (s.panel.putFilter { f with change := 0 } k), [])
  else if f.change = 0 then (s, [.keyCandidateLatch k f.down])
  else if f.accepting then (s, [acceptance k f.down])
  else (s.withPanel (s.panel.putFilter { f with change := f.change + 1 } k), [])

/-- The hold count of a ruling key whose filtered level stays pressed (R176). -/
def State.holdSample (s : State) (k : RulingKey) : State × List Instr :=
  let h := s.panel.hold k
  if s.held k ∧ (s.panel.filter (RulingKey.key k)).accepting = false ∧ h.count < Config.longHold then
    if h.count + 1 < Config.longHold then
      (s.withPanel (s.panel.putHold { h with count := h.count + 1 } k), [])
    else (s, [.rulingKeyLong k])
  else (s, [])

/-- The combination count while both filtered levels stay pressed (R177). -/
def State.comboSample (s : State) : State × List Instr :=
  if s.panel.comboRunning ∧ s.held .void ∧ s.held .dnf ∧ s.panel.void.accepting = false ∧
      s.panel.dnf.accepting = false then
    if s.panel.comboCount + 1 < Config.comboFires then
      (s.withPanel { s.panel with comboCount := s.panel.comboCount + 1 }, [])
    else (s, [.combinationFires])
  else (s, [])

/-- Several counts, one after the other, their commands in that order. -/
def State.counts (s : State) : List (State → State × List Instr) → State × List Instr
  | [] => (s, [])
  | f :: fs =>
    let first := f s
    let rest := first.1.counts fs
    (rest.1, first.2 ++ rest.2)

/-- One key sample tick: the hold counts and the combination see the levels before it (R173). -/
def State.keySamples (s : State) : State × List Instr :=
  s.counts
    [State.comboSample, fun s => s.holdSample .void, fun s => s.holdSample .dnf,
      fun s => s.keySample .trip, fun s => s.keySample .void, fun s => s.keySample .dnf,
      fun s => s.keySample .ack]

/-- The key sample divider (R173). -/
def State.countKeys (s : State) : State × List Instr :=
  if s.panel.divider + 1 < Config.periodsPerMs then
    (s.withPanel { s.panel with divider := s.panel.divider + 1 }, [])
  else (s.withPanel { s.panel with divider := 0 }).keySamples

/-- The transmit state after one more period of idle: the gap, then the slot (R132). -/
def TxState.countIdle (tx : TxState) (idle : Nat) : TxState :=
  match tx with
  | .waiting gap (some n) => .waiting gap (some (n + 1))
  | .waiting gap none => .waiting gap (if gap * Config.periodsPerBit ≤ idle then some 0 else none)
  | .off => .off
  | .idle => .idle
  | .sending source frame periods => .sending source frame periods

/-- One more period of a byte being received, at a level of the pair: each bit is taken at the middle of its
bit time, counted from the start edge. A start bit recessive at its middle was a glitch; the stop bit's
level makes the byte whole or a framing error; and the stop bit's end ends the byte (R127). -/
def Reading.count (r : Reading) (dominant : Bool) : Option Reading × List Instr :=
  let n := r.periods + 1
  if n = Config.stopBitMiddle then
    (some { r with periods := n },
      [.byteTaken (if dominant then .framingError else .byte (levelsByte r.levels))])
  else if Config.periodsPerByte ≤ n then (none, [])
  else if n % Config.periodsPerBit = Config.periodsPerBit / 2 then
    if n < Config.periodsPerBit ∧ dominant = false then (none, [])
    else (some ⟨n, r.levels ++ [dominant]⟩, [])
  else (some { r with periods := n }, [])

/-- The start bit of each byte that the station drives is an edge that its own receiver sees (R125, R127):
a byte begins there unless one is being received or the pair is held dominant already. -/
def State.ownEdge (s : State) : Option Reading :=
  match s.line.tx with
  | .sending _ _ periods =>
    if periods % Config.periodsPerByte = 0 ∧ s.line.dominant = false ∧ s.line.reading = none then
      some ⟨0, []⟩
    else s.line.reading
  | .off | .idle | .waiting _ _ => s.line.reading

/-- The byte being received, at the level of the pair in this period (R127); the station's own bytes are
received as a peer's are (R128). Where its own last stop bit ends, the rest comes into force (R134). -/
def State.countReading (s : State) : State × List Instr :=
  match s.ownEdge with
  | some r =>
    let counted := r.count s.lineLevel
    (s.withLine { s.line with reading := counted.1 }.settleRest, counted.2)
  | none => (s, [])

/-- The frame being driven (R136): at the middle of each bit the level of the pair is compared with the
level sent; a difference is a mismatch, and the last stop bit read back completes the frame. The pair
follows this station's driver, so a driver that does not hold it is a READBACK_MISMATCH from outside. -/
def State.countSending (s : State) : State × List Instr :=
  match s.line.tx with
  | .sending source frame periods =>
    (s.withLine { s.line with tx := .sending source frame (periods + 1) },
      if (periods + 1) % Config.periodsPerBit = Config.periodsPerBit / 2 then
        if s.lineLevel != s.drives then [.readbackMismatch]
        else if frame.levels.length ≤ periods / Config.periodsPerBit + 1 then [.transmitComplete]
        else []
      else [])
  | .off | .idle | .waiting _ _ => (s, [])

/-- The idle run, the rest timer and the count of gap and slot (R126, R132, R134), while the line is idle;
with the commands of an idle run past 10 bit times (R128, R129) and of the rest's end. -/
def State.countIdle (s : State) : State × List Instr :=
  if s.sending || s.line.busy then (s, [])
  else
    let idle := s.line.idlePeriods + 1
    let passed := decide (Config.abandonBits * Config.periodsPerBit < idle)
    (s.withLine
      { s.line with
        idlePeriods := idle
        restPeriods := if s.line.rest then s.line.restPeriods + 1 else s.line.restPeriods
        tx := s.line.tx.countIdle idle },
      (if s.line.rest ∧ Config.restBits * Config.periodsPerBit ≤ s.line.restPeriods + 1 then
        [Instr.restEnd]
      else []) ++
        (match s.line.rx with
          | .ignoring => if passed then [Instr.waitingForAFrame] else []
          | .inFrame _ => if passed then [Instr.frameAbandoned .idleRun] else []
          | .waiting => []))

/-- The dominant level that others hold ends, where the free value of this period says so (R126; assumption
log 14). -/
def State.endLevel (s : State) : State :=
  s.withLine
    { s.line with dominant := s.line.dominant && !Config.levelEnds s.freeIndex }

/-- The timing line in one crystal period: the idle run counts where the line was idle throughout it. -/
def State.countLine (s : State) : State × List Instr :=
  s.counts
    [State.countIdle, State.countReading, State.countSending, fun s => (s.endLevel, [])]

/-- TONE's divider (R183; assumption log 29). -/
def State.countTone (s : State) : State × List Instr :=
  (s.withPanel
    { s.panel with
      toneDivider :=
        if s.panel.toneDivider + 1 < Config.tonePeriods then s.panel.toneDivider + 1 else 0 }, [])

/-- A rising edge of XCLK (R163, R164): it is counted, in COMMAND it takes a bit from XIN, the eighth
completing the command byte, and the 136th ends the reply. -/
def State.clockRise (s : State) (xin : Bool) : State × List Instr :=
  let byte := shiftIn s.port.command xin
  match s.port.phase with
  | .command =>
    if s.port.bits + 1 < 8 then
      (s.withPort { s.port with bits := s.port.bits + 1, command := byte, xclkHigh := true }, [])
    else (s.withPort { s.port with xclkHigh := true }, [portCommand byte])
  | .reply =>
    if s.port.bits + 1 < 136 then
      (s.withPort { s.port with bits := s.port.bits + 1, xclkHigh := true }, [])
    else (s.withPort { s.port with xclkHigh := true }, [.replyShiftedOut])
  | .idle | .done => (s.withPort { s.port with xclkHigh := true }, [])

/-- A falling edge of XCLK: in a transfer, after a rising edge, XOUT shows the next bit (R163). -/
def State.clockFall (s : State) : State :=
  match s.port.phase with
  | .command | .reply =>
    s.withPort
      { s.port with
        shown := if s.port.bits = 0 then s.port.shown else s.port.bits + 1
        xclkHigh := false }
  | .idle | .done => s.withPort { s.port with xclkHigh := false }

/-- The Readout Port's clock, whose edges and whose XIN the logger gives: free values (assumption log
13). -/
def State.countPort (s : State) : State × List Instr :=
  if Config.xclkEdge s.freeIndex then
    if s.port.xclkHigh then (s.clockFall, []) else s.clockRise (Config.xinHigh s.freeIndex)
  else (s, [])

/-- One crystal period with no command waiting: every count is raised, and the commands that fall due
with it wait, in a free order where there are several (assumption logs 4 and 5).

DESIGN CHOICE (assumption log 27): the listen end always falls on a gate sample, and R43, R54, R150 and R151
do not say whether that sample is judged. Here it is not: `countGate` takes it while the station is still
LISTENING, and LISTEN_END is taken after it. -/
def State.crystalPeriod (s : State) : State :=
  let counted :=
    s.counts
      [State.countPhase, State.countListening, State.countGate, State.countKeys, State.countLine,
        State.countTone, State.countPort]
  { counted.1 with
    freeIndex := counted.1.freeIndex + counted.2.length + 1
    pending := pickOrder counted.2.length counted.1.freeIndex counted.2 }

/-! ### What falls due without a crystal period -/

/-- The command that takes a frame. -/
def frameCommand (f : Frame) : Instr :=
  match f.payload with
  | .beacon p => .receiveBeacon f.header p
  | .start p => .receiveStart f.header p
  | .cross p => .receiveCross f.header p
  | .ruling p => .receiveRuling f.header p
  | .session p => .receiveSession f.header p
  | .askRepeat p => .receiveRepeat f.header p
  | .gone p => .receiveGone f.header p

/-- A complete frame's step, at the end of its last stop bit: taken where its check and form are right, else
dropped (R130, R98). -/
def State.dueFrame (s : State) : List Instr :=
  match s.line.complete with
  | some bytes =>
    if s.line.inStopBit then []
    else match readFrame bytes with
    | some f => if s.receives then [frameCommand f] else [.badFrameDropped]
    | none => [.badFrameDropped]
  | none => []

/-- The unit's gap and slot are over on an idle line (R132). -/
def State.dueStart (s : State) : List Instr :=
  match s.line.tx with
  | .waiting _ (some n) =>
    if !s.line.busy && 4 * s.number * Config.periodsPerBit ≤ n then [.transmitStart] else []
  | _ => []

/-- The timers whose ends are reached (R29), the retries oldest first (R117). -/
def State.dueTimers (s : State) : List Instr :=
  (if s.due s.outbox.beaconTimer then [Instr.beaconTimerEnd] else []) ++
    (if s.due s.outbox.freshEnd then [Instr.freshSpanEnd] else []) ++
    (match s.assign.entries with
      | e :: _ => if e.deadline ≤ s.now then [Instr.pendingEntryExpiry] else []
      | [] => []) ++
    (if s.due (s.panel.resultHold.map (fun h => h.endsAt)) then [Instr.resultHoldEnd] else []) ++
    (if s.due (s.panel.runHold.map (fun h => h.endsAt)) then [Instr.runNumberHoldEnd] else []) ++
    (if s.due (s.panel.tone.map (fun t => t.endsAt)) then [Instr.toneStepEnd] else []) ++
    ((List.finRange 16).filter (fun p => s.silenceDue (s.peer p.val))).map Instr.peerSilent ++
    (s.retriesDue.take 1).map (fun x => Instr.retryDeadline (Fin.ofNat 16 x.1) x.2)

/-- Every command that falls due at this moment. -/
def State.dueCommands (s : State) : List Instr := s.dueFrame ++ s.dueStart ++ s.dueTimers

/-- The step on an empty queue (assumption log 4): in RESET nothing counts (R142); elsewhere a command
that falls due at this moment waits, one at a time and the free order's where there are several; and
where none does, one crystal period passes. -/
def State.idleStep (s : State) : State :=
  if s.running then
    match s.dueCommands with
    | [] => s.crystalPeriod
    | c :: cs =>
      { s with
        freeIndex := s.freeIndex + (c :: cs).length
        pending := (pickOrder (c :: cs).length s.freeIndex (c :: cs)).take 1 }
  else s

end Sys2Proof.Machine
end

