-- ==== Sys2Proof/Machine/Gate.lean ====
section
/-! DEFINITION. Gate Capture (spec/03_gate_capture.md): GATE_CANDIDATE_LATCH, GATE_ACTIVE_AT_RELEASE,
CANDIDATE_REJECTED, CROSSING_ACCEPTED, HOLDOFF_END, GATE_CLEARED, GATE_BLOCKED. A command that says a
count is reached takes it as reached (assumption log 2). -/

namespace Sys2Proof.Machine

/-- The level of the GATE pin at which a sample is active, or is not (R43). -/
def State.gateLevel (s : State) (active : Bool) : Bool := active == s.config.gpol

/-- Gate Capture changed, with the pin at the level of the sample. -/
def State.withGate (s : State) (active : Bool) (g : GateUnit) : State :=
  { s with gate := { g with high := s.gateLevel active } }

/-- GATE_CANDIDATE_LATCH (R44): an active sample in ARMED, one that is not the first judged. -/
def execGateCandidateLatch (s : State) : Host.Outcome State Fault Refusal :=
  .next
    (if s.gateReleased ∧ s.gate.capture = .armed then
      s.withGate true
        { s.gate with
          capture := .confirming, candidate := some s.clock.courseTime, confirm := 0
          firstSample := false }
    else s)

/-- GATE_ACTIVE_AT_RELEASE (R44): the first judged sample is active. -/
def execGateActiveAtRelease (s : State) : Host.Outcome State Fault Refusal :=
  .next
    (if s.gateReleased ∧ s.gate.capture = .armed ∧ s.gate.firstSample then
      s.withGate true { s.gate with capture := .awaitClear, blocked := 0, firstSample := false }
    else s)

/-- CANDIDATE_REJECTED (R45): an inactive sample in CONFIRMING. -/
def execCandidateRejected (s : State) : Host.Outcome State Fault Refusal :=
  .next
    (if s.gateReleased ∧ s.gate.capture = .confirming then
      s.withGate false { s.gate with capture := .armed, candidate := none }
    else s)

/-- CROSSING_ACCEPTED (R45): the crossing is handed on with its candidate time, and Gate Capture enters
HOLDOFF. -/
def execCrossingAccepted (s : State) : Host.Outcome State Fault Refusal :=
  .next
    (match s.gate.candidate with
      | some time =>
        if s.gateReleased ∧ s.gate.capture = .confirming then
          ((s.withGate true
            { s.gate with
              capture := .holdoff, candidate := none, confirm := s.confirmLimit
              holdoff := 0 }).handSensor time).settleLine
        else s
      | none => s)

/-- HOLDOFF_END (R47): the sample that reaches the hold-off count is judged. -/
def execHoldoffEnd (active : Bool) (s : State) : Host.Outcome State Fault Refusal :=
  .next
    (if s.gateReleased ∧ s.gate.capture = .holdoff then
      s.withGate active
        (if active then
          { s.gate with capture := .awaitClear, holdoff := s.holdoffLimit, blocked := 0 }
        else { s.gate with capture := .armed, holdoff := s.holdoffLimit })
    else s)

/-- GATE_CLEARED (R48, R49): an inactive sample in AWAIT-CLEAR, which removes E11. -/
def execGateCleared (s : State) : Host.Outcome State Fault Refusal :=
  .next
    (if s.gateReleased ∧ s.gate.capture = .awaitClear then
      (s.withGate false { s.gate with capture := .armed, blocked := 0 }).clearError .e11
    else s)

/-- GATE_BLOCKED (R48, R49): the blocked count reaches 100,000, once in a stay. -/
def execGateBlocked (s : State) : Host.Outcome State Fault Refusal :=
  .next
    (if s.gateReleased ∧ s.gate.capture = .awaitClear ∧ s.gate.blocked < Config.blockedSamples then
      (s.withGate true { s.gate with blocked := Config.blockedSamples }).raise .e11
    else s)

end Sys2Proof.Machine
end

