-- ==== Sys2Proof/Machine/Lifecycle.lean ====
section
/-! DEFINITION. Reset, release and the end of listening (spec/08_station_lifecycle.md): RESET_ASSERTED,
POWER_FALL_DURING_RESET, CLOCK_LOSS, RESET_RELEASED, LISTEN_END. -/

namespace Sys2Proof.Machine

/-- The Panel Unit after reset (R185); the levels of the key pins are the operator's. -/
def Panel.afterReset (p : Panel) : Panel :=
  { Panel.reset with
    trip := { KeyFilter.reset with down := p.trip.down }
    void := { KeyFilter.reset with down := p.void.down }
    dnf := { KeyFilter.reset with down := p.dnf.down }
    ack := { KeyFilter.reset with down := p.ack.down } }

/-- Reset asserted by a cause: every block takes its values after reset, and the pair is released (R140,
R142, R144). The levels of the input pins, the level that others hold on the pair, the queue of commands
and the counter of the free values are not the station's to reset. -/
def State.assertReset (s : State) (cause : ResetCause) : State :=
  { clock := Clock.reset
    gate := { GateUnit.reset with high := s.gate.high }
    table := RunTable.reset
    assign := Assign.reset
    epoch := 0#16
    outbox := Outbox.reset
    receiver := Receiver.reset
    line := { LineUnit.reset with dominant := s.line.dominant }
    results := Results.reset
    port := { Port.reset with xselLow := s.port.xselLow, xclkHigh := s.port.xclkHigh }
    panel := s.panel.afterReset
    station := { StationControl.reset with cause := cause }
    freeIndex := s.freeIndex
    pending := s.pending }

/-- The cause as it is recorded (R144). -/
def ResetInput.cause : ResetInput → ResetCause
  | .power => .power
  | .pin => .pin

/-- A fall of the supply below 2.7 V while reset is held makes the recorded cause POWER (R144). -/
def State.recordPower (s : State) : State :=
  { s with station := { s.station with cause := .power } }

/-- RESET_ASSERTED (R142): outside RESET every activity stops and the state is emptied. A cause that
appears while reset is asserted keeps it asserted; a fall of the supply is then recorded (R144). -/
def execResetAsserted (cause : ResetInput) (s : State) : Host.Outcome State Fault Refusal :=
  .next
    (if s.running then s.assertReset (ResetInput.cause cause)
    else
      match cause with
      | .power => s.recordPower
      | .pin => s)

/-- POWER_FALL_DURING_RESET (R144). -/
def execPowerFallDuringReset (s : State) : Host.Outcome State Fault Refusal :=
  .next (if s.running then s else s.recordPower)

/-- CLOCK_LOSS (R143): asserts reset with cause CLOCK; a reset that is held keeps its cause (R144). -/
def execClockLoss (s : State) : Host.Outcome State Fault Refusal :=
  .next (if s.running then s.assertReset .clock else s)

/-- The station released: the straps are sampled, and it enters CONFIG FAULT on GCT code 7 and
LISTENING otherwise (R145, R147). -/
def State.release (s : State) (straps : Straps) : State :=
  if straps.gct = 7#3 then
    { s with
      station := { s.station with state := .configFault, straps := some straps } }.raise .e03
  else
    { s with station := { s.station with state := .listening, straps := some straps } }

/-- RESET_RELEASED (R147): in RESET alone. -/
def execResetReleased (straps : Straps) (s : State) : Host.Outcome State Fault Refusal :=
  .next (if s.running then s else s.release straps)

/-- Station 0's counter at entry to ACTIVE: from the listening mark where an epoch was adopted, and 1
where it was founded (R24). -/
def State.setCounter (s : State) (founded : Bool) : State :=
  if s.number = 0 then s.withNextRun (if founded then 1 else s.table.markRun + 1) else s

/-- The third step of the entry to ACTIVE (R150): the state, Gate Capture's release (R54), the unit
from OFF to IDLE (R135), the beacon (R35) and FRESH (R106). -/
def State.becomeActive (s : State) : State :=
  let s1 := (s.enter .active).releaseGate
  { s1 with
    line := { s1.line with tx := .idle }
    outbox :=
      { s1.outbox with
        beaconDue := true
        beaconTimer := some (s1.now + Config.beaconInterval)
        fresh := true
        freshEnd := some (s1.now + Config.freshSpan) } }

/-- LISTEN_END (R150): in LISTENING alone, the epoch, the run knowledge, the state and the close, in
that order. -/
def execListenEnd (s : State) : Host.Outcome State Fault Refusal :=
  .next
    (if s.station.state = .listening then
      let s0 := { s with station := { s.station with listenCount := s.listenLimit } }
      let s1 := s0.settleEpoch.setCounter (decide (s.epoch = 0#16))
      (s1.decideHeld.becomeActive.closeAtLimit).settleLine
    else s)

end Sys2Proof.Machine
end

