-- ==== Sys2Proof/Machine/Receive.lean ====
section
/-! DEFINITION. Taking a frame (R98, R109 to R113) and the seven RECEIVE commands. -/

namespace Sys2Proof.Machine

/-- The Line Access Unit has handed its complete frame on, and ignores the line until it has been
idle (R128, R130). -/
def State.frameHandedOn (s : State) : State :=
  { s with line := { s.line with rx := .ignoring, complete := none } }

/-! ### The receive checks (R109, R110) -/

/-- A frame that bears this station's own number: E01, and what a silencing error does (R109). A frame
of its own number that ends while it is itself sending is its own and is not received (R130;
assumption log 18). -/
def State.ownNumber (s : State) : State := if s.sending then s else (s.raise .e01).silence

/-- What the receive checks make of a well-formed frame from a peer (R110). -/
inductive Check where
  | ignored
  | mismatch
  | accepted
  deriving DecidableEq, Repr

/-- The check of R110: only a FRESH beacon of the same gate count leaves MISMATCH, and only a beacon
of another gate count enters it. -/
def State.checkPeer (s : State) (p : Nat) (f : Payload) : Check :=
  match f with
  | .beacon b =>
    if (s.peer p).presence = .mismatch then
      if beaconFresh b ∧ b.gateCount.toNat = s.gates then .accepted else .ignored
    else if b.gateCount.toNat = s.gates then .accepted
    else .mismatch
  | .start _ | .cross _ | .ruling _ | .session _ | .askRepeat _ | .gone _ =>
    if (s.peer p).presence = .mismatch then .ignored else .accepted

/-! ### Presence and bookkeeping (R111, R112 steps 1 and 2) -/

/-- The bookkeeping of an accepted frame; the Bool says whether its content may be taken: a sequenced
frame that its bookkeeping discards gives none (R112, R114, R116). -/
def State.book (s : State) (p : Nat) (f : Frame) : State × Bool :=
  match f.payload with
  | .start _ | .cross _ | .ruling _ | .session _ => s.bookSequence p f.header.seq
  | .beacon b => (s.bookBeacon p b, true)
  | .askRepeat _ | .gone _ => (s, true)

/-! ### The epoch (R84, R86, R87) and what LISTENING keeps (R24, R73) -/

/-- The run value a frame supplies to the listening mark (R24). -/
def markValue : Payload → Nat
  | .beacon b => heldRun b.highest
  | .start p => heldRun p.run
  | .cross p => heldRun p.run
  | .ruling p => heldRun p.run
  | .session _ | .askRepeat _ | .gone _ => 0

/-- The listening mark of station 0 (R24). -/
def State.updateMark (s : State) (f : Frame) : State :=
  if s.number = 0 then
    if s.table.markEpoch < f.header.epoch then
      { s with
        table := { s.table with markEpoch := f.header.epoch, markRun := markValue f.payload } }
    else if f.header.epoch = s.table.markEpoch then
      { s with table := { s.table with markRun := max s.table.markRun (markValue f.payload) } }
    else s
  else s

/-- The station 0 listening record of stations 1 to N−1 (R73). -/
def State.updateRecord (s : State) (f : Frame) : State :=
  if s.isAssigner ∧ f.header.station = 0#8 then
    match f.payload with
    | .beacon b =>
      if s.assign.recEpoch ≤ f.header.epoch then
        { s with
          assign :=
            { s.assign with
              recEpoch := f.header.epoch
              recHighest := heldRun b.highest
              recOldest := heldRun (b.oldest.getD 0#16) } }
      else s
    | .start p =>
      match runField p.run with
      | some r =>
        if s.assign.recEpoch < f.header.epoch then
          { s with
            assign :=
              { s.assign with recEpoch := f.header.epoch, recHighest := r, recOldest := r } }
        else if f.header.epoch = s.assign.recEpoch then
          { s with
            assign :=
              { s.assign with
                recHighest := max s.assign.recHighest r
                recOldest := if s.assign.recOldest = 0 then r else s.assign.recOldest } }
        else s
      | none => s
    | .cross _ | .ruling _ | .session _ | .askRepeat _ | .gone _ => s
  else s

/-- The epoch is raised in LISTENING, without a session change (R84). -/
def State.raiseEpoch (s : State) (e : Word16) : State :=
  if s.epoch < e then s.withEpoch e else s

/-- Step 3 of R112; the Bool says whether the frame is of an older epoch (R87), a distinction that
does not arise in LISTENING. -/
def State.epochStep (s : State) (f : Frame) : State × Bool :=
  if s.station.state = .listening then
    (((s.updateMark f).updateRecord f).raiseEpoch f.header.epoch, false)
  else if s.epoch < f.header.epoch then
    (s.adoptEpoch f.header.epoch f.header.station.toNat, false)
  else (s, decide (f.header.epoch < s.epoch))

/-! ### Content (R112 step 4) -/

/-- Station 0's last-beacon snapshot (R113). -/
def State.snapshotBeacon (s : State) (b : BeaconPayload) : State :=
  { s with
    receiver :=
      { s.receiver with
        snapshot :=
          { taken := true, highest := heldRun b.highest, oldest := heldRun (b.oldest.getD 0#16) } } }

/-- The content of a BEACON: the carried time, whatever the epoch (R30), then station 0's snapshot and
the HELD release, unless it is of an older epoch (R113, R87; assumption log 9). -/
def State.beaconContent (s : State) (f : Frame) (b : BeaconPayload) (older : Bool) : State :=
  let s1 :=
    if b.courseTime.toNat ≤ Config.timeLimit then s.takeTime b.courseTime.toNat else s
  if f.header.station = 0#8 ∧ older = false then
    let s2 := s1.snapshotBeacon b
    if f.header.epoch = s2.epoch then s2.releaseHeld (b.oldest.getD 0#16).toNat else s2
  else s1

/-- The content of a frame, where its bookkeeping left it to be taken (R112). -/
def State.content (s : State) (f : Frame) (applied older : Bool) : State :=
  match f.payload with
  | .beacon b => s.beaconContent f b older
  | .start _ | .cross _ | .ruling _ =>
    if applied ∧ older = false ∧ s.onCourse then
      match payloadFact s.gates f.payload with
      | some fact => s.takeFactAndWalk fact
      | none => s
    else s
  | .session _ => s
  | .askRepeat r =>
    if older then s
    else if r.originator = s.stationByte then s.serve f.header.station r.seq
    else s.suppress r
  | .gone g => if older then s else s.takeGone f.header.station.toNat g

/-! ### A frame, whole (R112) -/

/-- A peer that leaves MISMATCH goes on as one with its expected sequence absent (R110). -/
def State.leaveMismatch (s : State) (p : Nat) : State :=
  if (s.peer p).presence = .mismatch then s.withPeer p { s.peer p with expected := none } else s

/-- An accepted frame: presence, bookkeeping, epoch, content (R112). -/
def State.accept (s : State) (f : Frame) : State :=
  let p := f.header.station.toNat
  let booked := ((s.leaveMismatch p).hear p).book p f
  let tested := booked.1.epochStep f
  tested.1.content f booked.2 tested.2

/-- A complete frame with a correct check: its form (R98), the receive checks (R109, R110), and what
an accepted frame does (R112). Nothing is received in RESET and CONFIG FAULT (R127). -/
def State.receive (s : State) (f : Frame) : State :=
  if s.receives then
    let s0 := s.frameHandedOn
    if f.wellFormed then
      if f.header.station = s.stationByte then s0.ownNumber
      else
        match s0.checkPeer f.header.station.toNat f.payload with
        | .ignored => s0
        | .mismatch => s0.enterMismatch f.header.station.toNat
        | .accepted => s0.accept f
    else s0
  else s

/-! ### The commands -/

/-- RECEIVE_BEACON (R116). -/
def execReceiveBeacon (h : Header) (p : BeaconPayload) (s : State) :
    Host.Outcome State Fault Refusal :=
  .next (s.receive ⟨h, .beacon p⟩).settleLine

/-- RECEIVE_START (R114). -/
def execReceiveStart (h : Header) (p : StartPayload) (s : State) :
    Host.Outcome State Fault Refusal :=
  .next (s.receive ⟨h, .start p⟩).settleLine

/-- RECEIVE_CROSS (R114). -/
def execReceiveCross (h : Header) (p : CrossPayload) (s : State) :
    Host.Outcome State Fault Refusal :=
  .next (s.receive ⟨h, .cross p⟩).settleLine

/-- RECEIVE_RULING (R81). -/
def execReceiveRuling (h : Header) (p : RulingPayload) (s : State) :
    Host.Outcome State Fault Refusal :=
  .next (s.receive ⟨h, .ruling p⟩).settleLine

/-- RECEIVE_SESSION (R89). -/
def execReceiveSession (h : Header) (p : SessionPayload) (s : State) :
    Host.Outcome State Fault Refusal :=
  .next (s.receive ⟨h, .session p⟩).settleLine

/-- RECEIVE_REPEAT (R107, R118). -/
def execReceiveRepeat (h : Header) (p : RepeatPayload) (s : State) :
    Host.Outcome State Fault Refusal :=
  .next (s.receive ⟨h, .askRepeat p⟩).settleLine

/-- RECEIVE_GONE (R119). -/
def execReceiveGone (h : Header) (p : GonePayload) (s : State) :
    Host.Outcome State Fault Refusal :=
  .next (s.receive ⟨h, .gone p⟩).settleLine

end Sys2Proof.Machine
end

