-- ==== Sys2Proof/Machine/Timers.lean ====
section
/-! DEFINITION. The millisecond tick and the ends of timers by counting (spec/02_course_time.md, R29):
MILLISECOND_TICK, BEACON_TIMER_END, FRESH_SPAN_END, PENDING_ENTRY_EXPIRY, RESULT_HOLD_END,
RUN_NUMBER_HOLD_END, TONE_STEP_END, PEER_SILENT, RETRY_DEADLINE. A timer's command has its effect where
the timer's end is reached (assumption log 3). -/

namespace Sys2Proof.Machine

/-- The clock at the tick: the phase returns to 0, and course time is raised, or, once it has stopped,
the ticks are counted (R27, R29). -/
def Clock.tick (c : Clock) : Clock :=
  if c.courseTime < Config.timeLimit then
    { c with courseTime := c.courseTime + 1, phase := 0 }
  else { c with phase := 0, stopTicks := c.stopTicks + 1 }

/-- MILLISECOND_TICK (R27): and the 24-hour close where the tick brings course time to the limit (R38),
together with the expiries and retries that the limit reaches, in a free order (R70). -/
def execMillisecondTick (s : State) : Host.Outcome State Fault Refusal :=
  .next
    (if s.running then
      let s1 := { s with clock := s.clock.tick }
      if s.clock.courseTime < Config.timeLimit ∧ s1.clock.courseTime = Config.timeLimit ∧
          (s.station.state = .active ∨ s.station.state = .mute) then
        (s1.fallTogether false).settleLine
      else s1
    else s)

/-- BEACON_TIMER_END (R35). -/
def execBeaconTimerEnd (s : State) : Host.Outcome State Fault Refusal :=
  .next s.beaconTimerStep.settleLine

/-- FRESH_SPAN_END (R106). -/
def execFreshSpanEnd (s : State) : Host.Outcome State Fault Refusal := .next s.freshStep

/-- PENDING_ENTRY_EXPIRY (R68): the oldest entry whose deadline is reached leaves as STRAY NO RUN. -/
def execPendingEntryExpiry (s : State) : Host.Outcome State Fault Refusal :=
  .next
    (match s.assign.entries with
      | e :: es =>
        if e.deadline ≤ s.now then (s.withEntries es).stray .noRun e.time e.manual else s
      | [] => s)

/-- RESULT_HOLD_END (R180). -/
def execResultHoldEnd (s : State) : Host.Outcome State Fault Refusal := .next s.resultHoldStep

/-- RUN_NUMBER_HOLD_END (R180). -/
def execRunNumberHoldEnd (s : State) : Host.Outcome State Fault Refusal := .next s.runHoldStep

/-- TONE_STEP_END (R183). -/
def execToneStepEnd (s : State) : Host.Outcome State Fault Refusal := .next s.toneStep

/-- PEER_SILENT (R111). -/
def execPeerSilent (peer : Fin 16) (s : State) : Host.Outcome State Fault Refusal :=
  .next
    (if s.silenceDue (s.peer peer.val) then
      s.withPeer peer.val (s.peer peer.val).fallSilent
    else s)

/-- RETRY_DEADLINE (R117). -/
def execRetryDeadline (peer : Fin 16) (seq : Byte) (s : State) :
    Host.Outcome State Fault Refusal :=
  .next (s.retryOne peer.val seq).settleLine

end Sys2Proof.Machine
end

