-- ==== Sys2Proof/Machine/Dispatch.lean ====
section
/-! DEFINITION. What each command does: one direct call of its meaning. -/

namespace Sys2Proof.Machine

/-- A command's effect on everything but the queue. -/
def exec (i : Instr) (s : State) : Host.Outcome State Fault Refusal :=
  match i with
  | .resetAsserted cause => Sys2Proof.Machine.execResetAsserted cause s
  | .powerFallDuringReset => Sys2Proof.Machine.execPowerFallDuringReset s
  | .clockLoss => Sys2Proof.Machine.execClockLoss s
  | .resetReleased straps => Sys2Proof.Machine.execResetReleased straps s
  | .listenEnd => Sys2Proof.Machine.execListenEnd s
  | .millisecondTick => Sys2Proof.Machine.execMillisecondTick s
  | .beaconTimerEnd => Sys2Proof.Machine.execBeaconTimerEnd s
  | .freshSpanEnd => Sys2Proof.Machine.execFreshSpanEnd s
  | .gateCandidateLatch => Sys2Proof.Machine.execGateCandidateLatch s
  | .gateActiveAtRelease => Sys2Proof.Machine.execGateActiveAtRelease s
  | .candidateRejected => Sys2Proof.Machine.execCandidateRejected s
  | .crossingAccepted => Sys2Proof.Machine.execCrossingAccepted s
  | .holdoffEnd active => Sys2Proof.Machine.execHoldoffEnd active s
  | .gateCleared => Sys2Proof.Machine.execGateCleared s
  | .gateBlocked => Sys2Proof.Machine.execGateBlocked s
  | .pendingEntryExpiry => Sys2Proof.Machine.execPendingEntryExpiry s
  | .tripPress => Sys2Proof.Machine.execTripPress s
  | .rulingKeyPress key => Sys2Proof.Machine.execRulingKeyPress key s
  | .rulingKeyLong key => Sys2Proof.Machine.execRulingKeyLong key s
  | .rulingKeyRelease key => Sys2Proof.Machine.execRulingKeyRelease key s
  | .combinationFires => Sys2Proof.Machine.execCombinationFires s
  | .ackPress => Sys2Proof.Machine.execAckPress s
  | .resultHoldEnd => Sys2Proof.Machine.execResultHoldEnd s
  | .runNumberHoldEnd => Sys2Proof.Machine.execRunNumberHoldEnd s
  | .toneStepEnd => Sys2Proof.Machine.execToneStepEnd s
  | .receiveBeacon h p => Sys2Proof.Machine.execReceiveBeacon h p s
  | .receiveStart h p => Sys2Proof.Machine.execReceiveStart h p s
  | .receiveCross h p => Sys2Proof.Machine.execReceiveCross h p s
  | .receiveRuling h p => Sys2Proof.Machine.execReceiveRuling h p s
  | .receiveSession h p => Sys2Proof.Machine.execReceiveSession h p s
  | .receiveRepeat h p => Sys2Proof.Machine.execReceiveRepeat h p s
  | .receiveGone h p => Sys2Proof.Machine.execReceiveGone h p s
  | .badFrameDropped => Sys2Proof.Machine.execBadFrameDropped s
  | .frameAbandoned cause => Sys2Proof.Machine.execFrameAbandoned cause s
  | .peerSilent peer => Sys2Proof.Machine.execPeerSilent peer s
  | .retryDeadline peer seq => Sys2Proof.Machine.execRetryDeadline peer seq s
  | .transmitStart => Sys2Proof.Machine.execTransmitStart s
  | .lineDefer => Sys2Proof.Machine.execLineDefer s
  | .transmitComplete => Sys2Proof.Machine.execTransmitComplete s
  | .readbackMismatch => Sys2Proof.Machine.execReadbackMismatch s
  | .restEnd => Sys2Proof.Machine.execRestEnd s
  | .xselFall => Sys2Proof.Machine.execXselFall s
  | .next => Sys2Proof.Machine.execNext s
  | .peek => Sys2Proof.Machine.execPeek s
  | .status => Sys2Proof.Machine.execStatus s
  | .unknownCommand b => Sys2Proof.Machine.execUnknownCommand b s
  | .replyShiftedOut => Sys2Proof.Machine.execReplyShiftedOut s
  | .transferComplete => Sys2Proof.Machine.execTransferComplete s
  | .transferAbort => Sys2Proof.Machine.execTransferAbort s
  | .keyCandidateLatch key down => Sys2Proof.Machine.execKeyCandidateLatch key down s
  | .tripOrAckRelease key => Sys2Proof.Machine.execTripOrAckRelease key s
  | .byteTaken ended => Sys2Proof.Machine.execByteTaken ended s
  | .waitingForAFrame => Sys2Proof.Machine.execWaitingForAFrame s
  | .lineBusy => Sys2Proof.Machine.execLineBusy s

end Sys2Proof.Machine
end

