-- ==== Sys2Proof/Machine/Step.lean ====
section
/-! DEFINITION. One step of the station: the command at the front of the queue, or, with no command
waiting, what the station does by itself. -/

namespace Sys2Proof.Machine

/-- One step: the front command is taken and run with the queue's rest; on an empty queue, the idle step
(assumption log 4). -/
def step (s : State) : Host.Outcome State Fault Refusal :=
  match s.pending with
  | c :: rest => exec c { s with pending := rest }
  | [] => .next s.idleStep

/-- The state with the command a table word spells put at the front of its queue, or unchanged where
the word spells none (assumption log 17). -/
def State.withFetchWord (s : State) (nbits w : Nat) : State :=
  match decodeTableWord nbits w with
  | some c => { s with pending := c :: s.pending }
  | none => s

end Sys2Proof.Machine
end

