-- ==== Sys2Proof/Safety.lean ====
section
/-! DEFINITION. What the data sheet says holds of a station between any two happenings, one predicate for
each part of the state. The statements about runs are written in these terms. -/

namespace Sys2Proof.Machine

/-! ### Course Clock -/

/-- Course time is 0 to 86,400,000 and the phase 0 to 4095 (R27); a station in ACTIVE or MUTE has not
reached the limit and a CLOSED one stands at it (R38, R153); ticks are counted at the limit alone (R29). -/
def State.ClockSound (s : State) : Prop :=
  s.clock.courseTime ≤ Config.timeLimit ∧
  s.clock.phase < Config.periodsPerMs ∧
  (s.station.state = .active ∨ s.station.state = .mute → s.clock.courseTime < Config.timeLimit) ∧
  (s.station.state = .closed → s.clock.courseTime = Config.timeLimit) ∧
  (s.clock.stopTicks ≠ 0 → s.clock.courseTime = Config.timeLimit)

/-! ### Station Control -/

/-- The straps are held outside RESET alone (R146), GCT code 7 means CONFIG FAULT and nothing else does
(R147), no epoch is held before LISTENING (R83), and one is held from ACTIVE or MUTE on (R85). -/
def State.ModeSound (s : State) : Prop :=
  (s.station.straps = none ↔ s.station.state = .reset) ∧
  (s.station.state ≠ .reset → (s.config.gct = 7#3 ↔ s.station.state = .configFault)) ∧
  (s.station.state = .reset ∨ s.station.state = .configFault → s.epoch = 0#16) ∧
  (s.onCourse = true → s.epoch ≠ 0#16)

/-- E03 is pending in CONFIG FAULT alone (R147), E10 in CLOSED alone (R38), E01 and E02 in MUTE and
CLOSED alone, one of them always in MUTE (R152); nothing is pending in RESET (R155); and a CLOSED
station speaks on exactly while neither E01 nor E02 is pending (R104). -/
def State.ErrorsSound (s : State) : Prop :=
  (s.station.errors.e03 = true ↔ s.station.state = .configFault) ∧
  (s.station.errors.e10 = true ↔ s.station.state = .closed) ∧
  (s.station.errors.e01 = true ∨ s.station.errors.e02 = true →
    s.station.state = .mute ∨ s.station.state = .closed) ∧
  (s.station.state = .mute → s.station.errors.e01 = true ∨ s.station.errors.e02 = true) ∧
  (s.station.state = .reset → s.station.errors = ErrorSet.none) ∧
  (s.station.closedSpeaking = true ↔
    s.station.state = .closed ∧ s.station.errors.e01 = false ∧ s.station.errors.e02 = false)

/-- The transmit state is OFF, the Control List empty, no beacon due and the beacon timer stopped while
the station is not speaking; while it is speaking the unit is not OFF and the timer runs (R36, R104,
R124, R131). -/
def State.SpeakingSound (s : State) : Prop :=
  (s.line.tx = .off ↔ s.speaking = false) ∧
  (s.outbox.beaconTimer = none ↔ s.speaking = false) ∧
  (s.speaking = false → s.outbox.control = [] ∧ s.outbox.beaconDue = false)

/-- RESET holds every block at its values after reset; the recorded cause, the levels of the input pins,
the queue and the free order's counter are what remains (R142, R144, R146). -/
def State.ResetHeld (s : State) : Prop :=
  s.station.state = .reset →
    s =
      { State.reset with
        gate := { State.reset.gate with high := s.gate.high }
        line := { State.reset.line with dominant := s.line.dominant }
        port :=
          { State.reset.port with xselLow := s.port.xselLow, xclkHigh := s.port.xclkHigh }
        panel :=
          { State.reset.panel with
            trip := { State.reset.panel.trip with down := s.panel.trip.down }
            void := { State.reset.panel.void with down := s.panel.void.down }
            dnf := { State.reset.panel.dnf with down := s.panel.dnf.down }
            ack := { State.reset.panel.ack with down := s.panel.ack.down } }
        station := { State.reset.station with cause := s.station.cause }
        freeIndex := s.freeIndex
        pending := s.pending }

/-! ### Run Table -/

/-- A record names a run 1 to 999, has one slot for each gate 1 to N−1, and reports its derived state
exactly when it is settled (R1, R19). -/
def RunRecord.Sound (gates : Nat) (r : RunRecord) : Prop :=
  1 ≤ r.run ∧ r.run ≤ Config.maxRun ∧ r.splits.length = gates - 1 ∧
  r.reported = if r.settled then some r.state else none

/-- At most 48 records, one for each run, each sound; the floor is a run number or 0; the table is empty
before ACTIVE and MUTE (R1, R5, R9). -/
def State.TableSound (s : State) : Prop :=
  s.table.records.length ≤ Config.tableCapacity ∧
  (s.table.records.map (fun r => r.run)).Pairwise (· < ·) ∧
  (∀ r ∈ s.table.records, r.Sound s.gates) ∧
  s.table.floor ≤ Config.maxRun ∧
  (s.onCourse = false → s.table.records = [] ∧ s.table.floor = 0)

/-- The next-run counter is 1 to 1000, stays 1 at stations other than 0, and at station 0 lies above
every run the table holds or has let go (R15). -/
def State.CounterSound (s : State) : Prop :=
  1 ≤ s.table.nextRun ∧ s.table.nextRun ≤ Config.maxRun + 1 ∧
  s.table.markRun ≤ Config.maxRun ∧
  (s.number ≠ 0 → s.table.nextRun = 1) ∧
  (s.number = 0 →
    s.table.floor < s.table.nextRun ∧ ∀ r ∈ s.table.records, r.run < s.table.nextRun)

/-! ### Assignment Unit -/

/-- The Pending Crossing List: at most 8 entries in ascending crossing time, each with its deadline 2000
ms on and its joining walk over (R57, R58); it is empty outside ACTIVE (R70), while HELD is set (R72),
and at stations with no Assignment Unit at work; HELD is clear there and before ACTIVE, and the boundary
is 0 while HELD is clear (R57, R74). -/
def State.AssignSound (s : State) : Prop :=
  s.assign.entries.length ≤ Config.pendingCapacity ∧
  (s.assign.entries.map (fun e => e.time)).Pairwise (· ≤ ·) ∧
  (∀ e ∈ s.assign.entries, e.deadline = e.time + Config.pendingWait ∧ e.joining = false) ∧
  (s.assign.entries ≠ [] → s.isActive = true ∧ s.isAssigner = true ∧ s.assign.held = false) ∧
  (s.assign.held = true → s.isAssigner = true ∧ s.onCourse = true) ∧
  (s.assign.held = false → s.assign.boundary = 0)

/-! ### Outbox -/

/-- The ring: at most 32 entries, the station's own sequenced frames, numbered one after the other up to
the next sequence number, the SENT before the UNSENT (R99, R100). -/
def State.RingSound (s : State) : Prop :=
  s.outbox.ring.length ≤ Config.ringCapacity ∧
  (∀ e ∈ s.outbox.ring,
    e.frame.payload.sequenced = true ∧ e.frame.header.station = s.stationByte) ∧
  (∀ i, ∀ h : i < s.outbox.ring.length,
    (s.outbox.ring[i]'h).frame.header.seq =
      s.outbox.nextSeq - BitVec.ofNat 8 (s.outbox.ring.length - i)) ∧
  (s.outbox.ring.map (fun e => e.sent)).Pairwise (fun a b => b = true → a = true)

/-- The Control List: at most 6 entries, no two of one identity, and every copy a sequenced frame of the
station's own (R102, R103). -/
def State.ControlSound (s : State) : Prop :=
  s.outbox.control.length ≤ Config.controlCapacity ∧
  s.outbox.control.Pairwise (fun a b => a.same b = false) ∧
  ∀ f, ControlEntry.copy f ∈ s.outbox.control →
    f.payload.sequenced = true ∧ f.header.station = s.stationByte

/-! ### Receiver -/

/-- A Missing List: at most 8 entries, distinct, each with at most 3 attempts consumed (R115). -/
def Peer.MissingSound (p : Peer) : Prop :=
  p.missing.length ≤ Config.missingCapacity ∧
  (p.missing.map (fun m => m.seq)).Nodup ∧
  ∀ m ∈ p.missing, m.attempts ≤ 3

/-- Sixteen entries with sound Missing Lists; a silence timer runs for a PRESENT peer alone (R108, R111,
R115). -/
def State.PeersSound (s : State) : Prop :=
  s.receiver.peers.length = Config.stationCount ∧
  ∀ p ∈ s.receiver.peers, p.MissingSound ∧ (p.silenceEnd ≠ none ↔ p.presence = .present)

/-- The Peer Table's entry for the station's own number is kept at its reset values (R108). -/
def State.OwnEntrySound (s : State) : Prop :=
  s.station.state ≠ .reset → s.peer s.number = Peer.reset

/-! ### Result Queue -/

/-- The queue: at most 24 records, numbered one after the other up to the counter, stamped with course
times that do not fall and none of which lies ahead; the lost count stops at 255 (R159, R160, R161). -/
def State.QueueSound (s : State) : Prop :=
  s.results.records.length ≤ Config.queueCapacity ∧
  s.results.lost ≤ 255 ∧
  (∀ i, ∀ h : i < s.results.records.length,
    (s.results.records[i]'h).seq =
      s.results.counter - BitVec.ofNat 8 (s.results.records.length - i)) ∧
  (s.results.records.map (fun r => r.courseTime)).Pairwise (· ≤ ·) ∧
  ∀ r ∈ s.results.records, r.courseTime ≤ s.clock.courseTime

/-! ### Line Access Unit -/

/-- The failed-attempt count is 0 to 16, and has reached 16 only where E02 is pending (R131, R139). -/
def State.FailuresSound (s : State) : Prop :=
  s.line.failed ≤ Config.maxFailed ∧
  (s.line.failed = Config.maxFailed → s.station.errors.e02 = true)

/-- Station numbers on the wire: the frame being driven carries the station's own number, and a ring
frame being driven is the oldest UNSENT one, sent after the first beacon (R105, R124). -/
def State.SendingSound (s : State) : Prop :=
  ∀ source frame n, s.line.tx = .sending source frame n →
    frame.header.station = s.stationByte ∧
    (source = .ring → s.outbox.firstBeaconSent = true ∧ s.oldestUnsent = some frame) ∧
    (source = .control → s.outbox.control ≠ [])

/-- A unit that is IDLE has no frame ready: it waits from the moment one is (R131). -/
def State.LineSettled (s : State) : Prop := s.line.tx = .idle → s.frameReady = false

/-- A command that asserts reset (R142, R143). -/
def resets : Instr → Bool
  | .resetAsserted _ | .clockLoss => true
  | _ => false

/-- The order in which a run's state moves: ON_COURSE, then DNF, FINISHED, VOID (R3, R192). -/
def RunState.rank : RunState → Nat
  | .onCourse => 0
  | .dnf => 1
  | .finished => 2
  | .void => 3

/-! ### The terms in which the statements give effects -/

/-- Gate Capture once a crossing is accepted (R45). -/
def State.acceptedGate (s : State) : GateUnit :=
  { s.gate with
    capture := .holdoff, candidate := none, confirm := s.confirmLimit, holdoff := 0
    high := s.config.gpol }

/-- The station once a press of TRIP is accepted (R174). -/
def State.tripAccepted (s : State) : State :=
  { s with
    panel :=
      { s.panel with trip := { s.panel.trip with pressed := true, change := 0, down := true } } }

/-- A command that hands on a crossing with a time: a sensor crossing accepted (R45), or a TRIP press
in ACTIVE at a gate station (R53), whose crossing is MANUAL. `base` is the station with what the gate or
the key itself does. -/
def State.CrossingTaken (s : State) (c : Instr) (time : Nat) (manual : Bool) (base : State) : Prop :=
  (c = .crossingAccepted ∧ manual = false ∧ s.gateReleased = true ∧
    s.gate.capture = .confirming ∧ s.gate.candidate = some time ∧
    base = { s with gate := s.acceptedGate }) ∨
  (c = .tripPress ∧ manual = true ∧ s.isActive = true ∧ s.isGateStation = true ∧
    s.panel.trip.pressed = false ∧ s.panel.trip.change ≠ 0 ∧ s.panel.trip.candidate = some time ∧
    base = s.tripAccepted)

/-- The transmit state once the Outbox may have a frame ready: an IDLE unit waits (R131). -/
def State.waitIf (s : State) (ready : Bool) : TxState :=
  if s.line.tx = .idle ∧ ready = true then s.startWaiting else s.line.tx

/-- The Outbox gives a place: the ring has room, or a SENT entry to give up (R100). -/
def State.HasPlace (s : State) : Prop :=
  s.outbox.ring.length < 32 ∨ ∃ e ∈ s.outbox.ring, e.sent = true

/-- The Outbox with one more frame, UNSENT, with the next sequence (R99); a ring of 32 has given up its
oldest SENT entry for it (R100). -/
def State.addedFrame (s : State) (epoch : Word16) (p : Payload) : Outbox :=
  { s.outbox with
    ring :=
      (if s.outbox.ring.length < 32 then s.outbox.ring
        else s.outbox.ring.eraseP (fun e => e.sent)) ++
        [⟨⟨⟨s.stationByte, epoch, s.outbox.nextSeq⟩, p⟩, false⟩]
    nextSeq := s.outbox.nextSeq + 1 }

/-- The transmit state once the ring has gained a frame (R105, R131). -/
def State.txWithFrame (s : State) : TxState :=
  s.waitIf (!s.outbox.control.isEmpty || s.outbox.beaconDue || s.outbox.firstBeaconSent)

/-- A STRAY result's contents (R158). -/
def strayContents (reason : StrayReason) (time : Nat) (manual : Bool) : ResultContents :=
  ⟨.stray, .stray reason, 0, some time, ⟨false, false, false, false, false, false, manual⟩, 0⟩

/-- The station once one more result has been appended to its queue, and nothing else (R159, R160). -/
def State.appended (s : State) (c : ResultContents) : State :=
  { s with results := (s.append c).results, port := (s.append c).port }

/-- The tone once a code has been raised: a code that was not pending gives the ALARM (R155). -/
def State.alarmed (s : State) (c : ErrorCode) : Option TonePlay :=
  if s.station.errors.has c then s.panel.tone else some ⟨.alarm, 0, s.now + 500⟩

/-- A frame's header passes the receive checks as a peer's: the station receives, the number is another
station's, and the peer is not in MISMATCH (R98, R109, R110). -/
def State.Hears (s : State) (h : Header) : Prop :=
  s.receives = true ∧ s.receiver.peers.length = Config.stationCount ∧
  h.station.toNat < Config.stationCount ∧ h.station ≠ s.stationByte ∧
  (s.peer h.station.toNat).presence ≠ .mismatch

/-- Nothing is missing of the peer, and the sequenced frame is the first heard of it or bears the
expected sequence (R114). -/
def State.InOrder (s : State) (h : Header) : Prop :=
  (s.peer h.station.toNat).missing = [] ∧
  ((s.peer h.station.toNat).expected = none ∨ (s.peer h.station.toNat).expected = some h.seq)

/-- The station once a frame is accepted from a peer: PRESENT, heard now, its silence timer 1000 ms on,
with the expected sequence and the Missing List given; the line unit has handed the frame on (R111,
R128). -/
def State.heardAs (s : State) (h : Header) (expected : Option Byte) (missing : List MissingEntry) :
    State :=
  { s with
    receiver :=
      { s.receiver with
        peers :=
          s.receiver.peers.set h.station.toNat
            ⟨.present, s.clock.courseTime, some (s.now + 1000), expected, missing⟩ }
    line := { s.line with rx := .ignoring, complete := none } }

end Sys2Proof.Machine
end

