-- ==== Sys2Proof/Certificates/Slice0/Obligations.lean ====
section
/-! DEFINITION. The statements for the provers: what the commands of the ALT-16 do, in the order of the
blocks, and what holds of the whole station at every step. Their terms are those of
Sys2Proof/Safety.lean. -/

open Sys2Proof Sys2Proof.Machine

/-! ### The queue and the idle station -/

/-- The command at the front of the queue is the one a step runs, with the queue's rest left waiting. -/
def Obligations.StepRunsTheFrontCommand : Prop :=
  ∀ (c : Instr) (rest : List Instr) (s : State),
    step { s with pending := c :: rest } = exec c { s with pending := rest }

/-- No command stops the station: each answers a next state, and the queue is as it was. -/
def Obligations.CommandsNeverStopAndLeaveTheQueue : Prop :=
  ∀ (c : Instr) (s : State), ∃ t, exec c s = .next t ∧ t.pending = s.pending

/-- The step on an empty queue (the model's choice, assumption log 4). In RESET nothing changes; where
commands are due, one of them waits next; and otherwise one crystal period passes. What is due is: a complete
frame, at the end of its last stop bit (assumption log 30), as the command that takes it, or dropped where it
is not a frame or the station receives none; the start of a transmission, where gap and slot are over on an
idle line; the end of each timer that has reached it; the expiry of the oldest pending crossing; and the retry
of the oldest such entry of the lowest peer that has one. The crystal period raises the phase, the
listen counter, the gate divider and the key divider, and, where a divider is over, takes the sample: a sample
that only raises a count raises it, and any other is a command (that the gate sample of the period in which
listening ends is not judged: the model's choice, assumption log 27). It raises the idle run, the rest timer
and the count of gap and slot on an idle line; it drives the frame being sent, reads each bit back at its
middle, and takes the bits of a byte being received at theirs; where a frame's last stop bit ends, the rest
comes into force (assumption log 30); and it turns the TONE divider (assumption log 29). Whether a level
that others hold ends, and whether XCLK changes with what on XIN, is left open (the model's choice, assumption
logs 13 and 14). The commands that fall due with the period wait, in any order (assumption log 5); nothing
else changes. -/
def Obligations.AnIdleStepIsOneCrystalPeriod : Prop :=
  (∀ s : State, s.pending = [] →
    (s.running = false → step s = .next s) ∧
    (s.running = true → s.dueCommands ≠ [] →
      ∃ c ∈ s.dueCommands, ∃ n, step s = .next { s with freeIndex := n, pending := [c] })) ∧
  (∀ (s : State) (c : Instr), s.receiver.peers.length = 16 →
    let reached (timer : Option Nat) : Prop := ∃ e, timer = some e ∧ e ≤ s.now
    (c ∈ s.dueCommands ↔
      (∃ bytes, s.line.complete = some bytes ∧
        ¬ (∃ r : Reading, s.line.reading = some r ∧ 304 ≤ r.periods) ∧
        ((readFrame bytes = none ∧ c = .badFrameDropped) ∨
          ∃ f, readFrame bytes = some f ∧
            c = if s.receives then frameCommand f else .badFrameDropped)) ∨
      (c = .transmitStart ∧ s.line.busy = false ∧
        match s.line.tx with
        | .waiting _ (some n) => 128 * s.number ≤ n
        | .waiting _ none | .off | .idle | .sending _ _ _ => False) ∨
      (c = .beaconTimerEnd ∧ reached s.outbox.beaconTimer) ∨
      (c = .freshSpanEnd ∧ reached s.outbox.freshEnd) ∨
      (c = .pendingEntryExpiry ∧ reached (s.assign.entries.head?.map (fun e => e.deadline))) ∨
      (c = .resultHoldEnd ∧ reached (s.panel.resultHold.map (fun h => h.endsAt))) ∨
      (c = .runNumberHoldEnd ∧ reached (s.panel.runHold.map (fun h => h.endsAt))) ∨
      (c = .toneStepEnd ∧ reached (s.panel.tone.map (fun x => x.endsAt))) ∨
      (∃ p : Fin 16, c = .peerSilent p ∧ (s.peer p.val).presence = .present ∧
        reached (s.peer p.val).silenceEnd) ∨
      (∃ p : Fin 16, ∃ m,
        (s.peer p.val).missing.find? (fun m => decide (m.deadline ≤ s.now)) = some m ∧
          (∀ k < p.val, ∀ x ∈ (s.peer k).missing, s.now < x.deadline) ∧
          c = .retryDeadline p m.seq))) ∧
  (∀ s : State, s.pending = [] → s.running = true → s.dueCommands = [] →
    -- The Course Clock and the listen counter.
    let ticks : List Instr := if s.clock.phase < 4095 then [] else [.millisecondTick]
    let listens : Bool := s.station.state == .listening
    let listened : List Instr :=
      if listens ∧ 4096 * (1000 + 50 * s.number) ≤ s.station.listenCount + 1 then [.listenEnd] else []
    -- Gate Capture.
    let interval : Nat :=
      [410, 409, 410, 410, 409, 410, 409, 410, 410, 409].getD s.gate.interval 410
    let active : Bool := s.gate.high == s.config.gpol
    let judged : Bool := decide (interval ≤ s.gate.divider + 1) && s.gateReleased
    let divided : GateUnit :=
      if s.gate.divider + 1 < interval then { s.gate with divider := s.gate.divider + 1 }
      else { s.gate with divider := 0, interval := (s.gate.interval + 1) % 10 }
    let gate : GateUnit :=
      if judged then
        match s.gate.capture with
        | .armed => if active then divided else { divided with firstSample := false }
        | .confirming =>
          if active ∧ s.gate.confirm + 1 < s.confirmLimit then
            { divided with confirm := s.gate.confirm + 1 }
          else divided
        | .holdoff =>
          if s.gate.holdoff + 1 < s.holdoffLimit then { divided with holdoff := s.gate.holdoff + 1 }
          else divided
        | .awaitClear =>
          if active ∧ s.gate.blocked + 1 < 100000 then { divided with blocked := s.gate.blocked + 1 }
          else divided
      else divided
    let sampled : List Instr :=
      if judged then
        match s.gate.capture with
        | .armed =>
          if active then [if s.gate.firstSample then .gateActiveAtRelease else .gateCandidateLatch]
          else []
        | .confirming =>
          if active then if s.gate.confirm + 1 < s.confirmLimit then [] else [.crossingAccepted]
          else [.candidateRejected]
        | .holdoff => if s.gate.holdoff + 1 < s.holdoffLimit then [] else [.holdoffEnd active]
        | .awaitClear =>
          if active then if s.gate.blocked + 1 = 100000 then [.gateBlocked] else []
          else [.gateCleared]
      else []
    -- The Panel Unit.
    let keyTick : Bool := decide (4096 ≤ s.panel.divider + 1)
    let accepts (f : KeyFilter) : Bool := f.down != f.pressed && decide (20 ≤ f.change + 1)
    let filtered (f : KeyFilter) : KeyFilter :=
      if keyTick = false then f
      else if f.down = f.pressed then { f with change := 0 }
      else if f.change = 0 ∨ accepts f = true then f
      else { f with change := f.change + 1 }
    let keyed (k : Key) (f : KeyFilter) : List Instr :=
      if keyTick = false ∨ f.down = f.pressed then []
      else if f.change = 0 then [.keyCandidateLatch k f.down]
      else if accepts f then [acceptance k f.down]
      else []
    let counts (f : KeyFilter) (h : RulingHold) : Bool :=
      keyTick && f.pressed && !accepts f && decide (h.count < 1000)
    let hold (f : KeyFilter) (h : RulingHold) : RulingHold :=
      if counts f h = true ∧ h.count + 1 < 1000 then { h with count := h.count + 1 } else h
    let long (k : RulingKey) (f : KeyFilter) (h : RulingHold) : List Instr :=
      if counts f h = true ∧ h.count + 1 = 1000 then [.rulingKeyLong k] else []
    let combines : Bool :=
      keyTick && s.panel.comboRunning && s.panel.void.pressed && s.panel.dnf.pressed &&
        !accepts s.panel.void && !accepts s.panel.dnf
    let panel : Panel :=
      { s.panel with
        trip := filtered s.panel.trip
        void := filtered s.panel.void
        dnf := filtered s.panel.dnf
        ack := filtered s.panel.ack
        voidHold := hold s.panel.void s.panel.voidHold
        dnfHold := hold s.panel.dnf s.panel.dnfHold
        comboCount :=
          if combines = true ∧ s.panel.comboCount + 1 < 3000 then s.panel.comboCount + 1
          else s.panel.comboCount
        toneDivider := if s.panel.toneDivider + 1 < 2000 then s.panel.toneDivider + 1 else 0
        divider := if keyTick then 0 else s.panel.divider + 1 }
    let pressed : List Instr :=
      (if combines = true ∧ 3000 ≤ s.panel.comboCount + 1 then [.combinationFires] else []) ++
        long .void s.panel.void s.panel.voidHold ++ long .dnf s.panel.dnf s.panel.dnfHold ++
        keyed .trip s.panel.trip ++ keyed .void s.panel.void ++ keyed .dnf s.panel.dnf ++
        keyed .ack s.panel.ack
    -- The timing line.
    let level : Bool := s.lineLevel
    let idle : Bool := !s.sending && !s.line.busy
    let begun : Option Reading :=
      match s.line.tx with
      | .sending _ _ n =>
        if n % 320 = 0 ∧ s.line.dominant = false ∧ s.line.reading = none then some ⟨0, []⟩
        else s.line.reading
      | .off | .idle | .waiting _ _ => s.line.reading
    let read : Option Reading :=
      match begun with
      | none => none
      | some r =>
        if r.periods + 1 = 304 then some ⟨304, r.levels⟩
        else if 320 ≤ r.periods + 1 then none
        else if (r.periods + 1) % 32 = 16 then
          if r.periods + 1 = 16 ∧ level = false then none
          else some ⟨r.periods + 1, r.levels ++ [level]⟩
        else some ⟨r.periods + 1, r.levels⟩
    let rests : Bool :=
      s.line.restDue && begun.isSome && !read.any (fun (r : Reading) => decide (304 ≤ r.periods))
    let line (dominant : Bool) : LineUnit :=
      { s.line with
        tx :=
          match s.line.tx with
          | .waiting gap (some n) => .waiting gap (some (if idle then n + 1 else n))
          | .waiting gap none =>
            .waiting gap
              (if idle = true ∧ 32 * gap ≤ s.line.idlePeriods + 1 then some 0 else none)
          | .sending source f n => .sending source f (n + 1)
          | .off => .off
          | .idle => .idle
        idlePeriods := if idle then s.line.idlePeriods + 1 else s.line.idlePeriods
        rest := s.line.rest || rests
        restDue := s.line.restDue && !rests
        restPeriods :=
          if rests then 0
          else if idle && s.line.rest then s.line.restPeriods + 1
          else s.line.restPeriods
        dominant := dominant
        reading := read }
    let lined : List Instr :=
      (if idle = true ∧ s.line.rest = true ∧ 2432 ≤ s.line.restPeriods + 1 then [.restEnd] else []) ++
        (if idle = true ∧ 320 ≤ s.line.idlePeriods then
          match s.line.rx with
          | .ignoring => [.waitingForAFrame]
          | .inFrame _ => [.frameAbandoned .idleRun]
          | .waiting => []
        else []) ++
        (match begun with
          | some r =>
            if r.periods + 1 = 304 then
              [.byteTaken (if level then .framingError else .byte (levelsByte r.levels))]
            else []
          | none => []) ++
        (match s.line.tx with
          | .sending _ f n =>
            if (n + 1) % 32 = 16 then
              if level != s.drives then [.readbackMismatch]
              else if f.levels.length ≤ n / 32 + 1 then [.transmitComplete]
              else []
            else []
          | .off | .idle | .waiting _ _ => [])
    -- The Readout Port.
    let byte (xin : Bool) : Byte := (s.port.command <<< 1) ||| (if xin then 1#8 else 0#8)
    let rise (xin : Bool) : Port × List Instr :=
      match s.port.phase with
      | .command =>
        if s.port.bits + 1 < 8 then
          ({ s.port with bits := s.port.bits + 1, command := byte xin, xclkHigh := true }, [])
        else ({ s.port with xclkHigh := true }, [portCommand (byte xin)])
      | .reply =>
        if s.port.bits + 1 < 136 then
          ({ s.port with bits := s.port.bits + 1, xclkHigh := true }, [])
        else ({ s.port with xclkHigh := true }, [.replyShiftedOut])
      | .idle | .done => ({ s.port with xclkHigh := true }, [])
    let fall : Port :=
      { s.port with
        xclkHigh := false
        shown :=
          if (s.port.phase = .command ∨ s.port.phase = .reply) ∧ s.port.bits ≠ 0 then s.port.bits + 1
          else s.port.shown }
    ∃ (t : State) (clocked : List Instr), step s = .next t ∧
      t.clock =
        { s.clock with phase := if s.clock.phase < 4095 then s.clock.phase + 1 else s.clock.phase } ∧
      t.station =
        { s.station with
          listenCount := if listens then s.station.listenCount + 1 else s.station.listenCount } ∧
      t.gate = gate ∧ t.panel = panel ∧
      (t.line = line s.line.dominant ∨ t.line = line false) ∧
      ((t.port = s.port ∧ clocked = []) ∨
        (s.port.xclkHigh = true ∧ t.port = fall ∧ clocked = []) ∨
        (s.port.xclkHigh = false ∧ ∃ xin : Bool, (t.port, clocked) = rise xin)) ∧
      t.pending.Perm (ticks ++ listened ++ sampled ++ pressed ++ lined ++ clocked) ∧
      t.table = s.table ∧ t.assign = s.assign ∧ t.epoch = s.epoch ∧ t.outbox = s.outbox ∧
      t.receiver = s.receiver ∧ t.results = s.results)

/-! ### Reset and release -/

/-- What reset leaves: every block at the values its chapter gives. The cause is recorded; the levels of
the input pins and of the line, the queue and the free order's counter are not the station's to reset
(the pins: the model's choice, assumption log 7). While reset is held, a fall of the supply makes the
recorded cause POWER and the other causes leave it (R144). Release samples the straps: GCT code 7 gives
CONFIG FAULT with E03 and ALARM, every other code LISTENING; nothing else changes. -/
def Obligations.ResetIsAssertedAndReleased : Prop :=
  (∀ s : State, s.station.state ≠ .reset →
     let emptied (cause : ResetCause) : State :=
       { State.reset with
         gate := { State.reset.gate with high := s.gate.high }
         line := { State.reset.line with dominant := s.line.dominant }
         port :=
           { State.reset.port with xselLow := s.port.xselLow, xclkHigh := s.port.xclkHigh }
         panel :=
           { State.reset.panel with
             trip := { State.reset.panel.trip with down := s.panel.trip.down }
             void := { State.reset.panel.void with down := s.panel.void.down }
             dnf := { State.reset.panel.dnf with down := s.panel.dnf.down }
             ack := { State.reset.panel.ack with down := s.panel.ack.down } }
         station := { State.reset.station with cause := cause }
         freeIndex := s.freeIndex
         pending := s.pending }
     exec (.resetAsserted .power) s = .next (emptied .power) ∧
     exec (.resetAsserted .pin) s = .next (emptied .pin) ∧
     exec .clockLoss s = .next (emptied .clock)) ∧
  (∀ s : State,
     (s.station.state = .reset →
       exec .powerFallDuringReset s = .next { s with station := { s.station with cause := .power } } ∧
       exec (.resetAsserted .power) s =
         .next { s with station := { s.station with cause := .power } } ∧
       exec (.resetAsserted .pin) s = .next s ∧
       exec .clockLoss s = .next s) ∧
     (s.station.state ≠ .reset → exec .powerFallDuringReset s = .next s)) ∧
  (∀ (straps : Straps) (s : State), s.station.state = .reset →
     (straps.gct ≠ 7#3 →
       exec (.resetReleased straps) s =
         .next { s with station := { s.station with state := .listening, straps := some straps } }) ∧
     (straps.gct = 7#3 → s.station.errors.e03 = false → s.panel.tone = none →
       exec (.resetReleased straps) s =
         .next
           { s with
             station :=
               { s.station with
                 state := .configFault, straps := some straps
                 errors := { s.station.errors with e03 := true } }
             panel := { s.panel with tone := some ⟨.alarm, 0, s.now + 500⟩ } }))

/-- The end of listening. With course time below the limit the epoch is founded or adopted, station 0's
counter set, HELD decided, and the station is ACTIVE with its first beacon waiting for the line. At the
limit it closes at its entry to ACTIVE, still speaking, with E10 and one CLOSED result. -/
def Obligations.ListenEndEntersActive : Prop :=
  (∀ s : State, s.station.state = .listening → s.SpeakingSound →
     s.clock.courseTime ≠ Config.timeLimit →
     let epoch : Word16 := if s.epoch = 0#16 then 1#16 else s.epoch
     let held := s.isAssigner = true ∧ s.assign.recEpoch = epoch ∧ s.assign.recOldest ≠ 0
     exec .listenEnd s =
       .next
         { s with
           epoch := epoch
           station := { s.station with state := .active, listenCount := 4096 * (1000 + 50 * s.number) }
           table :=
             { s.table with
               nextRun :=
                 if s.number = 0 then (if s.epoch = 0#16 then 1 else s.table.markRun + 1)
                 else s.table.nextRun }
           assign :=
             { s.assign with
               held := if held then true else s.assign.held
               boundary := if held then s.assign.recHighest + 1 else s.assign.boundary }
           gate :=
             { s.gate with
               capture := .armed, candidate := none, confirm := 0, holdoff := 0, blocked := 0
               firstSample := true }
           outbox :=
             { s.outbox with
               beaconDue := true, beaconTimer := some (s.now + 250)
               fresh := true, freshEnd := some (s.now + 2000) }
           line := { s.line with tx := s.startWaiting } }) ∧
  (∀ s : State, s.station.state = .listening → s.SpeakingSound →
     s.clock.courseTime = Config.timeLimit → s.assign.entries = [] →
     ∃ t, exec .listenEnd s = .next t ∧ t.station.state = .closed ∧ t.speaking = true ∧
       t.station.errors = { s.station.errors with e10 := true } ∧
       t.epoch = (if s.epoch = 0#16 then 1#16 else s.epoch) ∧
       t.outbox.beaconDue = true ∧ t.outbox.beaconTimer = some (s.now + 250) ∧
       t.outbox.fresh = true ∧ t.outbox.freshEnd = some (s.now + 2000) ∧
       t.line.tx = s.startWaiting ∧
       t.results =
         (s.append ⟨.closed, .empty, 0, some t.epoch.toNat, Marks.none, 0⟩).results ∧
       t.receiver = s.receiver ∧ t.clock = s.clock ∧ t.table.records = s.table.records)

/-! ### Course time -/

/-- A tick raises course time by 1 until 86,400,000, and after that it is counted for the timers alone
(the count of those ticks: DEDUCED, assumption log 6); the phase goes to 0 and nothing else changes: a
timer whose end the tick reaches ends by a command of its own (the model's choice, assumption log 3). -/
def Obligations.TickRaisesCourseTimeUntilTheLimit : Prop :=
  ∀ s : State, s.running = true →
    (s.clock.courseTime + 1 < Config.timeLimit →
      exec .millisecondTick s =
        .next { s with clock := { s.clock with courseTime := s.clock.courseTime + 1, phase := 0 } }) ∧
    (s.clock.courseTime = Config.timeLimit →
      exec .millisecondTick s =
        .next { s with clock := { s.clock with phase := 0, stopTicks := s.clock.stopTicks + 1 } }) ∧
    (s.clock.courseTime + 1 = Config.timeLimit →
      s.station.state = .listening ∨ s.station.state = .configFault ∨ s.station.state = .closed →
      exec .millisecondTick s =
        .next { s with clock := { s.clock with courseTime := Config.timeLimit, phase := 0 } })

/-- The tick that brings course time to the limit in ACTIVE or MUTE closes the station, in whatever order
it takes the happenings that fall together with the close (assumption log 5): CLOSED, E10, no crossing
pending, speaking on exactly if it was ACTIVE. With nothing pending and no sequence missing it appends
one CLOSED result and nothing else. The expiries and retries that the limit reaches are taken inside the
tick; the beacon timer, the fresh span, the two holds and the silence timers stay as they are, for their ends
are commands of their own (the model's choice, assumption log 3), and so do the gate, the ring and, of a peer,
all but its Missing List. The tone may give way to the ALARM of a code newly pending. -/
def Obligations.TickAtTheLimitCloses : Prop :=
  (∀ s : State, s.clock.courseTime + 1 = Config.timeLimit →
     s.station.state = .active ∨ s.station.state = .mute →
     ∃ t, exec .millisecondTick s = .next t ∧ t.station.state = .closed ∧
       t.clock = { s.clock with courseTime := Config.timeLimit, phase := 0 } ∧
       t.station.errors.e10 = true ∧ t.assign.entries = [] ∧
       t.speaking = s.isActive ∧ t.table = s.table ∧ t.epoch = s.epoch ∧ t.gate = s.gate ∧
       t.outbox.beaconTimer = s.outbox.beaconTimer ∧ t.outbox.beaconDue = s.outbox.beaconDue ∧
       t.outbox.ring = s.outbox.ring ∧ t.outbox.fresh = s.outbox.fresh ∧
       t.outbox.freshEnd = s.outbox.freshEnd ∧ t.panel.resultHold = s.panel.resultHold ∧
       t.panel.runHold = s.panel.runHold ∧
       ∀ i < 16,
         (t.peer i).presence = (s.peer i).presence ∧ (t.peer i).lastHeard = (s.peer i).lastHeard ∧
           (t.peer i).silenceEnd = (s.peer i).silenceEnd ∧
           (t.peer i).expected = (s.peer i).expected) ∧
  (∀ s : State, s.clock.courseTime + 1 = Config.timeLimit →
     s.station.state = .active ∨ s.station.state = .mute → s.assign.entries = [] →
     (∀ p ∈ s.receiver.peers, p.missing = []) →
     ∃ t, exec .millisecondTick s = .next t ∧
       t.results =
         ({ s with clock := { s.clock with courseTime := Config.timeLimit } }.append
           ⟨.closed, .empty, 0, some s.epoch.toNat, Marks.none, 0⟩).results ∧
       t.receiver = s.receiver)

/-- Timers end where course time, or the ticks after its stop, reach their ends, and not before (R29). The
beacon falls due and its next end is 250 ms on; the fresh span ends, and FRESH with it once a beacon has
gone out; a hold is gone; a tone's step gives way to the pattern's next, whose end is counted from the end
before (assumption log 8); a PRESENT peer falls SILENT; the oldest pending crossing leaves as STRAY NO
RUN. Before its end each stays as it is. -/
def Obligations.TimersEndWhereTheirEndsAreReached : Prop :=
  (∀ (s : State) (e : Nat),
     (s.outbox.beaconTimer = some e → e ≤ s.clock.courseTime + s.clock.stopTicks →
       exec .beaconTimerEnd s =
         .next
           { s with
             outbox :=
               { s.outbox with
                 beaconDue := true
                 beaconTimer := some (s.clock.courseTime + s.clock.stopTicks + 250) }
             line := { s.line with tx := if s.line.tx = .idle then s.startWaiting else s.line.tx } }) ∧
     (s.outbox.beaconTimer = some e → s.clock.courseTime + s.clock.stopTicks < e → s.LineSettled →
       exec .beaconTimerEnd s = .next s) ∧
     (s.outbox.freshEnd = some e → e ≤ s.clock.courseTime + s.clock.stopTicks →
       exec .freshSpanEnd s =
         .next
           { s with
             outbox :=
               { s.outbox with
                 freshEnd := none, fresh := s.outbox.fresh && !s.outbox.firstBeaconSent } }) ∧
     (s.outbox.freshEnd = some e → s.clock.courseTime + s.clock.stopTicks < e →
       exec .freshSpanEnd s = .next s)) ∧
  (∀ (s : State) (h : ResultHold) (g : RunHold) (p : Pattern) (k e : Nat),
     (s.panel.resultHold = some h → h.endsAt ≤ s.clock.courseTime + s.clock.stopTicks →
       exec .resultHoldEnd s = .next { s with panel := { s.panel with resultHold := none } }) ∧
     (s.panel.resultHold = some h → s.clock.courseTime + s.clock.stopTicks < h.endsAt →
       exec .resultHoldEnd s = .next s) ∧
     (s.panel.runHold = some g → g.endsAt ≤ s.clock.courseTime + s.clock.stopTicks →
       exec .runNumberHoldEnd s = .next { s with panel := { s.panel with runHold := none } }) ∧
     (s.panel.runHold = some g → s.clock.courseTime + s.clock.stopTicks < g.endsAt →
       exec .runNumberHoldEnd s = .next s) ∧
     (s.panel.tone = some ⟨p, k, e⟩ → s.clock.courseTime + s.clock.stopTicks < e →
       exec .toneStepEnd s = .next s) ∧
     (s.panel.tone = some ⟨p, k, e⟩ → e ≤ s.clock.courseTime + s.clock.stopTicks →
       exec .toneStepEnd s =
         .next
           { s with
             panel :=
               { s.panel with
                 tone :=
                   if p = .double ∧ k < 2 then some ⟨p, k + 1, e + 100⟩
                   else if p = .refuse ∧ k < 2 then some ⟨p, k + 1, e + 50⟩
                   else none } })) ∧
  (∀ (s : State) (p : Fin 16) (e : Nat), (s.peer p.val).silenceEnd = some e →
     ((s.peer p.val).presence = .present → e ≤ s.now →
       exec (.peerSilent p) s =
         .next
           { s with
             receiver :=
               { s.receiver with
                 peers :=
                   s.receiver.peers.set p.val
                     { s.peer p.val with presence := .silent, silenceEnd := none } } }) ∧
     ((s.peer p.val).presence ≠ .present ∨ s.now < e → exec (.peerSilent p) s = .next s)) ∧
  (∀ (s : State) (e : PendingEntry) (rest : List PendingEntry), s.assign.entries = e :: rest →
     (e.deadline ≤ s.clock.courseTime + s.clock.stopTicks →
       exec .pendingEntryExpiry s =
         .next
           ({ s with assign := { s.assign with entries := rest } }.appended
             (strayContents .noRun e.time e.manual))) ∧
     (s.clock.courseTime + s.clock.stopTicks < e.deadline → exec .pendingEntryExpiry s = .next s))

/-! ### Gate Capture -/

/-- The samples that move the capture state. An active sample in ARMED latches the candidate, by
GATE_CANDIDATE_LATCH, whether or not the first-sample condition is in force, or, while it is in force,
goes to AWAIT-CLEAR by GATE_ACTIVE_AT_RELEASE: which of the two the sample is, the command says (DEDUCED,
assumption log 25). An inactive one rejects a candidate; and the sample that ends the hold-off goes to
ARMED or AWAIT-CLEAR. At 100,000 active samples E11 enters the pending set with ALARM, once in a stay;
the first inactive sample returns to ARMED and removes it. Nothing else changes (counts taken as reached
and the pin's level: the model's choice, assumption logs 2 and 26). -/
def Obligations.GateSamplesMoveTheCaptureState : Prop :=
  (∀ s : State, s.gateReleased = true →
     (s.gate.capture = .armed →
       exec .gateCandidateLatch s =
         .next
           { s with
             gate :=
               { s.gate with
                 capture := .confirming, candidate := some s.clock.courseTime, confirm := 0
                 firstSample := false, high := s.config.gpol } }) ∧
     (s.gate.capture = .armed → s.gate.firstSample = true →
       exec .gateActiveAtRelease s =
         .next
           { s with
             gate :=
               { s.gate with
                 capture := .awaitClear, blocked := 0, firstSample := false
                 high := s.config.gpol } }) ∧
     (s.gate.capture = .confirming →
       exec .candidateRejected s =
         .next
           { s with
             gate := { s.gate with capture := .armed, candidate := none, high := !s.config.gpol } }) ∧
     (s.gate.capture = .holdoff →
       exec (.holdoffEnd false) s =
         .next
           { s with
             gate :=
               { s.gate with
                 capture := .armed, holdoff := s.holdoffLimit, high := !s.config.gpol } } ∧
       exec (.holdoffEnd true) s =
         .next
           { s with
             gate :=
               { s.gate with
                 capture := .awaitClear, holdoff := s.holdoffLimit, blocked := 0
                 high := s.config.gpol } })) ∧
  (∀ s : State, s.gateReleased = true → s.gate.capture = .awaitClear →
     (s.gate.blocked < 100000 → s.station.errors.e11 = false →
       exec .gateBlocked s =
         .next
           { s with
             gate := { s.gate with blocked := 100000, high := s.config.gpol }
             station :=
               { s.station with errors := { s.station.errors with e11 := true } }
             panel := { s.panel with tone := some ⟨.alarm, 0, s.now + 500⟩ } }) ∧
     (s.gate.blocked = 100000 → exec .gateBlocked s = .next s) ∧
     exec .gateCleared s =
       .next
         { s with
           gate := { s.gate with capture := .armed, blocked := 0, high := !s.config.gpol }
           station := { s.station with errors := { s.station.errors with e11 := false } } })

/-! ### Starts and crossings -/

/-- A crossing at station 0 in ACTIVE starts a run: a record with its start time and empty slots, the
counter one higher, a START in the ring, the RUN NUMBER hold and the CLICK. A full ring gives up its
oldest SENT frame for it, and in a full table the lowest-numbered settled record makes room and raises the
floor. Nothing else changes. -/
def Obligations.AStartIssuesARun : Prop :=
  ∀ (s base : State) (c : Instr) (time : Nat) (manual : Bool) (old : RunRecord),
    s.CrossingTaken c time manual base → s.number = 0 → s.isActive = true → s.CounterSound →
    s.table.nextRun ≤ 999 → s.HasPlace →
    let started : RunRecord :=
      ⟨s.table.nextRun, some time, List.replicate (s.gates - 1) none, false, false, manual, false,
        false, false, false, none⟩
    let outbox : Outbox :=
      s.addedFrame s.epoch
        (.start
          ⟨BitVec.ofNat 16 s.table.nextRun, BitVec.ofNat 32 time, if manual then 1#8 else 0#8⟩)
    let panel : Panel :=
      { base.panel with
        runHold := some ⟨s.now + 2000, s.table.nextRun⟩
        tone := (s.requestTone .click).panel.tone }
    (s.table.records.length < 48 →
      exec c s =
        .next
          { base with
            table :=
              { s.table with
                records := s.table.records ++ [started], nextRun := s.table.nextRun + 1 }
            outbox := outbox
            panel := panel
            line := { s.line with tx := s.txWithFrame } }) ∧
    (48 ≤ s.table.records.length →
      s.table.records.find? (fun r => r.settled) = some old →
      exec c s =
        .next
          { base with
            table :=
              { s.table with
                records := s.table.records.filter (fun r => r.run != old.run) ++ [started]
                nextRun := s.table.nextRun + 1
                floor := max s.table.floor old.run }
            outbox := outbox
            panel := panel
            line := { s.line with tx := s.txWithFrame } })

/-- A start that the start rule refuses becomes a STRAY, raises its code with ALARM where it is not
pending, and leaves the counter, the table and the ring as they are: RUN LIMIT with the counter past
999, else TABLE FULL with 48 records on course, else OUTBOX FULL with 32 frames unsent, in a full table too
where one of its records is settled. -/
def Obligations.ARefusedStartIsAStray : Prop :=
  ∀ (s base : State) (c : Instr) (time : Nat) (manual : Bool),
    s.CrossingTaken c time manual base → s.number = 0 → s.isActive = true → s.LineSettled →
    let refused (reason : StrayReason) (code : ErrorCode) : State :=
      { base with
        results := (s.append (strayContents reason time manual)).results
        port := (s.append (strayContents reason time manual)).port
        station := { s.station with errors := s.station.errors.put true code }
        panel := { base.panel with tone := s.alarmed code } }
    (999 < s.table.nextRun → exec c s = .next (refused .runLimit .e07)) ∧
    (s.table.nextRun ≤ 999 → 48 ≤ s.table.records.length →
      (∀ r ∈ s.table.records, r.state = .onCourse) →
      exec c s = .next (refused .tableFull .e08)) ∧
    (s.table.nextRun ≤ 999 →
      s.table.records.length < 48 ∨ (∃ r ∈ s.table.records, r.state ≠ .onCourse) →
      32 ≤ s.outbox.ring.length → (∀ e ∈ s.outbox.ring, e.sent = false) →
      exec c s = .next (refused .outboxFull .e06))

/-- At a gate station in MUTE or CLOSED an accepted sensor crossing becomes a STRAY MUTE or STRAY CLOSED
result with its time, and nothing else happens beyond Gate Capture. -/
def Obligations.CrossingsOutsideActiveAreStrays : Prop :=
  ∀ (s : State) (time : Nat), s.gateReleased = true → s.gate.capture = .confirming →
    s.gate.candidate = some time → s.LineSettled →
    (s.station.state = .mute →
      exec .crossingAccepted s =
        .next ({ s with gate := s.acceptedGate }.appended (strayContents .mute time false))) ∧
    (s.station.state = .closed →
      exec .crossingAccepted s =
        .next ({ s with gate := s.acceptedGate }.appended (strayContents .closed time false)))

/-- A crossing at stations 1 to N−1 in ACTIVE that finds no run waits: it joins the Pending Crossing List
after every entry earlier or equal, with its deadline 2000 ms after its time. The list's oldest leaves
a full list as STRAY DISPLACED, and with HELD set the crossing is a STRAY HELD and joins nothing. One whose
deadline is reached when it joins takes part in its joining walk and leaves at its end as STRAY NO RUN (R67,
R68); the other entries stay (DEDUCED, assumption log 21). -/
def Obligations.ACrossingWithNoRunWaits : Prop :=
  ∀ (s base : State) (c : Instr) (time : Nat) (manual : Bool) (oldest : PendingEntry)
    (earlier later : List PendingEntry),
    s.CrossingTaken c time manual base → s.isAssigner = true → s.isActive = true → s.LineSettled →
    (s.assign.held = true → exec c s = .next (base.appended (strayContents .held time manual))) ∧
    (s.assign.held = false → s.AssignSound →
      (∀ e ∈ earlier, e.time ≤ time) → (∀ e ∈ later, time < e.time) →
      (∀ r ∈ s.table.records, ∀ e ∈ ⟨time, manual, time + 2000, true⟩ :: (earlier ++ later),
        ¬ (r.eligible s.number = true ∧ r.precedes e.time = true)) →
      let joined : List PendingEntry := earlier ++ ⟨time, manual, time + 2000, false⟩ :: later
      let waits (entries : List PendingEntry) : State :=
        { base with assign := { s.assign with entries := entries } }
      let displaced : ResultContents := strayContents .displaced oldest.time oldest.manual
      (s.assign.entries = earlier ++ later → s.assign.entries.length < 8 →
        (s.now < time + 2000 → exec c s = .next (waits joined)) ∧
        (time + 2000 ≤ s.now →
          exec c s =
            .next ((waits (earlier ++ later)).appended (strayContents .noRun time manual)))) ∧
      (s.assign.entries = oldest :: (earlier ++ later) → s.assign.entries.length = 8 →
        (s.now < time + 2000 → exec c s = .next ((waits joined).appended displaced)) ∧
        (time + 2000 ≤ s.now →
          exec c s =
            .next
              (((waits (earlier ++ later)).appended displaced).appended
                (strayContents .noRun time manual)))))

/-- A crossing whose run is known is matched at once to the lowest-numbered run that is on course, has
started before it, has not passed this gate and no higher one: its slot is filled, not LATE, and a CROSS
with the run's start time joins the ring, a full one giving up its oldest SENT frame. At the finish station
the run settles FINISHED with its elapsed time, the RESULT hold and the DOUBLE; elsewhere it stays on
course, with the CLICK. Where the Outbox refuses the CROSS, with 32 frames unsent, the crossing is a STRAY
OUTBOX FULL with E06, and the run stays as it was. -/
def Obligations.ACrossingIsMatchedToItsRun : Prop :=
  ∀ (s base : State) (c : Instr) (time start : Nat) (manual : Bool) (r : RunRecord),
    s.CrossingTaken c time manual base → s.isAssigner = true → s.isActive = true →
    s.assign.held = false → s.assign.entries = [] → s.TableSound →
    s.table.records.find? (fun r => r.eligible s.number && r.precedes time) = some r →
    r.start = some start →
    (32 ≤ s.outbox.ring.length → (∀ e ∈ s.outbox.ring, e.sent = false) → s.LineSettled →
      exec c s =
        .next
          ({ base with
            station := { s.station with errors := s.station.errors.put true .e06 }
            panel := { base.panel with tone := s.alarmed .e06 } }.appended
            (strayContents .outboxFull time manual))) ∧
    let crossed : RunRecord :=
      { r with splits := r.splits.set (s.number - 1) (some ⟨time, manual, false, r.carriesStepped⟩) }
    let outbox : Outbox :=
      s.addedFrame s.epoch
        (.cross
          ⟨BitVec.ofNat 16 r.run, s.stationByte, BitVec.ofNat 32 time, BitVec.ofNat 32 start,
            (if manual then 1#8 else 0#8) ||| (if r.carriesStepped then 4#8 else 0#8)⟩)
    (s.HasPlace → s.number + 1 ≠ s.gates →
      exec c s =
        .next
          { base with
            table :=
              { s.table with
                records := s.table.records.map (fun (x : RunRecord) => if x.run = r.run then crossed else x) }
            outbox := outbox
            panel :=
              { base.panel with
                runHold := some ⟨s.now + 2000, r.run⟩
                tone := (s.requestTone .click).panel.tone }
            line := { s.line with tx := s.txWithFrame } }) ∧
    (s.HasPlace → s.number + 1 = s.gates →
      exec c s =
        .next
          ({ base with
            table :=
              { s.table with
                records :=
                  s.table.records.map
                    (fun (x : RunRecord) =>
                      if x.run = r.run then { crossed with reported := some .finished } else x) }
            outbox := outbox
            panel :=
              { base.panel with
                runHold := some ⟨s.now + 2000, r.run⟩
                resultHold := some ⟨s.now + 5000, some (time - start)⟩
                tone := (s.requestTone .double).panel.tone }
            line := { s.line with tx := s.txWithFrame } }.appended
            ⟨.finished, .empty, r.run, some (time - start), crossed.marks, crossed.gatesPassed⟩))

/-! ### The operator's keys -/

/-- A key's filter: a sample at the filtered level sets the change count to 0; the first sample off it
latches the candidate time, and each further one raises the count, up to the nineteenth (the twentieth is
an acceptance, a command of its own). An accepted release of TRIP or ACK has no effect beyond its filter,
and an accepted press of TRIP outside ACTIVE, or at a follower, none beyond the filter and a REFUSE (a
filter that is changing accepts: the model's choice, assumption log 2). -/
def Obligations.KeysAreFilteredAndTripRefused : Prop :=
  (∀ (s : State) (k : Key) (down : Bool),
     let f := s.panel.filter k
     (s.running = false → exec (.keyCandidateLatch k down) s = .next s) ∧
     (s.running = true → down = f.pressed →
       exec (.keyCandidateLatch k down) s =
         .next
           { s with panel := s.panel.putFilter { f with down := down, change := 0 } k }) ∧
     (s.running = true → down ≠ f.pressed → f.change = 0 →
       exec (.keyCandidateLatch k down) s =
         .next
           { s with
             panel :=
               s.panel.putFilter
                 { f with down := down, change := 1, candidate := some s.clock.courseTime } k }) ∧
     (s.running = true → down ≠ f.pressed → 0 < f.change → f.change < 19 →
       exec (.keyCandidateLatch k down) s =
         .next { s with panel := s.panel.putFilter { f with down := down, change := f.change + 1 } k })) ∧
  (∀ s : State, s.running = true →
     (s.panel.trip.pressed = true → s.panel.trip.change ≠ 0 →
       exec (.tripOrAckRelease .trip) s =
         .next
           { s with
             panel :=
               { s.panel with
                 trip := { s.panel.trip with pressed := false, change := 0, down := false } } }) ∧
     (s.panel.ack.pressed = true → s.panel.ack.change ≠ 0 →
       exec (.tripOrAckRelease .ack) s =
         .next
           { s with
             panel :=
               { s.panel with
                 ack := { s.panel.ack with pressed := false, change := 0, down := false } } }) ∧
     (s.panel.trip.pressed = false → s.panel.trip.change ≠ 0 →
       s.isActive = false ∨ s.isGateStation = false →
       exec .tripPress s =
         .next
           { s with
             panel :=
               { s.panel with
                 trip := { s.panel.trip with pressed := true, change := 0, down := true }
                 tone := (s.requestTone .refuse).panel.tone } }))

/-- ACK removes the lowest pending code where it is E04 to E09, with CLICK; where it is another code, or
none is pending, the request is refused with REFUSE and the set stays as it is. -/
def Obligations.AckRemovesTheLowestCode : Prop :=
  ∀ (s : State) (c : ErrorCode), s.running = true → s.panel.ack.pressed = false →
    s.panel.ack.change ≠ 0 →
    let acked (p : Pattern) : Panel :=
      { s.panel with
        ack := { s.panel.ack with pressed := true, change := 0, down := true }
        tone := (s.requestTone p).panel.tone }
    (s.station.errors.has c = true → 4 ≤ c.number → c.number ≤ 9 →
      (∀ d ∈ ErrorCode.all, s.station.errors.has d = true → c.number ≤ d.number) →
      exec .ackPress s =
        .next
          { s with
            panel := acked .click
            station := { s.station with errors := s.station.errors.put false c } }) ∧
    ((∀ d ∈ ErrorCode.all, s.station.errors.has d = false) ∨
        (s.station.errors.has c = true ∧ (c.number < 4 ∨ 9 < c.number) ∧
          ∀ d ∈ ErrorCode.all, s.station.errors.has d = true → c.number ≤ d.number) →
      exec .ackPress s = .next { s with panel := acked .refuse })

/-- An accepted press of a ruling key starts its hold at 20. In ACTIVE it is spoiled, and spoils the
other, exactly where the other is pressed, and the combination count then starts at 20; elsewhere it is
spoiled and refused. A hold of 1000 makes it long: spoiled (the count is taken
as reached: the model's choice, assumption log 2). -/
def Obligations.RulingKeysArePressedAndHeld : Prop :=
  ∀ (s : State) (k : RulingKey), s.running = true →
    let f := s.panel.filter (RulingKey.key k)
    let other := RulingKey.other k
    let otherHold := s.panel.hold other
    let pressed (spoiled : Bool) : Panel :=
      (s.panel.putFilter { f with pressed := true, change := 0, down := true }
        (RulingKey.key k)).putHold ⟨20, spoiled⟩ k
    (f.pressed = false → f.change ≠ 0 → s.held other = false →
      (s.isActive = true → exec (.rulingKeyPress k) s = .next { s with panel := pressed false }) ∧
      (s.isActive = false →
        exec (.rulingKeyPress k) s =
          .next
            { s with
              panel := { pressed true with tone := (s.requestTone .refuse).panel.tone } })) ∧
    (f.pressed = false → f.change ≠ 0 → s.held other = true →
      (s.isActive = true →
        exec (.rulingKeyPress k) s =
          .next
            { s with
              panel :=
                { (pressed true).putHold { otherHold with spoiled := true } other with
                  comboRunning := true, comboCount := 20 } }) ∧
      (s.isActive = false →
        exec (.rulingKeyPress k) s =
          .next
            { s with
              panel :=
                { (pressed true).putHold { otherHold with spoiled := true } other with
                  tone := (s.requestTone .refuse).panel.tone } })) ∧
    (f.pressed = true → (s.panel.hold k).count < 1000 →
      exec (.rulingKeyLong k) s = .next { s with panel := s.panel.putHold ⟨1000, true⟩ k })

/-- An accepted release of a ruling key that makes no ruling: a spoiled one does nothing more; outside
ACTIVE, and in ACTIVE with no run on course, it is refused; with the ring full of unsent frames E06 is
raised and it is refused. -/
def Obligations.RulingReleasesThatMakeNoRuling : Prop :=
  ∀ (s : State) (k : RulingKey), s.running = true → s.LineSettled →
    let f := s.panel.filter (RulingKey.key k)
    f.pressed = true → f.change ≠ 0 →
    let released : Panel :=
      { s.panel.putFilter { f with pressed := false, change := 0, down := false }
          (RulingKey.key k) with
        comboRunning := false, comboCount := 0 }
    ((s.panel.hold k).spoiled = true →
      exec (.rulingKeyRelease k) s = .next { s with panel := released }) ∧
    ((s.panel.hold k).spoiled = false →
      s.isActive = false ∨ (∀ r ∈ s.table.records, r.state ≠ .onCourse) →
      exec (.rulingKeyRelease k) s =
        .next
          { s with panel := { released with tone := (s.requestTone .refuse).panel.tone } }) ∧
    ((s.panel.hold k).spoiled = false → s.isActive = true →
      (∃ r ∈ s.table.records, r.state = .onCourse) → s.TableSound → 32 ≤ s.outbox.ring.length →
      (∀ e ∈ s.outbox.ring, e.sent = false) →
      exec (.rulingKeyRelease k) s =
        .next
          { s with
            station := { s.station with errors := s.station.errors.put true .e06 }
            panel :=
              { released with
                tone :=
                  if s.station.errors.e06 then (s.requestTone .refuse).panel.tone
                  else some ⟨.alarm, 0, s.now + 500⟩ } })

/-- A short release in ACTIVE rules on its target: VOID on the newest on-course run, DNF on the oldest.
The run settles so, its result is appended, a RULING joins the ring, a full one giving up its oldest SENT
frame, and CLICK is given. Crossings that wait, with no run to take them, wait on. -/
def Obligations.ARulingSettlesItsTarget : Prop :=
  ∀ (s : State) (k : RulingKey) (r : RunRecord), s.isActive = true → s.TableSound →
    s.CounterSound → s.HasPlace →
    (∀ e ∈ s.assign.entries, ∀ x ∈ s.table.records,
      ¬ (x.eligible s.number = true ∧ x.precedes e.time = true)) →
    (s.panel.filter (RulingKey.key k)).pressed = true →
    (s.panel.filter (RulingKey.key k)).change ≠ 0 → (s.panel.hold k).spoiled = false →
    r ∈ s.table.records → r.state = .onCourse →
    (∀ x ∈ s.table.records, x.state = .onCourse →
      match k with
      | .void => x.run ≤ r.run
      | .dnf => r.run ≤ x.run) →
    let ruled : RunRecord :=
      match k with
      | .void => { r with voided := true, reported := some .void }
      | .dnf => { r with dnfed := true, reported := some .dnf }
    let kind : ResultKind :=
      match k with
      | .void => .void
      | .dnf => .dnf
    let code : Byte :=
      match k with
      | .void => 1#8
      | .dnf => 2#8
    exec (.rulingKeyRelease k) s =
      .next
        ({ s with
          panel :=
            { s.panel.putFilter
                { s.panel.filter (RulingKey.key k) with
                  pressed := false, change := 0, down := false } (RulingKey.key k) with
              comboRunning := false, comboCount := 0, tone := (s.requestTone .click).panel.tone }
          table :=
            { s.table with
              records :=
                s.table.records.map (fun (x : RunRecord) => if x.run = r.run then ruled else x) }
          outbox := s.addedFrame s.epoch (.ruling ⟨BitVec.ofNat 16 r.run, code⟩)
          line := { s.line with tx := s.txWithFrame } }.appended
          ⟨kind, .empty, r.run, none, r.marks, r.gatesPassed⟩)

/-- The combination, in ACTIVE, begins a new session: a SESSION under the new epoch joins the ring (a full
one giving up its oldest SENT frame), the epoch is one higher, the Run Table and the Assignment Unit are
cleared, and a SESSION result names this station. It is refused outside ACTIVE with REFUSE alone; in ACTIVE
at epoch 65535 with E09, and with the ring full of unsent frames with E06, each with a REFUSE that gives way
to the ALARM of a code newly pending. The epoch and the runs then stay. -/
def Obligations.TheCombinationAsksForASession : Prop :=
  (∀ s : State, s.isActive = true → s.panel.comboRunning = true → s.epoch.toNat ≠ 65535 →
     s.HasPlace →
     exec .combinationFires s =
       .next
         ({ s with
           panel :=
             { s.panel with
               comboRunning := false
               comboCount := 3000
               voidHold := { s.panel.voidHold with spoiled := true }
               dnfHold := { s.panel.dnfHold with spoiled := true }
               tone := (s.requestTone .click).panel.tone }
           epoch := s.epoch + 1
           table := { s.table with records := [], floor := 0, nextRun := 1 }
           assign := { s.assign with entries := [], held := false, boundary := 0 }
           outbox := s.addedFrame (s.epoch + 1) (.session ⟨s.epoch⟩)
           line := { s.line with tx := s.txWithFrame } }.appended
           ⟨.session, .station s.number, 0, some (s.epoch.toNat + 1), Marks.none, 0⟩)) ∧
  (∀ s : State, s.running = true → s.panel.comboRunning = true → s.LineSettled →
     let refused (errors : ErrorSet) (tone : Option TonePlay) : State :=
       { s with
         station := { s.station with errors := errors }
         panel :=
           { s.panel with
             comboRunning := false
             comboCount := 3000
             voidHold := { s.panel.voidHold with spoiled := true }
             dnfHold := { s.panel.dnfHold with spoiled := true }
             tone := tone } }
     let tone (c : ErrorCode) : Option TonePlay :=
       if s.station.errors.has c then (s.requestTone .refuse).panel.tone
       else some ⟨.alarm, 0, s.now + 500⟩
     (s.isActive = false →
       exec .combinationFires s =
         .next (refused s.station.errors (s.requestTone .refuse).panel.tone)) ∧
     (s.isActive = true → s.epoch.toNat = 65535 →
       exec .combinationFires s = .next (refused (s.station.errors.put true .e09) (tone .e09))) ∧
     (s.isActive = true → s.epoch.toNat ≠ 65535 → 32 ≤ s.outbox.ring.length →
       (∀ e ∈ s.outbox.ring, e.sent = false) →
       exec .combinationFires s = .next (refused (s.station.errors.put true .e06) (tone .e06))))

/-! ### Facts -/

/-- A record that is held takes a fact whatever the floor. A START fills an absent start time and may
add MANUAL START; a CROSS fills an absent start time and an empty slot of its gate; a RULING joins the
rulings. A state that stays appends nothing; a run that settles appends its settlement, and a settled run
whose state changes a CORRECTION, CORRECTED: a FINISHED one with the elapsed time and the RESULT hold.
Every other mark stays as it was. -/
def Obligations.AHeldRecordTakesAFact : Prop :=
  ∀ (s : State) (f : Fact) (r : RunRecord), s.TableSound → s.CounterSound →
    r ∈ s.table.records → r.run = f.run →
    let taken : RunRecord :=
      match f with
      | .start _ time manual =>
        { r with
          start := if r.start = none then some time else r.start
          manualStart := r.manualStart || manual }
      | .cross _ gate time start manual late disturbed =>
        { r with
          start := if r.start = none then start else r.start
          splits :=
            if (r.splits.getD (gate - 1) none).isSome then r.splits
            else r.splits.set (gate - 1) (some ⟨time, manual, late, disturbed⟩) }
      | .ruling _ .void => { r with voided := true }
      | .ruling _ .dnf => { r with dnfed := true }
    let stored (x : RunRecord) : State :=
      { s with
        table :=
          { s.table with
            records := s.table.records.map (fun (y : RunRecord) => if y.run = f.run then x else y) }
        panel :=
          { s.panel with
            resultHold :=
              if x.state = .finished ∧ r.state ≠ .finished then some ⟨s.now + 5000, x.elapsed⟩
              else s.panel.resultHold
            tone :=
              if x.state = .finished ∧ r.state ≠ .finished ∧ s.number + 1 = s.gates then
                (s.requestTone .double).panel.tone
              else s.panel.tone } }
    let value : Option Nat := if taken.state = .finished then taken.elapsed else none
    (taken.state = r.state → (s.takeFact f).1 = stored taken) ∧
    (taken.state ≠ r.state → r.state = .onCourse →
      (s.takeFact f).1 =
        (stored { taken with reported := some taken.state }).appended
          ⟨taken.state.kind, .empty, f.run, value, taken.marks, taken.gatesPassed⟩) ∧
    (taken.state ≠ r.state → r.state ≠ .onCourse →
      (s.takeFact f).1 =
        (stored { taken with reported := some taken.state, corrected := true }).appended
          ⟨.correction, .newState taken.state, f.run, value,
            RunRecord.marks { taken with corrected := true }, taken.gatesPassed⟩)

/-- What finding a record for a run that the table does not hold does: nothing at or below the floor; a
new record where there is room; in a full table the lowest-numbered settled record goes, silently; and
with 48 runs on course station 0 drops the named run, as the others do where it is the lower, and
otherwise the lowest record goes with a DROPPED result. What goes raises the floor. At station 0 a fact
raises the counter to one above the run it names, whether the table takes it or the floor or R8 lets it go;
the counter of the other stations stays. -/
def Obligations.AnAbsentRunIsAdmittedOrDropped : Prop :=
  (∀ (s : State) (run : Nat) (learned : Bool) (low old : RunRecord)
     (rest : List RunRecord),
     s.TableSound → (∀ r ∈ s.table.records, r.run ≠ run) →
     let made (records : List RunRecord) : List RunRecord :=
       records.filter (fun r => decide (r.run < run)) ++
         ⟨run, none, List.replicate (s.gates - 1) none, false, false, false, learned, false, false,
           false, none⟩ :: records.filter (fun r => decide (run < r.run))
     let dropped : State :=
       { s with table := { s.table with floor := max s.table.floor run } }.appended
         ⟨.dropped, .empty, run, none, Marks.none, 0⟩
     (run ≤ s.table.floor → s.enrol run learned = (s, false)) ∧
     (s.table.floor < run → s.table.records.length < 48 →
       s.enrol run learned =
         ({ s with table := { s.table with records := made s.table.records } }, true)) ∧
     (s.table.floor < run → s.table.records.length = 48 →
       s.table.records.find? (fun r => r.state != .onCourse) = some old →
       s.enrol run learned =
         ({ s with
           table :=
             { s.table with
               records := made (s.table.records.filter (fun r => r.run != old.run))
               floor := max s.table.floor old.run } }, true)) ∧
     (s.table.floor < run → s.table.records.length = 48 →
       (∀ r ∈ s.table.records, r.state = .onCourse) → s.number = 0 →
       s.enrol run learned = (dropped, false)) ∧
     (s.table.floor < run → s.table.records.length = 48 →
       (∀ r ∈ s.table.records, r.state = .onCourse) → s.number ≠ 0 →
       s.table.records = low :: rest →
       (run < low.run → s.enrol run learned = (dropped, false)) ∧
       (low.run < run →
         s.enrol run learned =
           ({ s with
             table :=
               { s.table with records := made rest, floor := max s.table.floor low.run } }.appended
             ⟨.dropped, .empty, low.run, none, low.marks, low.gatesPassed⟩, true)))) ∧
  (∀ (s : State) (f : Fact),
     let counted : State :=
       { s with
         table :=
           { s.table with
             nextRun :=
               if s.number = 0 ∧ s.table.nextRun ≤ f.run then f.run + 1 else s.table.nextRun } }
     (s.takeFact f).1.table.nextRun = counted.table.nextRun ∧
     ((counted.enrol f.run f.learns).2 = false →
       s.takeFact f = ((counted.enrol f.run f.learns).1, false)))

/-- A START, CROSS or RULING that is the next of its peer, from a peer that is not in MISMATCH: the peer is
PRESENT and its expected sequence one higher. One of the current epoch is taken by the Run Table where it
passes its checks, and where crossings wait, the walk runs on the table's notice; one of a higher epoch is
taken after the session change, with one SESSION result that names the peer; and one that fails its checks
does nothing more than that, nor does one of an older epoch. -/
def Obligations.ReceivedFactsAreTaken : Prop :=
  (∀ (s : State) (h : Header) (sp : StartPayload) (cp : CrossPayload) (rp : RulingPayload),
     s.Hears h → s.InOrder h → s.onCourse = true → s.LineSettled →
     let heard := s.heardAs h (some (h.seq + 1)) []
     let adopted : State :=
       { heard with
         epoch := h.epoch
         table := { s.table with records := [], floor := 0, nextRun := 1 }
         assign := { s.assign with entries := [], held := false, boundary := 0 } }.appended
         ⟨.session, .station h.station.toNat, 0, some h.epoch.toNat, Marks.none, 0⟩
     let names (w : Word16) : Prop := 1 ≤ w.toNat ∧ w.toNat ≤ 999
     let crosses : Prop :=
       names cp.run ∧ 1 ≤ cp.gate.toNat ∧ cp.gate.toNat < s.gates ∧
         cp.crossingTime.toNat ≤ 86400000 ∧
         (cp.startTime.toNat ≤ 86400000 ∨ cp.startTime = 0xFFFFFFFF#32)
     let takes (base : State) (result : Fact → State) : Prop :=
       (names sp.run ∧ sp.startTime.toNat ≤ 86400000 →
         exec (.receiveStart h sp) s =
           .next (result (.start sp.run.toNat sp.startTime.toNat (sp.marks.getLsbD 0)))) ∧
       (¬ (names sp.run ∧ sp.startTime.toNat ≤ 86400000) →
         exec (.receiveStart h sp) s = .next base) ∧
       (crosses →
         exec (.receiveCross h cp) s =
           .next
             (result
               (.cross cp.run.toNat cp.gate.toNat cp.crossingTime.toNat
                 (if cp.startTime = 0xFFFFFFFF#32 then none else some cp.startTime.toNat)
                 (cp.flags.getLsbD 0) (cp.flags.getLsbD 1) (cp.flags.getLsbD 2)))) ∧
       (¬ crosses → exec (.receiveCross h cp) s = .next base) ∧
       (names rp.run → rp.verdict = 1#8 →
         exec (.receiveRuling h rp) s = .next (result (.ruling rp.run.toNat .void))) ∧
       (names rp.run → rp.verdict = 2#8 →
         exec (.receiveRuling h rp) s = .next (result (.ruling rp.run.toNat .dnf))) ∧
       (¬ names rp.run ∨ (rp.verdict ≠ 1#8 ∧ rp.verdict ≠ 2#8) →
         exec (.receiveRuling h rp) s = .next base)
     (h.epoch = s.epoch → s.assign.entries = [] → takes heard (fun f => (heard.takeFact f).1)) ∧
     (h.epoch = s.epoch →
       takes heard
         (fun f =>
           State.settleLine
             (if (heard.takeFact f).2 = true then (heard.takeFact f).1.walk
             else (heard.takeFact f).1))) ∧
     (s.epoch < h.epoch → takes adopted (fun f => (adopted.takeFact f).1))) ∧
  (∀ (s : State) (h : Header) (sp : StartPayload) (cp : CrossPayload) (rp : RulingPayload),
     s.Hears h → s.InOrder h → s.onCourse = true → h.epoch < s.epoch → s.LineSettled →
     let heard := s.heardAs h (some (h.seq + 1)) []
     exec (.receiveStart h sp) s = .next heard ∧ exec (.receiveCross h cp) s = .next heard ∧
       exec (.receiveRuling h rp) s = .next heard)

/-- A START that gives a waiting crossing its run: the entry leaves the list at once, and its CROSS is
LATE. The Run Table's notice, on which the walk runs, comes with a fact that makes a record, fills its start
time or settles it. The walk of ACTIVE stations 1 to N−1 takes the oldest crossing that a run can take: it
leaves the list, the run's slot is filled, LATE unless the crossing is joining, and a CROSS joins the ring, a
full one giving up its oldest SENT frame; the finish station settles the run; and where the Outbox refuses the
CROSS, it is a STRAY OUTBOX FULL with E06, and the run stays as it was. The walk then goes on with the
crossings that stay, and it ends, with no further effect, where no run can take any of them. -/
def Obligations.AStartHeardMatchesAWaitingCrossing : Prop :=
  (∀ (s : State) (h : Header) (sp : StartPayload) (e : PendingEntry),
    s.Hears h → s.InOrder h → s.isActive = true → s.isAssigner = true → h.epoch = s.epoch →
    s.TableSound → s.assign.entries = [e] → e.joining = false → s.table.records = [] →
    s.table.floor < sp.run.toNat → 1 ≤ sp.run.toNat → sp.run.toNat ≤ 999 →
    sp.startTime.toNat < e.time → sp.startTime.toNat ≤ 86400000 → s.HasPlace →
    s.number + 1 ≠ s.gates →
    let made : RunRecord :=
      ⟨sp.run.toNat, some sp.startTime.toNat,
        (List.replicate (s.gates - 1) none).set (s.number - 1) (some ⟨e.time, e.manual, true, false⟩),
        false, false, sp.marks.getLsbD 0, false, false, false, false, none⟩
    exec (.receiveStart h sp) s =
      .next
        { s.heardAs h (some (h.seq + 1)) [] with
          table := { s.table with records := [made] }
          assign := { s.assign with entries := [] }
          outbox :=
            s.addedFrame s.epoch
              (.cross
                ⟨sp.run, s.stationByte, BitVec.ofNat 32 e.time, sp.startTime,
                  (if e.manual then 1#8 else 0#8) ||| 2#8⟩)
          panel :=
            { s.panel with
              runHold := some ⟨s.now + 2000, sp.run.toNat⟩
              tone := (s.requestTone .click).panel.tone }
          line := { s.line with rx := .ignoring, complete := none, tx := s.txWithFrame } }) ∧
  (∀ (s : State) (f : Fact), s.TableSound →
    ((s.takeFact f).2 = true ↔
      ∃ x ∈ (s.takeFact f).1.table.records, x.run = f.run ∧
        ∀ r ∈ s.table.records, r.run = f.run →
          (r.start = none ∧ x.start ≠ none) ∨ (r.state = .onCourse ∧ x.state ≠ .onCourse))) ∧
  (∀ (s : State) (pre post : List PendingEntry) (e : PendingEntry) (r : RunRecord) (start : Nat),
    s.isAssigner = true → s.isActive = true → s.TableSound → s.assign.entries = pre ++ e :: post →
    let taker (x : PendingEntry) : Option RunRecord :=
      s.table.records.find? (fun r => r.eligible s.number && r.precedes x.time)
    (∀ x ∈ pre, taker x = none) →
    ((∀ x ∈ e :: post, taker x = none) → s.walk = s) ∧
    (taker e = some r → r.start = some start →
      let late : Bool := !e.joining
      let crossed : RunRecord :=
        { r with
          splits := r.splits.set (s.number - 1) (some ⟨e.time, e.manual, late, r.carriesStepped⟩) }
      let matched (record : RunRecord) : State :=
        { s with
          assign := { s.assign with entries := pre ++ post }
          table :=
            { s.table with
              records :=
                s.table.records.map (fun (x : RunRecord) => if x.run = r.run then record else x) }
          outbox :=
            s.addedFrame s.epoch
              (.cross
                ⟨BitVec.ofNat 16 r.run, s.stationByte, BitVec.ofNat 32 e.time, BitVec.ofNat 32 start,
                  (if e.manual then 1#8 else 0#8) ||| (if late then 2#8 else 0#8) |||
                    (if r.carriesStepped then 4#8 else 0#8)⟩)
          panel := { s.panel with runHold := some ⟨s.now + 2000, r.run⟩ } }
      (s.HasPlace → s.number + 1 ≠ s.gates →
        let t := matched crossed
        s.walk =
          State.walk { t with panel := { t.panel with tone := (s.requestTone .click).panel.tone } }) ∧
      (s.HasPlace → s.number + 1 = s.gates →
        let t :=
          (matched { crossed with reported := some .finished }).appended
            ⟨.finished, .empty, r.run, some (e.time - start), crossed.marks, crossed.gatesPassed⟩
        s.walk =
          State.walk
            { t with
              panel :=
                { t.panel with
                  resultHold := some ⟨s.now + 5000, some (e.time - start)⟩
                  tone := (s.requestTone .double).panel.tone } }) ∧
      (32 ≤ s.outbox.ring.length → (∀ x ∈ s.outbox.ring, x.sent = false) →
        s.walk =
          State.walk
            ({ s with
              assign := { s.assign with entries := pre ++ post }
              station := { s.station with errors := s.station.errors.put true .e06 }
              panel := { s.panel with tone := s.alarmed .e06 } }.appended
              (strayContents .outboxFull e.time e.manual)))))

/-! ### Frames from peers -/

/-- The sequence bookkeeping of a sequenced frame: one that is missing is repaired, and a REPEAT for it that
waits is removed; the first of a peer sets the expected sequence; one 0 to 127 ahead is applied, and of the
sequences it skips the oldest 8 are listed with their first deadline and the rest are lost, each with a LINK
LOSS and E05; one behind is discarded. Where a Missing List holds entries already, the skipped ones that are
not among them join it while it has room; those entries that are no longer within the 128 sequences before the
new expected one are lost, and after them the skipped ones that found no room (the order of the two: DEDUCED,
assumption log 10). -/
def Obligations.SequencesAreBooked : Prop :=
  ∀ (s : State) (p : Nat) (q e : Byte), p < s.receiver.peers.length →
    let x := s.peer p
    let d := (q - e).toNat
    let booked (y : Peer) : State :=
      { s with receiver := { s.receiver with peers := s.receiver.peers.set p y } }
    let skipped (count : Nat) : List MissingEntry :=
      (List.range count).map (fun i => ⟨e + BitVec.ofNat 8 i, 0, s.now + (20 + 5 * s.number)⟩)
    ((∃ m ∈ x.missing, m.seq = q) →
      s.bookSequence p q =
        ((booked { x with missing := x.missing.filter (fun m => m.seq != q) }).dropRepeats
          (fun o r => o.toNat == p && r == q), true)) ∧
    (x.expected = none → x.missing = [] →
      s.bookSequence p q = (booked { x with expected := some (q + 1) }, true)) ∧
    (x.expected = some e → x.missing = [] → d ≤ 8 →
      s.bookSequence p q =
        (booked { x with expected := some (q + 1), missing := skipped d }, true)) ∧
    (x.expected = some e → x.missing = [] → 8 < d → d < 128 →
      let lost : List Byte := (List.range (d - 8)).map (fun i => e + BitVec.ofNat 8 (8 + i))
      let listed : State := booked { x with expected := some (q + 1), missing := skipped 8 }
      let t := listed.loseAll p lost
      s.bookSequence p q = (t, true) ∧ t.peer p = listed.peer p ∧
        t.station.errors = s.station.errors.put true .e05 ∧
        (p ≠ 0 → t.assign = s.assign ∧
          t.results =
            (lost.foldl
              (fun u y => u.append ⟨.linkLoss, .station p, 0, some y.toNat, Marks.none, 0⟩)
              s).results)) ∧
    (x.expected = some e → (∀ m ∈ x.missing, m.seq ≠ q) → d < 128 →
      let unlisted : List Byte :=
        ((List.range d).map (fun i => e + BitVec.ofNat 8 i)).filter
          (fun y => x.missing.all (fun m => m.seq != y))
      let room : Nat := 8 - x.missing.length
      let found : List MissingEntry :=
        x.missing ++ (unlisted.take room).map (fun y => ⟨y, 0, s.now + (20 + 5 * s.number)⟩)
      let stays (m : MissingEntry) : Bool :=
        decide (1 ≤ (q + 1 - m.seq).toNat ∧ (q + 1 - m.seq).toNat ≤ 128)
      let lost : List Byte :=
        (found.filter (fun m => !stays m)).map (fun m => m.seq) ++ unlisted.drop room
      ∃ t, s.bookSequence p q = (t, true) ∧
        t.peer p = { x with expected := some (q + 1), missing := found.filter stays } ∧
        t.station.errors =
          (if lost = [] then s.station.errors else s.station.errors.put true .e05) ∧
        (p ≠ 0 → t.assign = s.assign ∧
          t.results =
            (lost.foldl
              (fun u y => u.append ⟨.linkLoss, .station p, 0, some y.toNat, Marks.none, 0⟩)
              s).results)) ∧
    (x.expected = some e → (∀ m ∈ x.missing, m.seq ≠ q) → 128 ≤ d → s.bookSequence p q = (s, false))

/-- A frame of a higher epoch from a peer is adopted before its content: a SESSION in ACTIVE, MUTE or
CLOSED changes the session, with one SESSION result that names the peer; in LISTENING only the epoch
rises. A SESSION of the epoch held, or of an older one, is heard and nothing more. -/
def Obligations.ASessionFrameChangesTheSession : Prop :=
  ∀ (s : State) (h : Header) (p : SessionPayload),
    s.Hears h → s.InOrder h → 1 ≤ p.previous.toNat → p.previous.toNat ≤ 65534 →
    h.epoch.toNat = p.previous.toNat + 1 → s.LineSettled →
    let heard := s.heardAs h (some (h.seq + 1)) []
    (s.onCourse = true → s.epoch < h.epoch →
      exec (.receiveSession h p) s =
        .next
          ({ heard with
            epoch := h.epoch
            table := { s.table with records := [], floor := 0, nextRun := 1 }
            assign := { s.assign with entries := [], held := false, boundary := 0 } }.appended
            ⟨.session, .station h.station.toNat, 0, some h.epoch.toNat, Marks.none, 0⟩)) ∧
    (s.onCourse = true → h.epoch ≤ s.epoch → exec (.receiveSession h p) s = .next heard) ∧
    (s.station.state = .listening → s.number ≠ 0 →
      exec (.receiveSession h p) s =
        .next { heard with epoch := if s.epoch < h.epoch then h.epoch else s.epoch })

/-- Every frame accepted from a peer, of whatever kind, leaves the higher of the two epochs, and the peer
heard at the course time of its arrival. -/
def Obligations.AnAcceptedFrameRaisesTheEpoch : Prop :=
  ∀ (s : State) (f : Frame), s.Hears f.header → f.wellFormed = true →
    (match f.payload with
      | .beacon b => b.gateCount.toNat = s.gates
      | _ => True) →
    ∃ t, exec (frameCommand f) s = .next t ∧
      t.epoch = (if s.epoch < f.header.epoch then f.header.epoch else s.epoch) ∧
      (t.peer f.header.station.toNat).lastHeard = s.clock.courseTime ∧
      t.line.rx = .ignoring ∧ t.line.complete = none

/-- In LISTENING a frame keeps what the station needs later: the epoch; station 0's mark of the highest run
of the highest epoch, from a START, a CROSS, a RULING or a BEACON, and with 0 for its run from a SESSION, a
REPEAT or a GONE; and at stations 1 to N−1 the record of station 0's runs, from a START or a BEACON. No
record is made, and a run above 999 counts as 0. -/
def Obligations.ListeningKeepsWhatAStartSays : Prop :=
  (∀ (s : State) (h : Header) (p : StartPayload) (c : CrossPayload) (v : RulingPayload)
     (q : SessionPayload) (run : Nat),
     s.Hears h → s.InOrder h → s.station.state = .listening → s.LineSettled →
     let heard (table : RunTable) (assign : Assign) : State :=
       { s.heardAs h (some (h.seq + 1)) [] with
         epoch := if s.epoch < h.epoch then h.epoch else s.epoch
         table := table
         assign := assign }
     let mark (run : Nat) : RunTable :=
       { s.table with
         markEpoch := if s.number = 0 ∧ s.table.markEpoch < h.epoch then h.epoch else s.table.markEpoch
         markRun :=
           if s.number = 0 ∧ s.table.markEpoch < h.epoch then run
           else if s.number = 0 ∧ h.epoch = s.table.markEpoch then max s.table.markRun run
           else s.table.markRun }
     (p.run.toNat = run → 1 ≤ run → run ≤ 999 →
       exec (.receiveStart h p) s =
         .next
           (heard (mark run)
             (if s.isAssigner = true ∧ h.station = 0#8 ∧ s.assign.recEpoch < h.epoch then
               { s.assign with recEpoch := h.epoch, recHighest := run, recOldest := run }
             else if s.isAssigner = true ∧ h.station = 0#8 ∧ h.epoch = s.assign.recEpoch then
               { s.assign with
                 recHighest := max s.assign.recHighest run
                 recOldest := if s.assign.recOldest = 0 then run else s.assign.recOldest }
             else s.assign))) ∧
     (p.run.toNat = 0 ∨ 999 < p.run.toNat →
       exec (.receiveStart h p) s = .next (heard (mark 0) s.assign)) ∧
     exec (.receiveCross h c) s =
       .next (heard (mark (if c.run.toNat ≤ 999 then c.run.toNat else 0)) s.assign) ∧
     exec (.receiveRuling h v) s =
       .next (heard (mark (if v.run.toNat ≤ 999 then v.run.toNat else 0)) s.assign) ∧
     (1 ≤ q.previous.toNat → q.previous.toNat ≤ 65534 → h.epoch.toNat = q.previous.toNat + 1 →
       exec (.receiveSession h q) s = .next (heard (mark 0) s.assign))) ∧
  (∀ (s : State) (h : Header) (p : RepeatPayload) (g : GonePayload),
     s.Hears h → h.seq = 0#8 → s.station.state = .listening → s.LineSettled →
     (s.peer h.station.toNat).missing = [] →
     let heard : State :=
       { s.heardAs h (s.peer h.station.toNat).expected [] with
         epoch := if s.epoch < h.epoch then h.epoch else s.epoch
         table :=
           { s.table with
             markEpoch :=
               if s.number = 0 ∧ s.table.markEpoch < h.epoch then h.epoch else s.table.markEpoch
             markRun :=
               if s.number = 0 ∧ s.table.markEpoch < h.epoch then 0 else s.table.markRun } }
     (p.originator.toNat < 16 → p.originator ≠ h.station →
       (∀ m ∈ (s.peer p.originator.toNat).missing, m.seq ≠ p.seq) →
       exec (.receiveRepeat h p) s = .next heard) ∧
     (g.requester.toNat < 16 → g.requester ≠ h.station → exec (.receiveGone h g) s = .next heard)) ∧
  (∀ (s : State) (h : Header) (b : BeaconPayload),
     s.Hears h → h.seq = 0#8 → s.station.state = .listening → s.LineSettled →
     b.gateCount.toNat = s.gates → b.oldest.isSome = (h.station == 0#8) →
     b.courseTime.toNat + 1 ≤ s.clock.courseTime ∨ 86400000 < b.courseTime.toNat →
     (s.peer h.station.toNat).missing = [] → b.flags.getLsbD 1 = false →
     b.flags.getLsbD 3 = false → (s.peer h.station.toNat).expected = some (b.lastSeq + 1) →
     let heard := s.heardAs h (some (b.lastSeq + 1)) []
     let value (w : Word16) : Nat := if w.toNat ≤ 999 then w.toNat else 0
     exec (.receiveBeacon h b) s =
       .next
         { heard with
           epoch := if s.epoch < h.epoch then h.epoch else s.epoch
           table :=
             { s.table with
               markEpoch :=
                 if s.number = 0 ∧ s.table.markEpoch < h.epoch then h.epoch else s.table.markEpoch
               markRun :=
                 if s.number = 0 ∧ s.table.markEpoch < h.epoch then value b.highest
                 else if s.number = 0 ∧ h.epoch = s.table.markEpoch then
                   max s.table.markRun (value b.highest)
                 else s.table.markRun }
           assign :=
             if s.isAssigner = true ∧ h.station = 0#8 ∧ s.assign.recEpoch ≤ h.epoch then
               { s.assign with
                 recEpoch := h.epoch
                 recHighest := value b.highest
                 recOldest := value (b.oldest.getD 0#16) }
             else s.assign
           receiver :=
             { heard.receiver with
               snapshot :=
                 if h.station = 0#8 then
                   { taken := true
                     highest := value b.highest
                     oldest := value (b.oldest.getD 0#16) }
                 else s.receiver.snapshot } })

/-- A beacon of the current epoch whose time is not ahead of this station's. With nothing new in it the peer
is PRESENT and that is all, but for a beacon of station 0, whose highest and oldest run become the
snapshot, and which releases HELD where its oldest run is 0 or has reached the boundary. Its bookkeeping
(R116): a FRESH beacon with another expected sequence is a restart, which loses every missing sequence and
lists those sent since; a first beacon without FRESH is a late join, which sets the expected sequence, and
HELD where it is station 0's; and a beacon of a peer that is followed lists the sequences it is behind by.
Of those listed the oldest 8 stay, with their first deadline, and the rest are lost. Losses of station 0 set
HELD at stations 1 to N−1, or raise its boundary, and the first of them takes every pending crossing, as STRAY
HELD, where HELD was clear; the same beacon's oldest run may then release it. -/
def Obligations.ABeaconInStep : Prop :=
  (∀ (s : State) (h : Header) (b : BeaconPayload) (oldest : Word16),
     s.Hears h → h.seq = 0#8 → s.onCourse = true → h.epoch = s.epoch →
     b.gateCount.toNat = s.gates → b.oldest.isSome = (h.station == 0#8) → s.LineSettled →
     b.courseTime.toNat + 1 ≤ s.clock.courseTime ∨ 86400000 < b.courseTime.toNat →
     (s.peer h.station.toNat).missing = [] → b.flags.getLsbD 1 = false →
     b.flags.getLsbD 3 = false → (s.peer h.station.toNat).expected = some (b.lastSeq + 1) →
     let heard := s.heardAs h (some (b.lastSeq + 1)) []
     (h.station ≠ 0#8 → exec (.receiveBeacon h b) s = .next heard) ∧
     (h.station = 0#8 → b.oldest = some oldest →
       let released : Prop :=
         s.isAssigner = true ∧ s.assign.held = true ∧
           (oldest.toNat = 0 ∨ s.assign.boundary ≤ oldest.toNat ∧ oldest.toNat ≤ 999)
       exec (.receiveBeacon h b) s =
         .next
           { heard with
             receiver :=
               { heard.receiver with
                 snapshot :=
                   { taken := true
                     highest := if b.highest.toNat ≤ 999 then b.highest.toNat else 0
                     oldest := if oldest.toNat ≤ 999 then oldest.toNat else 0 } }
             assign :=
               { s.assign with
                 held := if released then false else s.assign.held
                 boundary := if released then 0 else s.assign.boundary } })) ∧
  (∀ (s : State) (h : Header) (b : BeaconPayload) (e : Byte),
     s.Hears h → h.seq = 0#8 → s.onCourse = true → h.epoch = s.epoch → h.station ≠ 0#8 →
     b.gateCount.toNat = s.gates → b.oldest = none →
     b.courseTime.toNat + 1 ≤ s.clock.courseTime ∨ 86400000 < b.courseTime.toNat →
     let p := h.station.toNat
     let x := s.peer p
     let fresh := b.flags.getLsbD 1
     let noneSent := b.flags.getLsbD 3
     let l := b.lastSeq
     let d := (l - e).toNat + 1
     let entry (q : Byte) : MissingEntry := ⟨q, 0, s.now + (20 + 5 * s.number)⟩
     let books (expected : Option Byte) (missing : List MissingEntry) (lost : List Byte) : Prop :=
       ∃ t, exec (.receiveBeacon h b) s = .next t ∧
         t.peer p = ⟨.present, s.clock.courseTime, some (s.now + 1000), expected, missing⟩ ∧
         t.results =
           (lost.foldl
             (fun u y => u.append ⟨.linkLoss, .station p, 0, some y.toNat, Marks.none, 0⟩)
             s).results ∧
         t.station.errors =
           (if lost = [] then s.station.errors else s.station.errors.put true .e05) ∧
         t.table = s.table ∧ t.assign = s.assign ∧ t.outbox.ring = s.outbox.ring
     (noneSent = true → fresh = true →
       books (some 0#8) [] (x.missing.map (fun m => m.seq))) ∧
     (noneSent = true → fresh = false → x.expected = none → x.missing = [] →
       books (some 0#8) [] []) ∧
     (noneSent = true → fresh = false → x.expected = some e → books x.expected x.missing []) ∧
     (noneSent = false → fresh = true → x.expected ≠ some (l + 1) →
       books (some (l + 1))
         ((List.range (min 8 (l.toNat + 1))).map (fun i => entry (BitVec.ofNat 8 i)))
         (x.missing.map (fun m => m.seq) ++
           (List.range (l.toNat + 1 - 8)).map (fun i => BitVec.ofNat 8 (8 + i)))) ∧
     (noneSent = false → fresh = false → x.expected = none → x.missing = [] →
       books (some (l + 1)) [] []) ∧
     (noneSent = false → fresh = false → x.expected = some e → x.missing = [] → d ≤ 128 →
       books (some (l + 1))
         ((List.range (min 8 d)).map (fun i => entry (e + BitVec.ofNat 8 i)))
         ((List.range (d - 8)).map (fun i => e + BitVec.ofNat 8 (8 + i)))) ∧
     (noneSent = false → x.expected = some e → 128 < d → fresh = false ∨ e = l + 1 →
       books x.expected x.missing [])) ∧
  (∀ (s : State) (h : Header) (b : BeaconPayload) (oldest : Word16),
     s.Hears h → h.seq = 0#8 → s.onCourse = true → h.epoch = s.epoch → h.station = 0#8 →
     b.gateCount.toNat = s.gates → b.oldest = some oldest →
     b.courseTime.toNat + 1 ≤ s.clock.courseTime ∨ 86400000 < b.courseTime.toNat →
     b.flags.getLsbD 1 = false → (s.peer 0).expected = none → (s.peer 0).missing = [] →
     s.isAssigner = true → s.assign.held = false → 1 ≤ oldest.toNat →
     oldest.toNat ≤ b.highest.toNat → b.highest.toNat ≤ 999 →
     ∃ t, exec (.receiveBeacon h b) s = .next t ∧ t.assign.held = true ∧
       t.assign.boundary = max s.highestKnown b.highest.toNat + 1 ∧ t.assign.entries = [] ∧
       t.results = (s.strays .held s.assign.entries).results ∧
       (t.peer 0).expected = some (if b.flags.getLsbD 3 = true then 0#8 else b.lastSeq + 1) ∧
       (t.peer 0).missing = [] ∧ t.table = s.table) ∧
  (∀ (s : State) (h : Header) (b : BeaconPayload) (oldest : Word16) (e : Byte),
     s.Hears h → h.seq = 0#8 → s.onCourse = true → h.epoch = s.epoch → h.station = 0#8 →
     b.gateCount.toNat = s.gates → b.oldest = some oldest →
     b.courseTime.toNat + 1 ≤ s.clock.courseTime ∨ 86400000 < b.courseTime.toNat →
     let x := s.peer 0
     let fresh := b.flags.getLsbD 1
     let noneSent := b.flags.getLsbD 3
     let l := b.lastSeq
     let d := (l - e).toNat + 1
     let entry (q : Byte) : MissingEntry := ⟨q, 0, s.now + (20 + 5 * s.number)⟩
     let books (expected : Option Byte) (missing : List MissingEntry) (lost : List Byte) : Prop :=
       let sets : Bool := s.isAssigner && !lost.isEmpty
       let held : Bool := s.assign.held || sets
       let known : Nat := max s.highestKnown s.receiver.snapshot.highest + 1
       let boundary : Nat :=
         if sets then (if s.assign.held then max s.assign.boundary known else known)
         else s.assign.boundary
       let released : Bool :=
         s.isAssigner && held &&
           decide (oldest.toNat = 0 ∨ (boundary ≤ oldest.toNat ∧ oldest.toNat ≤ 999))
       let strayed : List PendingEntry := if sets && !s.assign.held then s.assign.entries else []
       let loss (u : State) (y : Byte) : State :=
         u.append ⟨.linkLoss, .station 0, 0, some y.toNat, Marks.none, 0⟩
       ∃ t, exec (.receiveBeacon h b) s = .next t ∧
         t.peer 0 = ⟨.present, s.clock.courseTime, some (s.now + 1000), expected, missing⟩ ∧
         t.results =
           ((lost.drop 1).foldl loss (((lost.take 1).foldl loss s).strays .held strayed)).results ∧
         t.station.errors =
           (if lost = [] then s.station.errors else s.station.errors.put true .e05) ∧
         t.assign =
           { s.assign with
             entries := if sets && !s.assign.held then [] else s.assign.entries
             held := held && !released
             boundary := if released then 0 else boundary } ∧
         t.table = s.table ∧ t.outbox.ring = s.outbox.ring
     (noneSent = true → fresh = true →
       books (some 0#8) [] (x.missing.map (fun m => m.seq))) ∧
     (noneSent = true → fresh = false → x.expected = some e → books x.expected x.missing []) ∧
     (noneSent = false → fresh = true → x.expected ≠ some (l + 1) →
       books (some (l + 1))
         ((List.range (min 8 (l.toNat + 1))).map (fun i => entry (BitVec.ofNat 8 i)))
         (x.missing.map (fun m => m.seq) ++
           (List.range (l.toNat + 1 - 8)).map (fun i => BitVec.ofNat 8 (8 + i)))) ∧
     (noneSent = false → fresh = false → x.expected = some e → x.missing = [] → d ≤ 128 →
       books (some (l + 1))
         ((List.range (min 8 d)).map (fun i => entry (e + BitVec.ofNat 8 i)))
         ((List.range (d - 8)).map (fun i => e + BitVec.ofNat 8 (8 + i)))) ∧
     (noneSent = false → x.expected = some e → 128 < d → fresh = false ∨ e = l + 1 →
       books x.expected x.missing []))

/-- A beacon's time is taken whatever its epoch and its bookkeeping: course time never goes back, one that
the carried time T is ahead of becomes T + 1, at most 86,400,000, with the phase at 0; and one ahead by 3 or
more in ACTIVE or MUTE marks every on-course run STEPPED (that a run without a start time does not carry the mark
of that step into a CROSS: DEDUCED, assumption log 28). Of the beacon timer, the
fresh span, the two holds, and the silence timers and the retry deadlines of the stations that did not send
it, each whose end the new time reaches ends, and each other one goes on with its end; the sender counts as
present with a silence timer of 1,000 from before the step, which the step may end; a tone that stands
afterwards has its end ahead (as many of its steps end as the time passes: DEDUCED, assumption log 8); and
no retry deadline of the sender and no pending crossing is left behind. In an ACTIVE station the crossings
it reaches leave as STRAY NO RUN, and at 86,400,000 it closes: a step takes the expiries first, and the
CLOSED result follows the STRAY CLOSED ones (DEDUCED, assumption log 11). Whatever else falls together comes
in either order (the model's choice, assumption log 5). -/
def Obligations.ABeaconPullsCourseTimeForward : Prop :=
  (∀ (s : State) (h : Header) (b : BeaconPayload),
     s.Hears h → h.seq = 0#8 → b.gateCount.toNat = s.gates →
     b.oldest.isSome = (h.station == 0#8) → b.courseTime.toNat ≤ 86400000 →
     ∃ t, exec (.receiveBeacon h b) s = .next t ∧
       (b.courseTime.toNat + 1 ≤ s.clock.courseTime → t.clock = s.clock) ∧
       (s.clock.courseTime < b.courseTime.toNat + 1 →
         t.clock =
           { s.clock with courseTime := min (b.courseTime.toNat + 1) 86400000, phase := 0 }) ∧
       (h.epoch ≤ s.epoch → s.onCourse = true →
         t.table =
           { s.table with
             records :=
               s.table.records.map
                 (fun (r : RunRecord) =>
                   if s.clock.courseTime + 3 ≤ b.courseTime.toNat + 1 ∧
                       (s.station.state = .active ∨ s.station.state = .mute) ∧
                       r.state = .onCourse then
                     { r with
                       stepped := true, carriesStepped := r.carriesStepped || r.start.isSome }
                   else r) })) ∧
  (∀ (s : State) (h : Header) (b : BeaconPayload),
     s.Hears h → h.seq = 0#8 → b.gateCount.toNat = s.gates →
     b.oldest.isSome = (h.station == 0#8) → b.courseTime.toNat ≤ 86400000 →
     s.clock.courseTime < b.courseTime.toNat + 1 →
     let now := min (b.courseTime.toNat + 1) 86400000 + s.clock.stopTicks
     ∃ t, exec (.receiveBeacon h b) s = .next t ∧
       (∀ e, s.outbox.beaconTimer = some e →
         (e ≤ now → t.outbox.beaconDue = true ∧ t.outbox.beaconTimer = some (now + 250)) ∧
         (now < e → t.outbox.beaconDue = s.outbox.beaconDue ∧ t.outbox.beaconTimer = some e)) ∧
       (∀ e, s.outbox.freshEnd = some e →
         t.outbox.freshEnd = (if e ≤ now then none else some e)) ∧
       (∀ g, s.panel.resultHold = some g →
         t.panel.resultHold = (if g.endsAt ≤ now then none else some g)) ∧
       (∀ g, s.panel.runHold = some g →
         t.panel.runHold = (if g.endsAt ≤ now then none else some g)) ∧
       (∀ i < 16, i ≠ h.station.toNat → ∀ e, (s.peer i).silenceEnd = some e →
         (s.peer i).presence = .present →
         (t.peer i).presence = (if e ≤ now then .silent else .present)) ∧
       (∀ x, t.panel.tone = some x → now < x.endsAt) ∧
       ((t.peer h.station.toNat).presence = if s.now + 1000 ≤ now then .silent else .present) ∧
       (∀ m ∈ (t.peer h.station.toNat).missing, now < m.deadline) ∧
       (∀ i < 16, i ≠ h.station.toNat → ((s.peer i).missing.map (fun m => m.seq)).Nodup →
         (t.peer i).missing =
           ((s.peer i).missing.filter (fun m => !(decide (m.deadline ≤ now) && decide (3 ≤ m.attempts)))).map
             (fun m =>
               if m.deadline ≤ now then { m with attempts := m.attempts + 1, deadline := now + 100 }
               else m)) ∧
       (∀ e ∈ t.assign.entries, now < e.deadline)) ∧
  (∀ (s : State) (h : Header) (b : BeaconPayload),
     s.Hears h → h.seq = 0#8 → b.gateCount.toNat = s.gates → h.station ≠ 0#8 → b.oldest = none →
     b.courseTime.toNat ≤ 86400000 → s.clock.courseTime < b.courseTime.toNat + 1 →
     s.isActive = true → h.epoch = s.epoch → (∀ p ∈ s.receiver.peers, p.missing = []) →
     b.flags.getLsbD 1 = false → b.flags.getLsbD 3 = false →
     (s.peer h.station.toNat).expected = some (b.lastSeq + 1) →
     let time := min (b.courseTime.toNat + 1) 86400000
     let now := time + s.clock.stopTicks
     let reached := s.assign.entries.filter (fun e => decide (e.deadline ≤ now))
     let others := s.assign.entries.filter (fun e => decide (now < e.deadline))
     let expired : State :=
       { s with clock := { s.clock with courseTime := time } }.strays .noRun reached
     ∃ t, exec (.receiveBeacon h b) s = .next t ∧
       (time < 86400000 →
         t.station.state = .active ∧ t.assign.entries = others ∧ t.results = expired.results) ∧
       (time = 86400000 →
         t.station.state = .closed ∧ t.station.errors.e10 = true ∧ t.assign.entries = [] ∧
         (s.clock.courseTime + 3 ≤ b.courseTime.toNat + 1 →
           t.results =
             ((expired.strays .closed others).append
               ⟨.closed, .empty, 0, some s.epoch.toNat, Marks.none, 0⟩).results)))

/-- A REPEAT for this station's own sequence, while it speaks: a frame in the ring that is SENT is copied
to the Control List, one that is UNSENT is left, and a sequence the ring does not hold is answered by a
GONE with the oldest retained sequence. The answer joins the end of the Control List, unless the list holds 6
entries or one of the same identity. A REPEAT for a third station's sequence that is missing here
moves its deadline 100 ms on and takes back this station's own waiting REPEAT for it. One of an older epoch
is heard, and neither is served nor moves a deadline (R87). -/
def Obligations.RepeatsAreServedOrSuppress : Prop :=
  (∀ (s : State) (h : Header) (p : RepeatPayload) (e : RingEntry),
     s.Hears h → h.seq = 0#8 → s.speaking = true → h.epoch = s.epoch → s.onCourse = true →
     p.originator = s.stationByte → s.LineSettled →
     let heard :=
       s.heardAs h (s.peer h.station.toNat).expected (s.peer h.station.toNat).missing
     let joined (e : ControlEntry) (same : ControlEntry → Bool) : List ControlEntry :=
       if s.outbox.control.length < 6 ∧ s.outbox.control.any same = false then s.outbox.control ++ [e]
       else s.outbox.control
     (s.outbox.ring.find? (fun e => e.frame.header.seq == p.seq) = some e → e.sent = true →
       exec (.receiveRepeat h p) s =
         .next
           { heard with
             outbox :=
               { s.outbox with
                 control :=
                   joined (.copy e.frame)
                     (fun x =>
                       match x with
                       | .copy f => f.header.seq == p.seq
                       | .gone _ _ _ | .askRepeat _ _ => false) }
             line := { heard.line with tx := s.waitIf true } }) ∧
     (s.outbox.ring.find? (fun e => e.frame.header.seq == p.seq) = some e → e.sent = false →
       exec (.receiveRepeat h p) s = .next heard) ∧
     (s.outbox.ring.find? (fun e => e.frame.header.seq == p.seq) = none →
       exec (.receiveRepeat h p) s =
         .next
           { heard with
             outbox :=
               { s.outbox with
                 control :=
                   joined (.gone h.station p.seq s.oldestRetained)
                     (fun x =>
                       match x with
                       | .gone r q _ => r == h.station && q == p.seq
                       | .copy _ | .askRepeat _ _ => false) }
             line := { heard.line with tx := s.waitIf true } })) ∧
  (∀ (s : State) (h : Header) (p : RepeatPayload),
     s.Hears h → h.seq = 0#8 → s.onCourse = true → h.epoch = s.epoch →
     p.originator.toNat < 16 → p.originator ≠ h.station → p.originator ≠ s.stationByte →
     s.sending = false → s.LineSettled →
     (∃ m ∈ (s.peer p.originator.toNat).missing, m.seq = p.seq) →
     ∃ t, exec (.receiveRepeat h p) s = .next t ∧
       (t.peer p.originator.toNat).missing =
         (s.peer p.originator.toNat).missing.map
           (fun m => if m.seq = p.seq then { m with deadline := s.now + 100 } else m) ∧
       t.outbox.control = s.outbox.control.filter (fun e => e != .askRepeat p.originator p.seq) ∧
       t.table = s.table ∧ t.assign = s.assign ∧ t.results = s.results ∧ t.outbox.ring = s.outbox.ring) ∧
  (∀ (s : State) (h : Header) (p : RepeatPayload),
     s.Hears h → h.seq = 0#8 → s.onCourse = true → h.epoch < s.epoch →
     p.originator.toNat < 16 → p.originator ≠ h.station → s.LineSettled →
     exec (.receiveRepeat h p) s =
       .next (s.heardAs h (s.peer h.station.toNat).expected (s.peer h.station.toNat).missing))

/-- A sequence is declared lost where its originator says it is GONE, with every entry older than the oldest
sequence it retains (o − s of 1 to 127), and where its third attempt has run out: it leaves the Missing
List, LINK LOSS is appended and E05 raised. Before that, each deadline costs an attempt and offers one
REPEAT. A loss from station 0 sets HELD at stations 1 to N−1: the boundary is one above the highest run that
the station or station 0's last beacon knows, and every pending crossing leaves as STRAY HELD after the LINK
LOSS, in their order. A GONE of an older epoch declares nothing lost (R87). RETRY_DEADLINE completes in
every state, and touches no entry but the one whose deadline it is. -/
def Obligations.LostSequencesAreReported : Prop :=
  (∀ (s : State) (h : Header) (g : GonePayload) (p : Fin 16) (m : MissingEntry),
     s.receiver.peers.length = 16 → s.outbox.control = [] → s.LineSettled → p.val ≠ 0 →
     (s.peer p.val).missing = [m] →
     let lost (base : State) : State :=
       { base with
         station := { s.station with errors := s.station.errors.put true .e05 }
         panel := { s.panel with tone := s.alarmed .e05 } }.appended
         ⟨.linkLoss, .station p.val, 0, some m.seq.toNat, Marks.none, 0⟩
     let without (l : List MissingEntry) : State :=
       { s with
         receiver :=
           { s.receiver with peers := s.receiver.peers.set p.val { s.peer p.val with missing := l } } }
     (s.Hears h → h.seq = 0#8 → h.station.toNat = p.val → g.requester.toNat < 16 →
       g.requester ≠ h.station → s.onCourse = true → h.epoch = s.epoch → g.requested = m.seq →
       exec (.receiveGone h g) s = .next (lost (s.heardAs h (s.peer p.val).expected []))) ∧
     (s.now < m.deadline → exec (.retryDeadline p m.seq) s = .next s) ∧
     (m.deadline ≤ s.now → 3 ≤ m.attempts →
       exec (.retryDeadline p m.seq) s = .next (lost (without []))) ∧
     (m.deadline ≤ s.now → m.attempts < 3 → s.speaking = true →
       exec (.retryDeadline p m.seq) s =
         .next
           { without [⟨m.seq, m.attempts + 1, s.now + 100⟩] with
             outbox := { s.outbox with control := [.askRepeat (BitVec.ofNat 8 p.val) m.seq] }
             line := { s.line with tx := s.waitIf true } }) ∧
     (m.deadline ≤ s.now → m.attempts < 3 → s.speaking = false →
       exec (.retryDeadline p m.seq) s = .next (without [⟨m.seq, m.attempts + 1, s.now + 100⟩]))) ∧
  (∀ (s : State) (m : MissingEntry), s.receiver.peers.length = 16 → s.outbox.control = [] →
     s.LineSettled → s.isAssigner = true → s.onCourse = true → (s.peer 0).missing = [m] →
     m.deadline ≤ s.now → 3 ≤ m.attempts →
     ∃ t, exec (.retryDeadline 0 m.seq) s = .next t ∧ t.assign.held = true ∧
       (s.assign.held = false →
         t.assign.boundary = max s.highestKnown s.receiver.snapshot.highest + 1 ∧
         t.assign.entries = [] ∧
         t.results =
           ((s.append ⟨.linkLoss, .station 0, 0, some m.seq.toNat, Marks.none, 0⟩).strays .held
             s.assign.entries).results) ∧
       (s.assign.held = true →
         t.assign.boundary =
           max s.assign.boundary (max s.highestKnown s.receiver.snapshot.highest + 1) ∧
         t.results =
           (s.append ⟨.linkLoss, .station 0, 0, some m.seq.toNat, Marks.none, 0⟩).results) ∧
       t.table = s.table ∧ t.outbox.ring = s.outbox.ring ∧ (t.peer 0).missing = [] ∧
       t.station.errors = s.station.errors.put true .e05) ∧
  (∀ (s : State) (h : Header) (g : GonePayload),
     s.Hears h → h.seq = 0#8 → s.onCourse = true → h.epoch < s.epoch →
     g.requester.toNat < 16 → g.requester ≠ h.station → s.LineSettled →
     exec (.receiveGone h g) s =
       .next (s.heardAs h (s.peer h.station.toNat).expected (s.peer h.station.toNat).missing)) ∧
  (∀ (s : State) (h : Header) (g : GonePayload),
     s.Hears h → h.seq = 0#8 → s.onCourse = true → h.epoch = s.epoch →
     g.requester.toNat < 16 → g.requester ≠ h.station →
     let p := h.station.toNat
     let gone (m : MissingEntry) : Bool :=
       m.seq == g.requested ||
         decide (1 ≤ (g.oldest - m.seq).toNat ∧ (g.oldest - m.seq).toNat ≤ 127)
     let lost : List Byte := ((s.peer p).missing.filter gone).map (fun m => m.seq)
     let loss (u : State) (y : Byte) : State :=
       u.append ⟨.linkLoss, .station p, 0, some y.toNat, Marks.none, 0⟩
     ∃ t, exec (.receiveGone h g) s = .next t ∧
       (t.peer p).missing = (s.peer p).missing.filter (fun m => !gone m) ∧
       t.station.errors =
         (if lost = [] then s.station.errors else s.station.errors.put true .e05) ∧
       (s.sending = false →
         t.outbox.control =
           s.outbox.control.filter (fun e => !lost.any (fun y => e == .askRepeat h.station y))) ∧
       (p ≠ 0 ∨ s.isAssigner = false ∨ s.assign.held = true ∨ lost = [] →
         t.results = (lost.foldl loss s).results ∧ t.assign.entries = s.assign.entries) ∧
       (p = 0 → s.isAssigner = true → s.assign.held = false → lost ≠ [] →
         t.assign.held = true ∧ t.assign.entries = [] ∧
         t.assign.boundary = max s.highestKnown s.receiver.snapshot.highest + 1 ∧
         t.results =
           ((lost.drop 1).foldl loss
             (((lost.take 1).foldl loss s).strays .held s.assign.entries)).results) ∧
       t.table = s.table ∧ t.outbox.ring = s.outbox.ring) ∧
  (∀ (s : State) (p : Fin 16) (q : Byte), s.receiver.peers.length = 16 →
     ((s.peer p.val).missing.map (fun m => m.seq)).Nodup →
     ∃ t, exec (.retryDeadline p q) s = .next t ∧
       ((t.peer p.val).missing =
         ((s.peer p.val).missing.filter
             (fun m => !(m.seq == q && decide (m.deadline ≤ s.now) && decide (3 ≤ m.attempts)))).map
           (fun m =>
             if m.seq = q ∧ m.deadline ≤ s.now then
               { m with attempts := m.attempts + 1, deadline := s.now + 100 }
             else m)) ∧
       ((∀ m ∈ (s.peer p.val).missing, m.seq = q → m.deadline ≤ s.now → m.attempts < 3) →
         t.results = s.results ∧ t.assign = s.assign ∧ t.station = s.station) ∧
       t.table = s.table ∧ t.outbox.ring = s.outbox.ring)

/-- A frame that bears this station's own number while it is not sending: E01. ACTIVE falls MUTE: it stops
speaking, and its pending crossings leave as STRAY MUTE; LISTENING falls MUTE with the epoch settled and
Gate Capture released, and closes at once where course time stands at the limit; CLOSED stops speaking;
MUTE stays. -/
def Obligations.ADuplicateNumberSilences : Prop :=
  ∀ (s : State) (f : Frame), f.wellFormed = true → f.header.station = s.stationByte →
    s.sending = false →
    let silent : State :=
      { s with
        line := { s.line with rx := .ignoring, complete := none, tx := .off }
        outbox := { s.outbox with control := [], beaconDue := false, beaconTimer := none }
        station :=
          { s.station with
            errors := s.station.errors.put true .e01, closedSpeaking := false }
        panel := { s.panel with tone := s.alarmed .e01 } }
    (s.station.state = .active →
      exec (frameCommand f) s =
        .next
          ({ silent with
            station := { silent.station with state := .mute }
            assign := { s.assign with entries := [] } }.strays .mute s.assign.entries)) ∧
    (s.station.state = .closed → exec (frameCommand f) s = .next silent) ∧
    (s.station.state = .mute → s.line.tx ≠ .idle →
      exec (frameCommand f) s =
        .next
          { s with
            line := { s.line with rx := .ignoring, complete := none }
            station := { s.station with errors := s.station.errors.put true .e01 }
            panel := { s.panel with tone := s.alarmed .e01 } }) ∧
    (s.station.state = .listening → s.line.tx = .off →
      let epoch : Word16 := if s.epoch = 0#16 then 1#16 else s.epoch
      let muted : State :=
        { s with
          epoch := epoch
          line := { s.line with rx := .ignoring, complete := none }
          gate :=
            { s.gate with
              capture := .armed, candidate := none, confirm := 0, holdoff := 0, blocked := 0
              firstSample := true }
          station :=
            { s.station with state := .mute, errors := s.station.errors.put true .e01 }
          panel := { s.panel with tone := s.alarmed .e01 } }
      (s.clock.courseTime ≠ 86400000 → exec (frameCommand f) s = .next muted) ∧
      (s.clock.courseTime = 86400000 → s.assign.entries = [] →
        ∃ t, exec (frameCommand f) s = .next t ∧ t.station.state = .closed ∧ t.speaking = false ∧
          t.station.errors.e01 = true ∧ t.station.errors.e10 = true ∧ t.epoch = epoch ∧
          t.gate = muted.gate ∧
          t.results =
            (s.append ⟨.closed, .empty, 0, some epoch.toNat, Marks.none, 0⟩).results))

/-- A beacon with another gate count puts its sender in MISMATCH with E04: its sequence and Missing List
are gone without a loss, and its waiting REPEATs are removed. No frame of a peer in MISMATCH, of whatever
kind, has any effect but a FRESH beacon of the right gate count, which makes it PRESENT, with the
sequences sent since its start listed; and nothing is received in RESET and CONFIG FAULT. -/
def Obligations.FramesThatAreNotAccepted : Prop :=
  ∀ (s : State) (f : Frame) (b : BeaconPayload), f.wellFormed = true →
    f.header.station ≠ s.stationByte → s.receiver.peers.length = 16 →
    let p := f.header.station.toNat
    let handedOn : State := { s with line := { s.line with rx := .ignoring, complete := none } }
    (s.receives = true → f.payload = .beacon b → b.gateCount.toNat ≠ s.gates →
      (s.peer p).presence ≠ .mismatch → s.LineSettled →
      exec (frameCommand f) s =
        .next
          ({ handedOn with
            receiver :=
              { peers :=
                  s.receiver.peers.set p
                    ⟨.mismatch, (s.peer p).lastHeard, none, none, []⟩
                snapshot := if p = 0 then ⟨false, 0, 0⟩ else s.receiver.snapshot }
            station := { s.station with errors := s.station.errors.put true .e04 }
            panel := { s.panel with tone := s.alarmed .e04 } }.dropRepeats
            (fun o _ => o.toNat == p))) ∧
    (s.receives = true → (s.peer p).presence = .mismatch → s.LineSettled →
      (∀ c, f.payload = .beacon c → c.flags.getLsbD 1 = false ∨ c.gateCount.toNat ≠ s.gates) →
      exec (frameCommand f) s = .next handedOn) ∧
    (s.receives = true → (s.peer p).presence = .mismatch → (s.peer p).missing = [] →
      f.payload = .beacon b → b.flags.getLsbD 1 = true → b.gateCount.toNat = s.gates →
      b.courseTime.toNat + 1 ≤ s.clock.courseTime ∨ 86400000 < b.courseTime.toNat →
      ∃ t, exec (frameCommand f) s = .next t ∧
        t.peer p =
          ⟨.present, s.clock.courseTime, some (s.now + 1000),
            some (if b.flags.getLsbD 3 = true then 0#8 else b.lastSeq + 1),
            if b.flags.getLsbD 3 = true then []
            else
              (List.range (min 8 (b.lastSeq.toNat + 1))).map
                (fun i => ⟨BitVec.ofNat 8 i, 0, s.now + (20 + 5 * s.number)⟩)⟩) ∧
    (s.receives = false → s.LineSettled → exec (frameCommand f) s = .next s)

/-! ### The timing line -/

/-- A whole byte, by the receiver's condition: the preamble opens a frame, any other byte on a waiting line
is ignored with what follows, a byte in a frame joins it, a length above 12 drops the frame, and the last
check byte completes it, for the Receiver to take where the station receives. A byte ends in its stop bit; a
framing error leaves the line busy; and either gives up a count of gap and slot (R133). A bad frame goes
with no effect but the receiver's ignoring; a frame in progress is abandoned whole, straight to waiting
after an idle run past 10 bit times and to ignoring otherwise; and an ignoring receiver waits again after
such a run. A byte is ten levels, a dominant start bit, the eight data bits and a recessive stop bit, and
its levels spell it. A rest that is due comes into force where its stop bit is no longer on the line (R134;
LineUnit.settleRest, which the statement of TRANSMIT_COMPLETE gives) (the line's level between commands and
the complete frame kept for the Receiver: the model's choice, assumption logs 14 and 15). -/
def Obligations.BytesMakeFrames : Prop :=
  (∀ (s : State) (b : Byte) (bytes : List Byte), s.running = true →
     let deferred : TxState :=
       match s.line.tx with
       | .waiting _ _ => .waiting (if s.line.rest ∨ s.line.restDue then 76 else 12) none
       | .off => .off
       | .idle => .idle
       | .sending source f n => .sending source f n
     let heard (rx : RxState) (complete : Option (List Byte)) : State :=
       { s with
         line :=
           { s.line with
             tx := deferred
             idlePeriods := 0
             restPeriods := if s.line.rest then 0 else s.line.restPeriods
             dominant := false
             reading :=
               if s.line.reading.any (fun (r : Reading) => decide (304 ≤ r.periods)) then s.line.reading
               else if s.sending then some ⟨0, []⟩
               else none
             rx := rx
             complete := complete }.settleRest }
     (s.line.rx = .waiting → b = 0xA6#8 →
       exec (.byteTaken (.byte b)) s = .next (heard (.inFrame [b]) s.line.complete)) ∧
     (s.line.rx = .waiting → b ≠ 0xA6#8 →
       exec (.byteTaken (.byte b)) s = .next (heard .ignoring s.line.complete)) ∧
     (s.line.rx = .ignoring →
       exec (.byteTaken (.byte b)) s = .next (heard .ignoring s.line.complete)) ∧
     (s.line.rx = .inFrame bytes → bytes.length < 6 →
       exec (.byteTaken (.byte b)) s =
         .next (heard (.inFrame (bytes ++ [b])) s.line.complete)) ∧
     (s.line.rx = .inFrame bytes → bytes.length = 6 → b.toNat ≤ 12 →
       exec (.byteTaken (.byte b)) s =
         .next (heard (.inFrame (bytes ++ [b])) s.line.complete)) ∧
     (s.line.rx = .inFrame bytes → bytes.length = 6 → 12 < b.toNat →
       exec (.byteTaken (.byte b)) s = .next (heard .ignoring s.line.complete)) ∧
     (s.line.rx = .inFrame bytes → 7 ≤ bytes.length → (bytes.getD 6 0#8).toNat ≤ 12 →
       bytes.length + 1 < 9 + (bytes.getD 6 0#8).toNat →
       exec (.byteTaken (.byte b)) s =
         .next (heard (.inFrame (bytes ++ [b])) s.line.complete)) ∧
     (s.line.rx = .inFrame bytes → 7 ≤ bytes.length → (bytes.getD 6 0#8).toNat ≤ 12 →
       bytes.length + 1 = 9 + (bytes.getD 6 0#8).toNat → s.receives = true →
       exec (.byteTaken (.byte b)) s =
         .next (heard .ignoring (some (bytes ++ [b])))) ∧
     (s.line.rx = .inFrame bytes → 7 ≤ bytes.length → (bytes.getD 6 0#8).toNat ≤ 12 →
       bytes.length + 1 = 9 + (bytes.getD 6 0#8).toNat → s.receives = false →
       exec (.byteTaken (.byte b)) s = .next (heard .ignoring none)) ∧
     exec (.byteTaken .framingError) s =
       .next
         { s with
           line :=
             { s.line with
               tx := deferred
               idlePeriods := 0
               restPeriods := if s.line.rest then 0 else s.line.restPeriods
               dominant := true
               reading := none
               rx := .ignoring }.settleRest }) ∧
  (∀ (s : State) (bytes : List Byte), s.running = true →
     let waiting : State :=
       { s with
         line :=
           { s.line with
             rx := .waiting
             dominant := false
             reading := none
             idlePeriods := max s.line.idlePeriods 321
             rest := s.line.rest || s.line.restDue
             restDue := false
             restPeriods :=
               if s.line.restDue then 321
               else if s.line.rest then max s.line.restPeriods 321
               else s.line.restPeriods } }
     exec .badFrameDropped s =
       .next { s with line := { s.line with rx := .ignoring, complete := none } } ∧
     (s.line.rx = .inFrame bytes →
       exec (.frameAbandoned .idleRun) s = .next waiting ∧
       exec (.frameAbandoned .lengthAbove) s =
         .next { s with line := { s.line with rx := .ignoring } } ∧
       exec (.frameAbandoned .framingError) s =
         .next
           { s with
             line :=
               { s.line with
                 tx :=
                   match s.line.tx with
                   | .waiting _ _ => .waiting (if s.line.rest ∨ s.line.restDue then 76 else 12) none
                   | .off => .off
                   | .idle => .idle
                   | .sending source f n => .sending source f n
                 rx := .ignoring
                 dominant := true
                 reading := none
                 idlePeriods := 0
                 restPeriods := if s.line.rest then 0 else s.line.restPeriods }.settleRest }) ∧
     (s.line.rx = .ignoring → exec .waitingForAFrame s = .next waiting) ∧
     (s.line.rx ≠ .ignoring → exec .waitingForAFrame s = .next s)) ∧
  (∀ b : Byte,
     (byteLevels b).length = 10 ∧ (byteLevels b).getD 0 false = true ∧
       (byteLevels b).getD 9 true = false ∧ levelsByte ((byteLevels b).take 9) = b)

/-- The pair is released but while a frame is sent: bit n/32 of it is then on the pair, its bytes back to
back, each a dominant start bit, eight data bits from the least significant on, dominant for a 0, and a
recessive stop bit. A dominant level prevails, and the line is busy while one is on it, and in a byte being
received from the middle of its start bit on. A dominant level of another station's starts the idle run and
a rest in force afresh, and begins a byte where none is being received: LINE_BUSY outside WAITING, and in
WAITING LINE_DEFER, which also gives the count of gap and slot up. The count begins again at its gap, 76 bit
times in a rest and 12 otherwise, and no failed attempt is counted. The rest ends at 76 bit times of idle,
and on a busy line it stays in force (R141). Each of the three commands changes nothing where its case does
not hold (the model's choice, assumption log 1), the rest's count is taken as reached (the model's choice,
assumption log 2), and a level that appears in the second half of a stop bit begins the next byte and ends
that bit, with the rest that is due there (the model's choice, assumption log 31). -/
def Obligations.ABusyLineIsDeferredTo : Prop :=
  (∀ (s : State) (source : TxSource) (f : Frame) (n i j : Nat),
    (s.sending = false → s.drives = false) ∧
    (s.line.tx = .sending source f n → n / 32 = 10 * i + j → j < 10 →
      (i < f.bytes.length →
        s.drives =
          if j = 0 then true
          else if j = 9 then false
          else !(f.bytes.getD i 0#8).getLsbD (j - 1)) ∧
      (f.bytes.length ≤ i → s.drives = false)) ∧
    s.lineLevel = (s.line.dominant || s.drives) ∧
    (s.line.busy = true ↔
      s.lineLevel = true ∨ ∃ r : Reading, s.line.reading = some r ∧ 16 ≤ r.periods)) ∧
  (∀ (s : State) (gap : Nat) (slot : Option Nat), s.running = true →
    let line (tx : TxState) : LineUnit :=
      { s.line with
        tx := tx
        dominant := true
        reading :=
          if s.line.dominant then s.line.reading
          else
            match s.line.reading with
            | none => some ⟨0, []⟩
            | some r => if 304 ≤ r.periods then some ⟨0, []⟩ else some r
        idlePeriods := 0
        restPeriods := if s.line.rest then 0 else s.line.restPeriods }.settleRest
    (s.line.tx = .waiting gap slot →
      exec .lineDefer s =
        .next
          { s with
            line := line (.waiting (if s.line.rest ∨ s.line.restDue then 76 else 12) none) } ∧
      exec .lineBusy s = .next s) ∧
    (s.isWaiting = false →
      exec .lineBusy s = .next { s with line := line s.line.tx } ∧ exec .lineDefer s = .next s) ∧
    (s.line.rest = true → s.line.busy = false →
      exec .restEnd s =
        .next { s with line := { s.line with rest := false, restPeriods := 2432 } }) ∧
    (s.line.rest = false ∨ s.line.busy = true → exec .restEnd s = .next s))

/-- At the end of its gap and slot the unit sends the frame the Outbox chooses: the oldest Control List
entry, a GONE or REPEAT under the epoch of this moment; else the due beacon, with its contents of this
moment, whose flag is cleared; else, once the first beacon went out, the oldest UNSENT frame of the ring.
With none of these it goes to IDLE; and on a busy line it has deferred and sends nothing (the command says that
the gap and slot are over: the model's choice, assumption log 2). -/
def Obligations.TheOutboxChoosesAFrame : Prop :=
  ∀ (s : State) (gap : Nat) (slot : Option Nat) (f : Frame) (r q o : Byte)
    (rest : List ControlEntry) (sent unsent : List RingEntry) (e : RingEntry),
    s.line.tx = .waiting gap slot →
    (s.line.busy = true → exec .transmitStart s = .next s) ∧
    (s.line.busy = false →
    let sends (source : TxSource) (frame : Frame) : State :=
      { s with
        line :=
          { s.line with
            tx := .sending source frame 0
            reading := some ⟨0, []⟩
            idlePeriods := 0
            restPeriods := if s.line.rest then 0 else s.line.restPeriods } }
    let head : Header := ⟨s.stationByte, s.epoch, 0#8⟩
    (s.outbox.control = .copy f :: rest → exec .transmitStart s = .next (sends .control f)) ∧
    (s.outbox.control = .gone r q o :: rest →
      exec .transmitStart s = .next (sends .control ⟨head, .gone ⟨r, q, o⟩⟩)) ∧
    (s.outbox.control = .askRepeat r q :: rest →
      exec .transmitStart s = .next (sends .control ⟨head, .askRepeat ⟨r, q⟩⟩)) ∧
    (s.outbox.control = [] → s.outbox.beaconDue = true →
      exec .transmitStart s =
        .next
          { sends .beacon
              ⟨head,
                .beacon
                  ⟨BitVec.ofNat 32 s.clock.courseTime, s.outbox.lastSent.getD 0xFF#8,
                    BitVec.ofNat 8 s.gates,
                    (if s.station.state = .closed then 1#8 else 0#8) |||
                      (if s.outbox.fresh then 2#8 else 0#8) |||
                      (if s.isAssigner = true ∧ s.assign.held = true then 4#8 else 0#8) |||
                      (if s.outbox.lastSent = none then 8#8 else 0#8),
                    BitVec.ofNat 16 s.highestKnown,
                    if s.number = 0 then some (BitVec.ofNat 16 s.oldestOnCourse) else none⟩⟩ with
            outbox := { s.outbox with beaconDue := false } }) ∧
    (s.outbox.control = [] → s.outbox.beaconDue = false → s.outbox.firstBeaconSent = true →
      s.outbox.ring = sent ++ e :: unsent → (∀ x ∈ sent, x.sent = true) → e.sent = false →
      exec .transmitStart s = .next (sends .ring e.frame)) ∧
    (s.outbox.control = [] → s.outbox.beaconDue = false →
      s.outbox.firstBeaconSent = false ∨ (∀ x ∈ s.outbox.ring, x.sent = true) →
      exec .transmitStart s = .next { s with line := { s.line with tx := .idle } }))

/-- A frame that went out whole: a Control List entry is removed, a beacon is the first sent, and a ring
frame becomes SENT and the last sequence sent. The failed attempts are 0, and the unit waits its 76 bit
times where another frame is ready. The rest is due: it comes into force, its timer at 0, where the stop bit
that has been read back ends (R134), half a bit time later (that the command leaves this half bit on the
line: the model's choice, assumption log 30). -/
def Obligations.ATransmissionCompletes : Prop :=
  (∀ l : LineUnit,
    let stopBit : Prop := ∃ r : Reading, l.reading = some r ∧ 304 ≤ r.periods
    (l.restDue = true → ¬ stopBit →
      l.settleRest = { l with rest := true, restPeriods := 0, restDue := false }) ∧
    (l.restDue = false ∨ stopBit → l.settleRest = l)) ∧
  (∀ (s : State) (source : TxSource) (frame : Frame) (n : Nat) (sent unsent : List RingEntry)
    (e : RingEntry), s.line.tx = .sending source frame n → s.running = true →
    let after (outbox : Outbox) (ready : Bool) : State :=
      { s with
        outbox := outbox
        line :=
          { s.line with
            tx := if ready then .waiting 76 none else .idle
            restDue := true
            restPeriods := if s.line.rest then 0 else s.line.restPeriods
            failed := 0
            idlePeriods := 0
            dominant := false
            reading :=
              if s.line.reading.any (fun (r : Reading) => decide (304 ≤ r.periods)) then s.line.reading
              else some ⟨304, []⟩
            rx := .ignoring
            complete := none } }
    let unsentWaits : Bool :=
      s.outbox.firstBeaconSent && s.outbox.ring.any (fun x => !x.sent)
    (source = .control →
      exec .transmitComplete s =
        .next
          (after { s.outbox with control := s.outbox.control.drop 1 }
            (decide (2 ≤ s.outbox.control.length) || s.outbox.beaconDue || unsentWaits))) ∧
    (source = .beacon →
      exec .transmitComplete s =
        .next
          (after
            { s.outbox with
              firstBeaconSent := true
              fresh := s.outbox.fresh && s.outbox.freshEnd.isSome }
            (!s.outbox.control.isEmpty || s.outbox.beaconDue ||
              s.outbox.ring.any (fun x => !x.sent)))) ∧
    (source = .ring → s.outbox.ring = sent ++ e :: unsent → (∀ x ∈ sent, x.sent = true) →
      e.sent = false →
      exec .transmitComplete s =
        .next
          (after
            { s.outbox with
              ring := sent ++ { e with sent := true } :: unsent
              lastSent := some frame.header.seq }
            (!s.outbox.control.isEmpty || s.outbox.beaconDue ||
              (s.outbox.firstBeaconSent && unsent.any (fun x => !x.sent))))))

/-- A readback mismatch: the frame is kept, a beacon due again, one failed attempt more, the rest in
force, and the unit waits. The sixteenth in a row raises E02 and silences: ACTIVE falls MUTE, CLOSED stops
speaking. The station's own receiver has the bit in progress at the level that was not sent: a recessive start
bit was a glitch, a dominant stop bit is a framing error, and recessive means that no other station holds the
pair; its own frame is not complete (DEDUCED, assumption log 32). And a frame with another last check byte is
no frame. -/
def Obligations.AReadbackMismatchIsAFailedAttempt : Prop :=
  (∀ (f : Frame) (b : Byte), f.wellFormed = true → f.bytes.getLast? ≠ some b →
    readFrame (f.bytes.dropLast ++ [b]) = none) ∧
  (∀ (s : State) (source : TxSource) (frame : Frame) (n : Nat),
     s.line.tx = .sending source frame n → s.speaking = true → s.SendingSound → s.RingSound →
     s.FailuresSound → s.ErrorsSound →
     let outbox : Outbox :=
       { s.outbox with
         beaconDue := if source = .beacon then true else s.outbox.beaconDue }
     let level : Bool := !s.drives
     let inStop : Bool := s.line.reading.any (fun r => decide (288 ≤ r.periods))
     let line (tx : TxState) : LineUnit :=
       { s.line with
         tx := tx, rest := true, restDue := false, restPeriods := 0, failed := s.line.failed + 1
         dominant := level && (inStop || s.line.dominant)
         reading :=
           match s.line.reading with
           | none => none
           | some r =>
             if 288 ≤ r.periods then if level then none else some r
             else if r.periods < 32 ∧ level = false then none
             else
               some
                 ⟨max r.periods (r.periods / 32 * 32 + 16),
                   r.levels.take (r.periods / 32) ++ [level]⟩
         rx := if inStop && level then .ignoring else s.line.rx
         complete := if s.line.complete = some frame.bytes then none else s.line.complete }
     (s.line.failed < 15 →
       exec .readbackMismatch s =
         .next
           { s with
             outbox := outbox
             line :=
               line
                 (.waiting 76
                   (if (line .off).busy = false ∧ 2432 ≤ s.line.idlePeriods then some 0 else none)) }) ∧
     (s.line.failed = 15 → s.assign.entries = [] →
       exec .readbackMismatch s =
         .next
           { s with
             outbox := { outbox with control := [], beaconDue := false, beaconTimer := none }
             line := line .off
             station :=
               { s.station with
                 state := if s.station.state = .active then .mute else s.station.state
                 errors := s.station.errors.put true .e02
                 closedSpeaking := false }
             panel := { s.panel with tone := s.alarmed .e02 } }))

/-! ### Results and the readout port -/

/-- An append stamps the course time, the counter and the lost count, and the record joins the end. A
full queue of 24 discards its oldest first, which raises the lost count for the next, up to 255, and
overtakes a transfer in REPLY or DONE whose latched record it was. Nothing else changes. -/
def Obligations.AnAppendStampsAndJoins : Prop :=
  ∀ (s : State) (c : ResultContents) (oldest : ResultRecord) (rest : List ResultRecord),
    let stamped : ResultRecord :=
      ⟨c.kind, c.reason, c.run, c.value, s.clock.courseTime, c.marks, c.gates, s.results.lost,
        s.results.counter⟩
    (s.results.records.length < 24 →
      s.append c =
        { s with
          results :=
            { s.results with
              records := s.results.records ++ [stamped], counter := s.results.counter + 1 } }) ∧
    (s.results.records = oldest :: rest → s.results.records.length = 24 → s.results.lost ≤ 255 →
      s.append c =
        { s with
          results :=
            { records := rest ++ [stamped]
              lost := if s.results.lost = 255 then 255 else s.results.lost + 1
              counter := s.results.counter + 1 }
          port :=
            { s.port with
              overtaken :=
                if (s.port.phase = .reply ∨ s.port.phase = .done) ∧
                    s.port.latchedSeq = some oldest.seq then
                  true
                else s.port.overtaken } })

/-- A transfer begins where XSEL falls in IDLE: COMMAND, with the queue's fill. The eighth edge latches
the reply by the command byte: the oldest record with the lost count as it stands and, for a NEXT, its
sequence; a NONE record where there is none or the byte is unknown; or the status. It ends where XSEL
rises: after the whole reply of a NEXT its record is removed and the lost count is 0, unless it was
overtaken or had no record; nothing else is ever removed, and an abort leaves the queue as it is. XRDY is
high in IDLE while the queue holds a record; XOUT shows the fill in COMMAND, the reply in REPLY, bit by bit
from the most significant, and is low otherwise; the command byte selects the command; and the sixteen bytes
of a record and of the status snapshot are laid out as the wire formats give (edges without rows and the
pin's level: the model's choice, assumption logs 12 and 13; that a word of 8 bits spells the command whose byte
it is: DEDUCED, assumption log 17). -/
def Obligations.ATransferLatchesAndEnds : Prop :=
  (∀ (s : State) (b : Byte) (r : ResultRecord) (rest : List ResultRecord), s.running = true →
     let latched (b : Byte) (reply : List Byte) (seq : Option Byte) : State :=
       { s with
         port :=
           { s.port with
             phase := .reply
             bits := 8
             shown := 8
             command := b
             latched := some reply
             latchedSeq := seq
             overtaken := false
             xclkHigh := true } }
     let none : ResultRecord :=
       ⟨.noRecord, .empty, 0, none, s.clock.courseTime, Marks.none, 0, s.results.lost,
         s.results.counter⟩
     (s.port.phase = .idle → s.port.xselLow = false →
       exec .xselFall s =
         .next
           { s with
             port :=
               { s.port with
                 phase := .command, fill := s.results.records.length, bits := 0, shown := 1
                 xselLow := true } }) ∧
     (s.port.phase = .command →
       (s.results.records = r :: rest →
         exec .next s =
           .next (latched 0x4E#8 (ResultRecord.bytes { r with lost := s.results.lost }) (some r.seq)) ∧
         exec .peek s =
           .next (latched 0x50#8 (ResultRecord.bytes { r with lost := s.results.lost }) .none)) ∧
       (s.results.records = [] →
         exec .next s = .next (latched 0x4E#8 none.bytes .none) ∧
         exec .peek s = .next (latched 0x50#8 none.bytes .none)) ∧
       exec .status s = .next (latched 0x53#8 s.statusReply .none) ∧
       (b ≠ 0x4E#8 → b ≠ 0x50#8 → b ≠ 0x53#8 →
         exec (.unknownCommand b) s = .next (latched b none.bytes .none)))) ∧
  (∀ (s : State) (r : ResultRecord) (rest : List ResultRecord), s.running = true →
     let ended : Port :=
       { s.port with
         phase := .idle, latched := none, latchedSeq := none, overtaken := false, xselLow := false }
     (s.port.phase = .reply →
       exec .replyShiftedOut s =
         .next
           { s with port := { s.port with phase := .done, bits := 136, shown := 136, xclkHigh := true } }) ∧
     (s.port.phase = .done → s.results.records = r :: rest → s.port.latchedSeq = some r.seq →
       s.port.overtaken = false →
       exec .transferComplete s =
         .next
           { s with results := { s.results with records := rest, lost := 0 }, port := ended }) ∧
     (s.port.phase = .done → s.port.latchedSeq = none ∨ s.port.overtaken = true →
       exec .transferComplete s = .next { s with port := ended }) ∧
     (s.port.phase = .command ∨ s.port.phase = .reply →
       exec .transferAbort s = .next { s with port := ended })) ∧
  (∀ (s : State) (reply : List Byte) (k : Nat),
     (s.xrdy = true ↔ s.running = true ∧ s.port.phase = .idle ∧ s.results.records ≠ []) ∧
     (s.port.phase = .idle ∨ s.port.phase = .done → s.xout = false) ∧
     (s.port.phase = .command → s.port.shown = k → 1 ≤ k → k ≤ 8 →
       s.xout = (BitVec.ofNat 8 s.port.fill).getLsbD (8 - k)) ∧
     (s.port.phase = .reply → s.port.latched = some reply → s.port.shown = 8 + k → 1 ≤ k → k ≤ 128 →
       s.xout = (reply.getD ((k - 1) / 8) 0#8).getLsbD (7 - (k - 1) % 8)) ∧
     portCommand 0x4E#8 = .next ∧ portCommand 0x50#8 = .peek ∧ portCommand 0x53#8 = .status ∧
     (∀ b : Byte, b ≠ 0x4E#8 → b ≠ 0x50#8 → b ≠ 0x53#8 → portCommand b = .unknownCommand b) ∧
     (∀ b : Byte, decodeTableWord 8 b.toNat = some (portCommand b))) ∧
  (∀ r : ResultRecord,
     let b (i : Nat) : Byte := r.bytes.getD (i - 1) 0#8
     r.bytes.length = 16 ∧
     b 1 =
       (match r.kind with
         | .finished => 1#8
         | .dnf => 2#8
         | .void => 3#8
         | .correction => 4#8
         | .stray => 5#8
         | .dropped => 6#8
         | .linkLoss => 7#8
         | .session => 8#8
         | .closed => 9#8
         | .noRecord => 15#8) ∧
     (r.reason = .empty → b 2 = 0#8) ∧ (r.reason = .newState .finished → b 2 = 1#8) ∧
     (r.reason = .newState .void → b 2 = 3#8) ∧
     (∀ n, r.reason = .station n → b 2 = BitVec.ofNat 8 n) ∧
     (∀ x, r.reason = .stray x →
       b 2 =
         (match x with
           | .noRun => 1#8
           | .held => 2#8
           | .mute => 3#8
           | .closed => 4#8
           | .outboxFull => 5#8
           | .runLimit => 6#8
           | .tableFull => 7#8
           | .displaced => 8#8)) ∧
     word16 (b 3) (b 4) = BitVec.ofNat 16 r.run ∧
     word32 (b 5) (b 6) (b 7) (b 8) =
       (match r.value with
         | some v => BitVec.ofNat 32 v
         | none => 0xFFFFFFFF#32) ∧
     word32 (b 9) (b 10) (b 11) (b 12) = BitVec.ofNat 32 r.courseTime ∧
     (b 13).getLsbD 0 = r.marks.manualStart ∧ (b 13).getLsbD 1 = r.marks.learned ∧
     (b 13).getLsbD 2 = r.marks.stepped ∧ (b 13).getLsbD 3 = r.marks.corrected ∧
     (b 13).getLsbD 4 = r.marks.disturbed ∧ (b 13).getLsbD 5 = r.marks.late ∧
     (b 13).getLsbD 6 = r.marks.manual ∧ (b 13).getLsbD 7 = false ∧
     b 14 = BitVec.ofNat 8 r.gates ∧ b 15 = BitVec.ofNat 8 r.lost ∧ b 16 = r.seq) ∧
  (∀ s : State,
     let b (i : Nat) : Byte := s.statusReply.getD (i - 1) 0#8
     s.statusReply.length = 16 ∧ b 1 = 0x10#8 ∧ b 2 = s.stationByte ∧
     b 3 =
       (match s.station.state with
         | .reset => 0#8
         | .configFault => 1#8
         | .listening => 2#8
         | .active => 3#8
         | .mute => 4#8
         | .closed => 5#8) ∧
     word16 (b 4) (b 5) = s.epoch ∧
     word32 (b 6) (b 7) (b 8) (b 9) = BitVec.ofNat 32 s.clock.courseTime ∧
     (∀ i < 16,
       (b (10 + i / 4) >>> (6 - 2 * (i % 4))) &&& 3#8 =
         if i = s.number then 0#8
         else
           match (s.peer i).presence with
           | .unknown => 0#8
           | .present => 1#8
           | .silent => 2#8
           | .mismatch => 3#8) ∧
     (∀ c ∈ ErrorCode.all, (word16 (b 14) (b 15)).getLsbD (c.number - 1) = s.station.errors.has c) ∧
     (word16 (b 14) (b 15)) >>> 11 = 0#16 ∧
     (s.results.records.length ≤ 24 → (b 16) &&& 31#8 = BitVec.ofNat 8 s.results.records.length) ∧
     (s.results.records.length ≤ 24 →
       (b 16 >>> 5) &&& 3#8 =
         match s.station.cause with
         | .power => 1#8
         | .pin => 2#8
         | .clock => 3#8) ∧
     (s.results.records.length ≤ 24 → (b 16).getLsbD 7 = (s.isAssigner && s.assign.held)))

/-- A record that a NEXT latched is the one its completed transfer removes, whatever is appended between
the two in a queue that does not overflow: the others stay, in their order. -/
def Obligations.ACompletedNextRemovesWhatItLatched : Prop :=
  ∀ (s t u v : State) (r : ResultRecord) (rest : List ResultRecord) (l : List ResultContents),
    s.running = true → s.port.phase = .command → s.results.records = r :: rest →
    rest.length + 1 + l.length ≤ 24 →
    exec .next s = .next t → l.foldl State.append t = u → exec .replyShiftedOut u = .next v →
    ∃ w new, exec .transferComplete v = .next w ∧ w.results.records = rest ++ new ∧
      new.length = l.length ∧ w.results.lost = 0 ∧ w.port.phase = .idle

/-! ### Tones, errors, outputs -/

/-- A tone request starts its pattern at its first step, unless an ALARM plays and the request is another;
a raised code enters the pending set with the ALARM, and one already pending changes nothing. A tone is on in
the first step of each pattern and in the third of DOUBLE and REFUSE; TONE is then a square wave of 2000
crystal periods, high in the first half of its divider's cycle (the wave's phase: the model's choice,
assumption log 29), and low while no tone is on. The display
shows the first content whose condition holds: the lowest pending error, the RESULT hold, the RUN NUMBER
hold, and else course time; and it is dark in RESET. The six digits show each content as R181 gives: an
error as E and two figures, an elapsed time in minutes, seconds and hundredths or, from 6,000,000 ms on or
with none, as dashes, a run number right-aligned after r, and course time within its hour. -/
def Obligations.TonesErrorsAndTheDisplay : Prop :=
  (∀ (s : State) (p : Pattern) (c : ErrorCode) (t : TonePlay),
     let length : Nat :=
       match p with
       | .click => 50
       | .double => 100
       | .refuse => 50
       | .alarm => 500
     let plays : State :=
       { s with
         panel :=
           { s.panel with tone := some ⟨p, 0, s.clock.courseTime + s.clock.stopTicks + length⟩ } }
     (s.panel.tone = none → s.requestTone p = plays) ∧
     (s.panel.tone = some t → t.pattern = .alarm → p ≠ .alarm → s.requestTone p = s) ∧
     (s.panel.tone = some t → t.pattern ≠ .alarm ∨ p = .alarm → s.requestTone p = plays) ∧
     (s.station.errors.has c = true → s.raise c = s) ∧
     (s.station.errors.has c = false → p = .alarm →
       s.raise c = { plays with station := { s.station with errors := s.station.errors.put true c } })) ∧
  (∀ (s : State) (c : ErrorCode) (h : ResultHold) (g : RunHold),
     (s.running = false → s.display = .dark) ∧
     (s.running = true → s.station.errors.has c = true →
       (∀ d ∈ ErrorCode.all, s.station.errors.has d = true → c.number ≤ d.number) →
       s.display = .error c) ∧
     (s.running = true → (∀ d ∈ ErrorCode.all, s.station.errors.has d = false) →
       (s.panel.resultHold = some h → s.display = .result h.elapsed) ∧
       (s.panel.resultHold = none → s.panel.runHold = some g → s.display = .runNumber g.run) ∧
       (s.panel.resultHold = none → s.panel.runHold = none →
         s.display = .courseTime s.clock.courseTime))) ∧
  (∀ (s : State) (p : Pattern) (k e : Nat),
     (s.panel.tone = none → s.toneOn = false) ∧
     (s.panel.tone = some ⟨p, k, e⟩ →
       (s.toneOn = true ↔ k = 0 ∨ (k = 2 ∧ (p = .double ∨ p = .refuse)))) ∧
     s.tonePin = (s.toneOn && decide (s.panel.toneDivider < 1000))) ∧
  (∀ (m s c x h : Nat) (e : ErrorCode), m < 100 → s < 60 → c < 100 → x < 10 →
     let time := 60000 * m + 1000 * s + 10 * c + x
     let dashes := (List.replicate 6 Glyph.dash, false)
     DisplayContent.digits .dark = (List.replicate 6 .blank, false) ∧
     (DisplayContent.error e).digits =
       ([.blank, .blank, .blank, .letterE, .figure (e.number / 10), .figure (e.number % 10)],
         false) ∧
     (DisplayContent.result none).digits = dashes ∧
     (DisplayContent.result (some (6000000 + h))).digits = dashes ∧
     (DisplayContent.result (some time)).digits =
       ([if m < 10 then .blank else .figure (m / 10), .figure (m % 10), .figure (s / 10),
          .figure (s % 10), .figure (c / 10), .figure (c % 10)], true) ∧
     (m < 60 →
       (DisplayContent.courseTime (3600000 * h + time)).digits =
         ([.figure (m / 10), .figure (m % 10), .figure (s / 10), .figure (s % 10),
           .figure (c / 10), .figure (c % 10)], true)) ∧
     (∀ run ≤ 999,
       (DisplayContent.runNumber run).digits =
         ([.letterR, .blank, .blank, if run < 100 then .blank else .figure (run / 100),
           if run < 10 then .blank else .figure (run / 10 % 10), .figure (run % 10)], false)))

/-! ### Derived readings -/

/-- The state of a run: VOID over FINISHED over DNF over ON_COURSE. Its elapsed time: the finish split's
time minus the start time; none without a start time, and 0 for a finish that is not later. -/
def Obligations.TheStateAndTheTimeOfARun : Prop :=
  (∀ r : RunRecord,
     (r.voided = true → r.state = .void) ∧
     (r.voided = false → r.finish ≠ none → r.state = .finished) ∧
     (r.voided = false → r.finish = none → r.dnfed = true → r.state = .dnf) ∧
     (r.voided = false → r.finish = none → r.dnfed = false → r.state = .onCourse)) ∧
  (∀ (r : RunRecord) (f : Split) (st : Nat), r.finish = some f →
     (r.start = none → r.elapsed = none) ∧
     (r.start = some st → st < f.time → r.elapsed = some (f.time - st)) ∧
     (r.start = some st → f.time ≤ st → r.elapsed = some 0))

/-! ### Rules stated whole -/

/-- A RULING adds its verdict to the rulings of the run's record, once the record has been found or made,
and nothing else of the record's facts changes; one already there leaves the set. A record it makes is
LEARNED, with no start time and no splits, and VOID or DNF by its single ruling (R12). -/
def Obligations.ARulingJoinsTheRulings : Prop :=
  ∀ (s : State) (run : Nat) (v : Verdict) (r : RunRecord), s.TableSound →
    let t := (s.takeFact (.ruling run v)).1
    (r ∈ s.table.records → r.run = run →
      ∃ x ∈ t.table.records, x.run = run ∧ x.voided = (r.voided || decide (v = .void)) ∧
        x.dnfed = (r.dnfed || decide (v = .dnf)) ∧ x.start = r.start ∧ x.splits = r.splits ∧
        x.manualStart = r.manualStart ∧ x.learned = r.learned ∧ x.stepped = r.stepped ∧
        x.carriesStepped = r.carriesStepped) ∧
    ((∀ y ∈ s.table.records, y.run ≠ run) → s.table.floor < run → s.table.records.length < 48 →
      ∃ x ∈ t.table.records, x.run = run) ∧
    ((∀ y ∈ s.table.records, y.run ≠ run) → ∀ x ∈ t.table.records, x.run = run →
      x.learned = true ∧ x.start = none ∧ (∀ p ∈ x.splits, p = none) ∧
        (v = .void → x.voided = true ∧ x.dnfed = false ∧ x.state = .void) ∧
        (v = .dnf → x.voided = false ∧ x.dnfed = true ∧ x.state = .dnf))

/-- A beacon of station 0 whose content is taken, not one of an older epoch, makes the snapshot: taken,
with its highest and its oldest run, each held as 0 above 999. At stations 1 to N−1 it releases HELD
where its oldest run allows: HELD that stands after it stands because that run lies below the boundary or
above 999, and is not 0. One that raises the epoch does this after the session change (R113). The release
is taken after the carried time, whose retries may set HELD (DEDUCED, assumption log 9). -/
def Obligations.StationZerosBeaconMakesTheSnapshot : Prop :=
  ∀ (s : State) (h : Header) (b : BeaconPayload) (oldest : Word16),
    s.Hears h → h.seq = 0#8 → h.station = 0#8 → b.gateCount.toNat = s.gates →
    b.oldest = some oldest →
    ∃ t, exec (.receiveBeacon h b) s = .next t ∧
      t.receiver.snapshot =
        (if s.onCourse = true ∧ h.epoch < s.epoch then s.receiver.snapshot
         else
          { taken := true
            highest := if b.highest.toNat ≤ 999 then b.highest.toNat else 0
            oldest := if oldest.toNat ≤ 999 then oldest.toNat else 0 }) ∧
      (s.isAssigner = true → s.onCourse = true → s.epoch ≤ h.epoch → t.assign.held = true →
        oldest.toNat ≠ 0 ∧ ¬ (t.assign.boundary ≤ oldest.toNat ∧ oldest.toNat ≤ 999)) ∧
      (s.onCourse = true → s.epoch < h.epoch →
        t.epoch = h.epoch ∧ t.table.records = [] ∧ t.assign.entries = [])

/-- The close and a silencing error fall together in ACTIVE: a sixteenth failed attempt (E02) or a frame
with this station's number (E01) beside the tick that reaches the limit. Whichever is taken first, the
station ends CLOSED and not speaking, with both codes pending, its beacon timer stopped and its Control
List empty, and one CLOSED result; the pending crossings have left as STRAY CLOSED where the close came
first, and as STRAY MUTE where the error did (R154). The CLOSED result stands after the STRAY CLOSED ones
(DEDUCED, assumption log 11). -/
def Obligations.TheCloseMeetsASilencingError : Prop :=
  ∀ (s : State) (c : Instr) (code : ErrorCode) (f : Frame) (source : TxSource) (n : Nat),
    s.isActive = true → s.clock.courseTime + 1 = 86400000 → s.clock.stopTicks = 0 →
    (∀ e ∈ s.assign.entries, 86400000 < e.deadline) → (∀ p ∈ s.receiver.peers, p.missing = []) →
    s.results.records.length + s.assign.entries.length + 1 ≤ 24 →
    (c = .readbackMismatch ∧ code = .e02 ∧ s.line.failed = 15 ∧
        s.line.tx = .sending source f n) ∨
      (c = frameCommand f ∧ code = .e01 ∧ s.sending = false ∧ f.wellFormed = true ∧
        f.header.station = s.stationByte) →
    let ends (t : State) (reason : StrayReason) : Prop :=
      t.station.state = .closed ∧ t.speaking = false ∧ t.station.errors.has code = true ∧
        t.station.errors.e10 = true ∧ t.outbox.control = [] ∧ t.outbox.beaconTimer = none ∧
        t.line.tx = .off ∧
        (t.results.records.drop s.results.records.length).map
            (fun r => (r.kind, r.reason, r.value)) =
          s.assign.entries.map (fun e => (ResultKind.stray, Reason.stray reason, some e.time)) ++
            [(.closed, .empty, some s.epoch.toNat)]
    (∃ u, exec .millisecondTick s = .next u ∧ u.station.state = .closed ∧ ∃ t,
      exec c u = .next t ∧ ends t .closed) ∧
    (∃ u, exec c s = .next u ∧ u.station.state = .mute ∧ ∃ t,
      exec .millisecondTick u = .next t ∧ ends t .mute)

/-- The indicators. SYNC is lit in ACTIVE and CLOSED while a peer is PRESENT, and goes dark with the last
that falls SILENT; RUN while a run is on course, HELD while HELD is set, ERR while an error is pending; a
session change darkens RUN and HELD; in CONFIG FAULT ERR is lit by E03 and the others are dark; in RESET
all are (R182). -/
def Obligations.TheIndicatorsFollowTheirConditions : Prop :=
  ∀ (s : State) (peer : Nat) (p : Fin 16),
    (s.syncLit = true ↔
      (s.station.state = .active ∨ s.station.state = .closed) ∧
        ∃ x ∈ s.receiver.peers, x.presence = .present) ∧
    (s.running = true →
      (s.runLit = true ↔ ∃ r ∈ s.table.records, r.state = .onCourse) ∧
      (s.heldLit = true ↔ s.assign.held = true) ∧
      (s.errLit = true ↔ ∃ c ∈ ErrorCode.all, s.station.errors.has c = true)) ∧
    (s.running = false →
      s.syncLit = false ∧ s.runLit = false ∧ s.heldLit = false ∧ s.errLit = false) ∧
    (s.station.state = .configFault → s.ErrorsSound → s.TableSound → s.AssignSound →
      s.errLit = true ∧ s.syncLit = false ∧ s.runLit = false ∧ s.heldLit = false) ∧
    ((s.changeSession peer).runLit = false ∧ (s.changeSession peer).heldLit = false) ∧
    (s.receiver.peers.length = 16 → s.silenceDue (s.peer p.val) = true →
      (∀ i < 16, i ≠ p.val → (s.peer i).presence ≠ .present) →
      ∃ t, exec (.peerSilent p) s = .next t ∧ t.syncLit = false)

/-! ### Whole-station rules -/

/-- The state after reset meets every predicate that the station keeps. -/
def Obligations.ResetIsSound : Prop :=
  State.reset.ClockSound ∧ State.reset.ModeSound ∧ State.reset.ErrorsSound ∧
  State.reset.SpeakingSound ∧ State.reset.ResetHeld ∧ State.reset.TableSound ∧
  State.reset.CounterSound ∧ State.reset.AssignSound ∧ State.reset.RingSound ∧
  State.reset.ControlSound ∧ State.reset.PeersSound ∧ State.reset.OwnEntrySound ∧
  State.reset.QueueSound ∧ State.reset.FailuresSound ∧ State.reset.SendingSound ∧
  State.reset.LineSettled

/-- Every step keeps course time within its bounds, the mode one that the straps and the epoch allow, and
RESET's state empty. -/
def Obligations.StepsKeepClockModeAndReset : Prop :=
  ∀ s t : State, step s = .next t →
    (s.ClockSound → t.ClockSound) ∧ (s.ModeSound → t.ModeSound) ∧ (s.ResetHeld → t.ResetHeld)

/-- Every step keeps the pending errors those that the mode allows, speaking and the transmit state
together, and the failed attempts below sixteen until E02. -/
def Obligations.StepsKeepErrorsAndSpeaking : Prop :=
  ∀ s t : State, s.ResetHeld → s.ModeSound → s.SpeakingSound → s.ErrorsSound → s.FailuresSound →
    step s = .next t → t.ErrorsSound ∧ t.SpeakingSound ∧ t.FailuresSound

/-- Every step keeps the Run Table: at most 48 records in ascending run number, each reporting its
settled state, and station 0's counter above every run. -/
def Obligations.StepsKeepTheRunTable : Prop :=
  ∀ s t : State, s.ResetHeld → s.TableSound → s.CounterSound → step s = .next t →
    t.TableSound ∧ t.CounterSound

/-- Every step keeps the Pending Crossing List: at most 8 entries in ascending time, and none outside
ACTIVE or while HELD is set. -/
def Obligations.StepsKeepThePendingCrossings : Prop :=
  ∀ s t : State, s.ResetHeld → s.AssignSound → step s = .next t → t.AssignSound

/-- Every step keeps the Outbox: at most 32 own frames in the ring, numbered without a gap, SENT before
UNSENT; at most 6 Control List entries, no two alike; and a frame on the line that stands there. -/
def Obligations.StepsKeepTheOutbox : Prop :=
  ∀ s t : State, s.ResetHeld → s.SpeakingSound → s.RingSound → s.ControlSound → s.SendingSound →
    s.LineSettled → step s = .next t →
    t.RingSound ∧ t.ControlSound ∧ t.SendingSound ∧ t.LineSettled

/-- Every step keeps the Peer Table: sixteen peers, Missing Lists of at most 8 distinct sequences and 3
attempts, a silence timer for PRESENT peers alone, and the station's own entry at reset. -/
def Obligations.StepsKeepThePeerTable : Prop :=
  ∀ s t : State, s.ResetHeld → s.PeersSound → s.OwnEntrySound → step s = .next t →
    t.PeersSound ∧ t.OwnEntrySound

/-- Every step keeps the Result Queue: at most 24 records, numbered without a gap, in the order of their
course times. -/
def Obligations.StepsKeepTheResultQueue : Prop :=
  ∀ s t : State, s.ClockSound → s.QueueSound → step s = .next t → t.QueueSound

/-- Course time, the epoch and, within an epoch, the eviction floor never go back, whatever command a
step takes but the assertion of reset. -/
def Obligations.TimeEpochAndFloorNeverGoBack : Prop :=
  ∀ s t : State, (∀ c rest, s.pending = c :: rest → resets c = false) → step s = .next t →
    s.clock.courseTime ≤ t.clock.courseTime ∧ s.epoch ≤ t.epoch ∧
      (s.epoch = t.epoch → s.table.floor ≤ t.table.floor)

/-- Facts taken in any order leave a record with the same rulings, filled slots, MANUAL START mark and
state, the same run and LEARNED mark, and the STEPPED mark, and whether the run carries it, as they were before
the facts. -/
def Obligations.FactsInAnyOrderGiveTheSameRun : Prop :=
  ∀ (r : RunRecord) (l m : List Fact), l.Perm m →
    let a := l.foldl RunRecord.take r
    let b := m.foldl RunRecord.take r
    a.voided = b.voided ∧ a.dnfed = b.dnfed ∧ a.manualStart = b.manualStart ∧
      a.splits.map Option.isSome = b.splits.map Option.isSome ∧
      a.start.isSome = b.start.isSome ∧ a.state = b.state ∧ a.run = b.run ∧
      a.learned = b.learned ∧ a.stepped = b.stepped ∧ a.carriesStepped = b.carriesStepped ∧
      a.stepped = r.stepped ∧ a.carriesStepped = r.carriesStepped

/-- A record that a step keeps holds its run's state or a later one of DNF, FINISHED, VOID, and keeps its
start time, its filled slots, its rulings and its marks; one that is gone was evicted, with the floor at or
above it, or went with the session or at reset. -/
def Obligations.RunsOnlyMoveUpward : Prop :=
  ∀ (s t : State) (r : RunRecord), s.TableSound → s.CounterSound → s.ResetHeld →
    step s = .next t → r ∈ s.table.records →
    (∃ x ∈ t.table.records, x.run = r.run ∧ RunState.rank r.state ≤ RunState.rank x.state ∧
        (r.start ≠ none → x.start = r.start) ∧
        (∀ g p, r.splits.getD g none = some p → x.splits.getD g none = some p) ∧
        (r.voided = true → x.voided = true) ∧ (r.dnfed = true → x.dnfed = true) ∧
        (r.manualStart = true → x.manualStart = true) ∧
        (r.stepped = true → x.stepped = true) ∧
        (r.carriesStepped = true → x.carriesStepped = true) ∧
        (r.corrected = true → x.corrected = true) ∧ x.learned = r.learned) ∨
      ((∀ x ∈ t.table.records, x.run ≠ r.run) ∧ r.run ≤ t.table.floor) ∨
      s.epoch < t.epoch ∨ t.station.state = .reset

/-- A well-formed frame's bytes read back as the frame, for every kind and every value of its fields; and
no other frame has its bytes. -/
def Obligations.FramesReadBack : Prop :=
  ∀ f g : Frame, f.wellFormed = true →
    readFrame f.bytes = some f ∧ (g.wellFormed = true → g.bytes = f.bytes → g = f)
end

