-- ==== Sys2Proof/Laws/State.lean ====
section
/-! SUPPORT. What the shared operations of Sys2Proof/Machine/Ops.lean leave as it was: one frame lemma each, and
the same for the plain updates of State, so that no proof unfolds a record update. -/

set_option linter.unusedTactic false
set_option linter.unreachableTactic false
namespace Sys2Proof.Machine

/-- What `State.append` leaves as it was. -/
@[simp] theorem State.append_frame (s : State) (c : ResultContents) :
    (s.append c).clock = s.clock ∧ (s.append c).gate = s.gate ∧ (s.append c).table = s.table ∧
    (s.append c).assign = s.assign ∧ (s.append c).epoch = s.epoch ∧ (s.append c).outbox = s.outbox ∧
    (s.append c).receiver = s.receiver ∧ (s.append c).line = s.line ∧
    (s.append c).port.phase = s.port.phase ∧ (s.append c).port.fill = s.port.fill ∧
    (s.append c).port.bits = s.port.bits ∧ (s.append c).port.command = s.port.command ∧
    (s.append c).port.latched = s.port.latched ∧ (s.append c).port.latchedSeq = s.port.latchedSeq ∧
    (s.append c).port.xselLow = s.port.xselLow ∧ (s.append c).port.shown = s.port.shown ∧
    (s.append c).port.xclkHigh = s.port.xclkHigh ∧ (s.append c).panel = s.panel ∧
    (s.append c).station = s.station ∧ (s.append c).freeIndex = s.freeIndex ∧
    (s.append c).pending = s.pending ∧ (s.append c).number = s.number ∧
    (s.append c).gates = s.gates ∧ (s.append c).stationByte = s.stationByte ∧
    (s.append c).isGateStation = s.isGateStation ∧ (s.append c).isAssigner = s.isAssigner ∧
    (s.append c).isFinish = s.isFinish ∧ (s.append c).receives = s.receives ∧
    (s.append c).onCourse = s.onCourse ∧ (s.append c).isActive = s.isActive ∧
    (s.append c).running = s.running ∧ (s.append c).speaking = s.speaking ∧
    (s.append c).sending = s.sending ∧ (s.append c).now = s.now := by
  unfold State.append
  try dsimp only
  repeat' split
  all_goals first | (simp; done) | (and_intros <;> first | rfl | (simp; done) | (simp; rfl))

/-- What `State.stray` leaves as it was. -/
@[simp] theorem State.stray_frame (s : State) (r : StrayReason) (t : Nat) (m : Bool) :
    (s.stray r t m).clock = s.clock ∧ (s.stray r t m).gate = s.gate ∧
    (s.stray r t m).table = s.table ∧ (s.stray r t m).assign = s.assign ∧
    (s.stray r t m).epoch = s.epoch ∧ (s.stray r t m).outbox = s.outbox ∧
    (s.stray r t m).receiver = s.receiver ∧ (s.stray r t m).line = s.line ∧
    (s.stray r t m).port.phase = s.port.phase ∧ (s.stray r t m).port.fill = s.port.fill ∧
    (s.stray r t m).port.bits = s.port.bits ∧ (s.stray r t m).port.command = s.port.command ∧
    (s.stray r t m).port.latched = s.port.latched ∧
    (s.stray r t m).port.latchedSeq = s.port.latchedSeq ∧
    (s.stray r t m).port.xselLow = s.port.xselLow ∧ (s.stray r t m).port.shown = s.port.shown ∧
    (s.stray r t m).port.xclkHigh = s.port.xclkHigh ∧ (s.stray r t m).panel = s.panel ∧
    (s.stray r t m).station = s.station ∧ (s.stray r t m).freeIndex = s.freeIndex ∧
    (s.stray r t m).pending = s.pending ∧ (s.stray r t m).number = s.number ∧
    (s.stray r t m).gates = s.gates ∧ (s.stray r t m).stationByte = s.stationByte ∧
    (s.stray r t m).isGateStation = s.isGateStation ∧ (s.stray r t m).isAssigner = s.isAssigner ∧
    (s.stray r t m).isFinish = s.isFinish ∧ (s.stray r t m).receives = s.receives ∧
    (s.stray r t m).onCourse = s.onCourse ∧ (s.stray r t m).isActive = s.isActive ∧
    (s.stray r t m).running = s.running ∧ (s.stray r t m).speaking = s.speaking ∧
    (s.stray r t m).sending = s.sending ∧ (s.stray r t m).now = s.now := by
  unfold State.stray
  first | (simp; done) | (and_intros <;> first | rfl | (simp; done) | (simp; rfl))

/-- What `State.strays` leaves as it was. -/
@[simp] theorem State.strays_frame (s : State) (r : StrayReason) (l : List PendingEntry) :
    (s.strays r l).clock = s.clock ∧ (s.strays r l).gate = s.gate ∧ (s.strays r l).table = s.table ∧
    (s.strays r l).assign = s.assign ∧ (s.strays r l).epoch = s.epoch ∧
    (s.strays r l).outbox = s.outbox ∧ (s.strays r l).receiver = s.receiver ∧
    (s.strays r l).line = s.line ∧ (s.strays r l).port.phase = s.port.phase ∧
    (s.strays r l).port.fill = s.port.fill ∧ (s.strays r l).port.bits = s.port.bits ∧
    (s.strays r l).port.command = s.port.command ∧ (s.strays r l).port.latched = s.port.latched ∧
    (s.strays r l).port.latchedSeq = s.port.latchedSeq ∧
    (s.strays r l).port.xselLow = s.port.xselLow ∧ (s.strays r l).port.shown = s.port.shown ∧
    (s.strays r l).port.xclkHigh = s.port.xclkHigh ∧ (s.strays r l).panel = s.panel ∧
    (s.strays r l).station = s.station ∧ (s.strays r l).freeIndex = s.freeIndex ∧
    (s.strays r l).pending = s.pending ∧ (s.strays r l).number = s.number ∧
    (s.strays r l).gates = s.gates ∧ (s.strays r l).stationByte = s.stationByte ∧
    (s.strays r l).isGateStation = s.isGateStation ∧ (s.strays r l).isAssigner = s.isAssigner ∧
    (s.strays r l).isFinish = s.isFinish ∧ (s.strays r l).receives = s.receives ∧
    (s.strays r l).onCourse = s.onCourse ∧ (s.strays r l).isActive = s.isActive ∧
    (s.strays r l).running = s.running ∧ (s.strays r l).speaking = s.speaking ∧
    (s.strays r l).sending = s.sending ∧ (s.strays r l).now = s.now := by
  induction l generalizing s with
  | nil => simp [State.strays]
  | cons x xs ih => simp [State.strays, ih]

/-- What `State.playTone` leaves as it was. -/
@[simp] theorem State.playTone_frame (s : State) (p : Pattern) :
    (s.playTone p).clock = s.clock ∧ (s.playTone p).gate = s.gate ∧ (s.playTone p).table = s.table ∧
    (s.playTone p).assign = s.assign ∧ (s.playTone p).epoch = s.epoch ∧
    (s.playTone p).outbox = s.outbox ∧ (s.playTone p).receiver = s.receiver ∧
    (s.playTone p).line = s.line ∧ (s.playTone p).results = s.results ∧
    (s.playTone p).port = s.port ∧ (s.playTone p).panel.trip = s.panel.trip ∧
    (s.playTone p).panel.void = s.panel.void ∧ (s.playTone p).panel.dnf = s.panel.dnf ∧
    (s.playTone p).panel.ack = s.panel.ack ∧ (s.playTone p).panel.voidHold = s.panel.voidHold ∧
    (s.playTone p).panel.dnfHold = s.panel.dnfHold ∧
    (s.playTone p).panel.comboRunning = s.panel.comboRunning ∧
    (s.playTone p).panel.comboCount = s.panel.comboCount ∧
    (s.playTone p).panel.resultHold = s.panel.resultHold ∧
    (s.playTone p).panel.runHold = s.panel.runHold ∧
    (s.playTone p).panel.divider = s.panel.divider ∧
    (s.playTone p).panel.toneDivider = s.panel.toneDivider ∧ (s.playTone p).station = s.station ∧
    (s.playTone p).freeIndex = s.freeIndex ∧ (s.playTone p).pending = s.pending ∧
    (s.playTone p).number = s.number ∧ (s.playTone p).gates = s.gates ∧
    (s.playTone p).stationByte = s.stationByte ∧ (s.playTone p).isGateStation = s.isGateStation ∧
    (s.playTone p).isAssigner = s.isAssigner ∧ (s.playTone p).isFinish = s.isFinish ∧
    (s.playTone p).receives = s.receives ∧ (s.playTone p).onCourse = s.onCourse ∧
    (s.playTone p).isActive = s.isActive ∧ (s.playTone p).running = s.running ∧
    (s.playTone p).speaking = s.speaking ∧ (s.playTone p).sending = s.sending ∧
    (s.playTone p).now = s.now := by
  and_intros <;> rfl

/-- What `State.requestTone` leaves as it was. -/
@[simp] theorem State.requestTone_frame (s : State) (p : Pattern) :
    (s.requestTone p).clock = s.clock ∧ (s.requestTone p).gate = s.gate ∧
    (s.requestTone p).table = s.table ∧ (s.requestTone p).assign = s.assign ∧
    (s.requestTone p).epoch = s.epoch ∧ (s.requestTone p).outbox = s.outbox ∧
    (s.requestTone p).receiver = s.receiver ∧ (s.requestTone p).line = s.line ∧
    (s.requestTone p).results = s.results ∧ (s.requestTone p).port = s.port ∧
    (s.requestTone p).panel.trip = s.panel.trip ∧ (s.requestTone p).panel.void = s.panel.void ∧
    (s.requestTone p).panel.dnf = s.panel.dnf ∧ (s.requestTone p).panel.ack = s.panel.ack ∧
    (s.requestTone p).panel.voidHold = s.panel.voidHold ∧
    (s.requestTone p).panel.dnfHold = s.panel.dnfHold ∧
    (s.requestTone p).panel.comboRunning = s.panel.comboRunning ∧
    (s.requestTone p).panel.comboCount = s.panel.comboCount ∧
    (s.requestTone p).panel.resultHold = s.panel.resultHold ∧
    (s.requestTone p).panel.runHold = s.panel.runHold ∧
    (s.requestTone p).panel.divider = s.panel.divider ∧
    (s.requestTone p).panel.toneDivider = s.panel.toneDivider ∧
    (s.requestTone p).station = s.station ∧ (s.requestTone p).freeIndex = s.freeIndex ∧
    (s.requestTone p).pending = s.pending ∧ (s.requestTone p).number = s.number ∧
    (s.requestTone p).gates = s.gates ∧ (s.requestTone p).stationByte = s.stationByte ∧
    (s.requestTone p).isGateStation = s.isGateStation ∧
    (s.requestTone p).isAssigner = s.isAssigner ∧ (s.requestTone p).isFinish = s.isFinish ∧
    (s.requestTone p).receives = s.receives ∧ (s.requestTone p).onCourse = s.onCourse ∧
    (s.requestTone p).isActive = s.isActive ∧ (s.requestTone p).running = s.running ∧
    (s.requestTone p).speaking = s.speaking ∧ (s.requestTone p).sending = s.sending ∧
    (s.requestTone p).now = s.now := by
  unfold State.requestTone
  try dsimp only
  repeat' split
  all_goals first | (simp; done) | (and_intros <;> first | rfl | (simp; done) | (simp; rfl))

/-- What `State.raise` leaves as it was. -/
@[simp] theorem State.raise_frame (s : State) (c : ErrorCode) :
    (s.raise c).clock = s.clock ∧ (s.raise c).gate = s.gate ∧ (s.raise c).table = s.table ∧
    (s.raise c).assign = s.assign ∧ (s.raise c).epoch = s.epoch ∧ (s.raise c).outbox = s.outbox ∧
    (s.raise c).receiver = s.receiver ∧ (s.raise c).line = s.line ∧
    (s.raise c).results = s.results ∧ (s.raise c).port = s.port ∧
    (s.raise c).panel.trip = s.panel.trip ∧ (s.raise c).panel.void = s.panel.void ∧
    (s.raise c).panel.dnf = s.panel.dnf ∧ (s.raise c).panel.ack = s.panel.ack ∧
    (s.raise c).panel.voidHold = s.panel.voidHold ∧ (s.raise c).panel.dnfHold = s.panel.dnfHold ∧
    (s.raise c).panel.comboRunning = s.panel.comboRunning ∧
    (s.raise c).panel.comboCount = s.panel.comboCount ∧
    (s.raise c).panel.resultHold = s.panel.resultHold ∧
    (s.raise c).panel.runHold = s.panel.runHold ∧ (s.raise c).panel.divider = s.panel.divider ∧
    (s.raise c).panel.toneDivider = s.panel.toneDivider ∧
    (s.raise c).station.state = s.station.state ∧ (s.raise c).station.cause = s.station.cause ∧
    (s.raise c).station.straps = s.station.straps ∧
    (s.raise c).station.listenCount = s.station.listenCount ∧
    (s.raise c).station.closedSpeaking = s.station.closedSpeaking ∧
    (s.raise c).freeIndex = s.freeIndex ∧ (s.raise c).pending = s.pending ∧
    (s.raise c).number = s.number ∧ (s.raise c).gates = s.gates ∧
    (s.raise c).stationByte = s.stationByte ∧ (s.raise c).isGateStation = s.isGateStation ∧
    (s.raise c).isAssigner = s.isAssigner ∧ (s.raise c).isFinish = s.isFinish ∧
    (s.raise c).receives = s.receives ∧ (s.raise c).onCourse = s.onCourse ∧
    (s.raise c).isActive = s.isActive ∧ (s.raise c).running = s.running ∧
    (s.raise c).speaking = s.speaking ∧ (s.raise c).sending = s.sending ∧
    (s.raise c).now = s.now := by
  unfold State.raise
  try dsimp only
  repeat' split
  all_goals first | (simp; done) | (and_intros <;> first | rfl | (simp; done) | (simp; rfl))

/-- What `State.clearError` leaves as it was. -/
@[simp] theorem State.clearError_frame (s : State) (c : ErrorCode) :
    (s.clearError c).clock = s.clock ∧ (s.clearError c).gate = s.gate ∧
    (s.clearError c).table = s.table ∧ (s.clearError c).assign = s.assign ∧
    (s.clearError c).epoch = s.epoch ∧ (s.clearError c).outbox = s.outbox ∧
    (s.clearError c).receiver = s.receiver ∧ (s.clearError c).line = s.line ∧
    (s.clearError c).results = s.results ∧ (s.clearError c).port = s.port ∧
    (s.clearError c).panel = s.panel ∧ (s.clearError c).station.state = s.station.state ∧
    (s.clearError c).station.cause = s.station.cause ∧
    (s.clearError c).station.straps = s.station.straps ∧
    (s.clearError c).station.listenCount = s.station.listenCount ∧
    (s.clearError c).station.closedSpeaking = s.station.closedSpeaking ∧
    (s.clearError c).freeIndex = s.freeIndex ∧ (s.clearError c).pending = s.pending ∧
    (s.clearError c).number = s.number ∧ (s.clearError c).gates = s.gates ∧
    (s.clearError c).stationByte = s.stationByte ∧
    (s.clearError c).isGateStation = s.isGateStation ∧ (s.clearError c).isAssigner = s.isAssigner ∧
    (s.clearError c).isFinish = s.isFinish ∧ (s.clearError c).receives = s.receives ∧
    (s.clearError c).onCourse = s.onCourse ∧ (s.clearError c).isActive = s.isActive ∧
    (s.clearError c).running = s.running ∧ (s.clearError c).speaking = s.speaking ∧
    (s.clearError c).sending = s.sending ∧ (s.clearError c).now = s.now := by
  and_intros <;> rfl

/-- What `State.endToneStep` leaves as it was. -/
@[simp] theorem State.endToneStep_frame (s : State) :
    s.endToneStep.clock = s.clock ∧ s.endToneStep.gate = s.gate ∧ s.endToneStep.table = s.table ∧
    s.endToneStep.assign = s.assign ∧ s.endToneStep.epoch = s.epoch ∧
    s.endToneStep.outbox = s.outbox ∧ s.endToneStep.receiver = s.receiver ∧
    s.endToneStep.line = s.line ∧ s.endToneStep.results = s.results ∧ s.endToneStep.port = s.port ∧
    s.endToneStep.panel.trip = s.panel.trip ∧ s.endToneStep.panel.void = s.panel.void ∧
    s.endToneStep.panel.dnf = s.panel.dnf ∧ s.endToneStep.panel.ack = s.panel.ack ∧
    s.endToneStep.panel.voidHold = s.panel.voidHold ∧
    s.endToneStep.panel.dnfHold = s.panel.dnfHold ∧
    s.endToneStep.panel.comboRunning = s.panel.comboRunning ∧
    s.endToneStep.panel.comboCount = s.panel.comboCount ∧
    s.endToneStep.panel.resultHold = s.panel.resultHold ∧
    s.endToneStep.panel.runHold = s.panel.runHold ∧ s.endToneStep.panel.divider = s.panel.divider ∧
    s.endToneStep.panel.toneDivider = s.panel.toneDivider ∧ s.endToneStep.station = s.station ∧
    s.endToneStep.freeIndex = s.freeIndex ∧ s.endToneStep.pending = s.pending ∧
    s.endToneStep.number = s.number ∧ s.endToneStep.gates = s.gates ∧
    s.endToneStep.stationByte = s.stationByte ∧ s.endToneStep.isGateStation = s.isGateStation ∧
    s.endToneStep.isAssigner = s.isAssigner ∧ s.endToneStep.isFinish = s.isFinish ∧
    s.endToneStep.receives = s.receives ∧ s.endToneStep.onCourse = s.onCourse ∧
    s.endToneStep.isActive = s.isActive ∧ s.endToneStep.running = s.running ∧
    s.endToneStep.speaking = s.speaking ∧ s.endToneStep.sending = s.sending ∧
    s.endToneStep.now = s.now := by
  unfold State.endToneStep
  try dsimp only
  repeat' split
  all_goals first | (simp; done) | (and_intros <;> first | rfl | (simp; done) | (simp; rfl))

/-- What `State.holdRunNumber` leaves as it was. -/
@[simp] theorem State.holdRunNumber_frame (s : State) (r : Nat) :
    (s.holdRunNumber r).clock = s.clock ∧ (s.holdRunNumber r).gate = s.gate ∧
    (s.holdRunNumber r).table = s.table ∧ (s.holdRunNumber r).assign = s.assign ∧
    (s.holdRunNumber r).epoch = s.epoch ∧ (s.holdRunNumber r).outbox = s.outbox ∧
    (s.holdRunNumber r).receiver = s.receiver ∧ (s.holdRunNumber r).line = s.line ∧
    (s.holdRunNumber r).results = s.results ∧ (s.holdRunNumber r).port = s.port ∧
    (s.holdRunNumber r).panel.trip = s.panel.trip ∧ (s.holdRunNumber r).panel.void = s.panel.void ∧
    (s.holdRunNumber r).panel.dnf = s.panel.dnf ∧ (s.holdRunNumber r).panel.ack = s.panel.ack ∧
    (s.holdRunNumber r).panel.voidHold = s.panel.voidHold ∧
    (s.holdRunNumber r).panel.dnfHold = s.panel.dnfHold ∧
    (s.holdRunNumber r).panel.comboRunning = s.panel.comboRunning ∧
    (s.holdRunNumber r).panel.comboCount = s.panel.comboCount ∧
    (s.holdRunNumber r).panel.resultHold = s.panel.resultHold ∧
    (s.holdRunNumber r).panel.tone = s.panel.tone ∧
    (s.holdRunNumber r).panel.divider = s.panel.divider ∧
    (s.holdRunNumber r).panel.toneDivider = s.panel.toneDivider ∧
    (s.holdRunNumber r).station = s.station ∧ (s.holdRunNumber r).freeIndex = s.freeIndex ∧
    (s.holdRunNumber r).pending = s.pending ∧ (s.holdRunNumber r).number = s.number ∧
    (s.holdRunNumber r).gates = s.gates ∧ (s.holdRunNumber r).stationByte = s.stationByte ∧
    (s.holdRunNumber r).isGateStation = s.isGateStation ∧
    (s.holdRunNumber r).isAssigner = s.isAssigner ∧ (s.holdRunNumber r).isFinish = s.isFinish ∧
    (s.holdRunNumber r).receives = s.receives ∧ (s.holdRunNumber r).onCourse = s.onCourse ∧
    (s.holdRunNumber r).isActive = s.isActive ∧ (s.holdRunNumber r).running = s.running ∧
    (s.holdRunNumber r).speaking = s.speaking ∧ (s.holdRunNumber r).sending = s.sending ∧
    (s.holdRunNumber r).now = s.now := by
  and_intros <;> rfl

/-- What `State.holdResult` leaves as it was. -/
@[simp] theorem State.holdResult_frame (s : State) (e : Option Nat) :
    (s.holdResult e).clock = s.clock ∧ (s.holdResult e).gate = s.gate ∧
    (s.holdResult e).table = s.table ∧ (s.holdResult e).assign = s.assign ∧
    (s.holdResult e).epoch = s.epoch ∧ (s.holdResult e).outbox = s.outbox ∧
    (s.holdResult e).receiver = s.receiver ∧ (s.holdResult e).line = s.line ∧
    (s.holdResult e).results = s.results ∧ (s.holdResult e).port = s.port ∧
    (s.holdResult e).panel.trip = s.panel.trip ∧ (s.holdResult e).panel.void = s.panel.void ∧
    (s.holdResult e).panel.dnf = s.panel.dnf ∧ (s.holdResult e).panel.ack = s.panel.ack ∧
    (s.holdResult e).panel.voidHold = s.panel.voidHold ∧
    (s.holdResult e).panel.dnfHold = s.panel.dnfHold ∧
    (s.holdResult e).panel.comboRunning = s.panel.comboRunning ∧
    (s.holdResult e).panel.comboCount = s.panel.comboCount ∧
    (s.holdResult e).panel.runHold = s.panel.runHold ∧ (s.holdResult e).panel.tone = s.panel.tone ∧
    (s.holdResult e).panel.divider = s.panel.divider ∧
    (s.holdResult e).panel.toneDivider = s.panel.toneDivider ∧
    (s.holdResult e).station = s.station ∧ (s.holdResult e).freeIndex = s.freeIndex ∧
    (s.holdResult e).pending = s.pending ∧ (s.holdResult e).number = s.number ∧
    (s.holdResult e).gates = s.gates ∧ (s.holdResult e).stationByte = s.stationByte ∧
    (s.holdResult e).isGateStation = s.isGateStation ∧ (s.holdResult e).isAssigner = s.isAssigner ∧
    (s.holdResult e).isFinish = s.isFinish ∧ (s.holdResult e).receives = s.receives ∧
    (s.holdResult e).onCourse = s.onCourse ∧ (s.holdResult e).isActive = s.isActive ∧
    (s.holdResult e).running = s.running ∧ (s.holdResult e).speaking = s.speaking ∧
    (s.holdResult e).sending = s.sending ∧ (s.holdResult e).now = s.now := by
  and_intros <;> rfl

/-- What `State.addControl` leaves as it was. -/
@[simp] theorem State.addControl_frame (s : State) (e : ControlEntry) :
    (s.addControl e).clock = s.clock ∧ (s.addControl e).gate = s.gate ∧
    (s.addControl e).table = s.table ∧ (s.addControl e).assign = s.assign ∧
    (s.addControl e).epoch = s.epoch ∧ (s.addControl e).outbox.ring = s.outbox.ring ∧
    (s.addControl e).outbox.nextSeq = s.outbox.nextSeq ∧
    (s.addControl e).outbox.lastSent = s.outbox.lastSent ∧
    (s.addControl e).outbox.firstBeaconSent = s.outbox.firstBeaconSent ∧
    (s.addControl e).outbox.beaconDue = s.outbox.beaconDue ∧
    (s.addControl e).outbox.beaconTimer = s.outbox.beaconTimer ∧
    (s.addControl e).outbox.fresh = s.outbox.fresh ∧
    (s.addControl e).outbox.freshEnd = s.outbox.freshEnd ∧ (s.addControl e).receiver = s.receiver ∧
    (s.addControl e).line = s.line ∧ (s.addControl e).results = s.results ∧
    (s.addControl e).port = s.port ∧ (s.addControl e).panel = s.panel ∧
    (s.addControl e).station = s.station ∧ (s.addControl e).freeIndex = s.freeIndex ∧
    (s.addControl e).pending = s.pending ∧ (s.addControl e).number = s.number ∧
    (s.addControl e).gates = s.gates ∧ (s.addControl e).stationByte = s.stationByte ∧
    (s.addControl e).isGateStation = s.isGateStation ∧ (s.addControl e).isAssigner = s.isAssigner ∧
    (s.addControl e).isFinish = s.isFinish ∧ (s.addControl e).receives = s.receives ∧
    (s.addControl e).onCourse = s.onCourse ∧ (s.addControl e).isActive = s.isActive ∧
    (s.addControl e).running = s.running ∧ (s.addControl e).speaking = s.speaking ∧
    (s.addControl e).sending = s.sending ∧ (s.addControl e).now = s.now := by
  unfold State.addControl
  try dsimp only
  repeat' split
  all_goals first | (simp; done) | (and_intros <;> first | rfl | (simp; done) | (simp; rfl))

/-- What `State.dropRepeats` leaves as it was. -/
@[simp] theorem State.dropRepeats_frame (s : State) (f : Byte → Byte → Bool) :
    (s.dropRepeats f).clock = s.clock ∧ (s.dropRepeats f).gate = s.gate ∧
    (s.dropRepeats f).table = s.table ∧ (s.dropRepeats f).assign = s.assign ∧
    (s.dropRepeats f).epoch = s.epoch ∧ (s.dropRepeats f).outbox.ring = s.outbox.ring ∧
    (s.dropRepeats f).outbox.nextSeq = s.outbox.nextSeq ∧
    (s.dropRepeats f).outbox.lastSent = s.outbox.lastSent ∧
    (s.dropRepeats f).outbox.firstBeaconSent = s.outbox.firstBeaconSent ∧
    (s.dropRepeats f).outbox.beaconDue = s.outbox.beaconDue ∧
    (s.dropRepeats f).outbox.beaconTimer = s.outbox.beaconTimer ∧
    (s.dropRepeats f).outbox.fresh = s.outbox.fresh ∧
    (s.dropRepeats f).outbox.freshEnd = s.outbox.freshEnd ∧
    (s.dropRepeats f).receiver = s.receiver ∧ (s.dropRepeats f).line = s.line ∧
    (s.dropRepeats f).results = s.results ∧ (s.dropRepeats f).port = s.port ∧
    (s.dropRepeats f).panel = s.panel ∧ (s.dropRepeats f).station = s.station ∧
    (s.dropRepeats f).freeIndex = s.freeIndex ∧ (s.dropRepeats f).pending = s.pending ∧
    (s.dropRepeats f).number = s.number ∧ (s.dropRepeats f).gates = s.gates ∧
    (s.dropRepeats f).stationByte = s.stationByte ∧
    (s.dropRepeats f).isGateStation = s.isGateStation ∧
    (s.dropRepeats f).isAssigner = s.isAssigner ∧ (s.dropRepeats f).isFinish = s.isFinish ∧
    (s.dropRepeats f).receives = s.receives ∧ (s.dropRepeats f).onCourse = s.onCourse ∧
    (s.dropRepeats f).isActive = s.isActive ∧ (s.dropRepeats f).running = s.running ∧
    (s.dropRepeats f).speaking = s.speaking ∧ (s.dropRepeats f).sending = s.sending ∧
    (s.dropRepeats f).now = s.now := by
  and_intros <;> rfl

/-- What `State.settleLine` leaves as it was. -/
@[simp] theorem State.settleLine_frame (s : State) :
    s.settleLine.clock = s.clock ∧ s.settleLine.gate = s.gate ∧ s.settleLine.table = s.table ∧
    s.settleLine.assign = s.assign ∧ s.settleLine.epoch = s.epoch ∧ s.settleLine.outbox = s.outbox ∧
    s.settleLine.receiver = s.receiver ∧ s.settleLine.line.rest = s.line.rest ∧
    s.settleLine.line.restPeriods = s.line.restPeriods ∧ s.settleLine.line.failed = s.line.failed ∧
    s.settleLine.line.idlePeriods = s.line.idlePeriods ∧ s.settleLine.line.restDue = s.line.restDue ∧
    s.settleLine.line.dominant = s.line.dominant ∧ s.settleLine.line.reading = s.line.reading ∧
    s.settleLine.line.rx = s.line.rx ∧ s.settleLine.line.complete = s.line.complete ∧
    s.settleLine.results = s.results ∧ s.settleLine.port = s.port ∧ s.settleLine.panel = s.panel ∧
    s.settleLine.station = s.station ∧ s.settleLine.freeIndex = s.freeIndex ∧
    s.settleLine.pending = s.pending ∧ s.settleLine.number = s.number ∧
    s.settleLine.gates = s.gates ∧ s.settleLine.stationByte = s.stationByte ∧
    s.settleLine.isGateStation = s.isGateStation ∧ s.settleLine.isAssigner = s.isAssigner ∧
    s.settleLine.isFinish = s.isFinish ∧ s.settleLine.receives = s.receives ∧
    s.settleLine.onCourse = s.onCourse ∧ s.settleLine.isActive = s.isActive ∧
    s.settleLine.running = s.running ∧ s.settleLine.speaking = s.speaking ∧
    s.settleLine.now = s.now := by
  unfold State.settleLine
  try dsimp only
  repeat' split
  all_goals first | (simp; done) | (and_intros <;> first | rfl | (simp; done) | (simp; rfl))

/-- What `State.afterFrame` leaves as it was. -/
@[simp] theorem State.afterFrame_frame (s : State) :
    s.afterFrame.clock = s.clock ∧ s.afterFrame.gate = s.gate ∧ s.afterFrame.table = s.table ∧
    s.afterFrame.assign = s.assign ∧ s.afterFrame.epoch = s.epoch ∧ s.afterFrame.outbox = s.outbox ∧
    s.afterFrame.receiver = s.receiver ∧ s.afterFrame.line.rest = s.line.rest ∧
    s.afterFrame.line.restPeriods = s.line.restPeriods ∧ s.afterFrame.line.failed = s.line.failed ∧
    s.afterFrame.line.idlePeriods = s.line.idlePeriods ∧ s.afterFrame.line.restDue = s.line.restDue ∧
    s.afterFrame.line.dominant = s.line.dominant ∧ s.afterFrame.line.reading = s.line.reading ∧
    s.afterFrame.line.rx = s.line.rx ∧ s.afterFrame.line.complete = s.line.complete ∧
    s.afterFrame.results = s.results ∧ s.afterFrame.port = s.port ∧ s.afterFrame.panel = s.panel ∧
    s.afterFrame.station = s.station ∧ s.afterFrame.freeIndex = s.freeIndex ∧
    s.afterFrame.pending = s.pending ∧ s.afterFrame.number = s.number ∧
    s.afterFrame.gates = s.gates ∧ s.afterFrame.stationByte = s.stationByte ∧
    s.afterFrame.isGateStation = s.isGateStation ∧ s.afterFrame.isAssigner = s.isAssigner ∧
    s.afterFrame.isFinish = s.isFinish ∧ s.afterFrame.receives = s.receives ∧
    s.afterFrame.onCourse = s.onCourse ∧ s.afterFrame.isActive = s.isActive ∧
    s.afterFrame.running = s.running ∧ s.afterFrame.speaking = s.speaking ∧
    s.afterFrame.now = s.now := by
  and_intros <;> rfl

/-- What `State.stopSpeaking` leaves as it was. -/
@[simp] theorem State.stopSpeaking_frame (s : State) :
    s.stopSpeaking.clock = s.clock ∧ s.stopSpeaking.gate = s.gate ∧ s.stopSpeaking.table = s.table ∧
    s.stopSpeaking.assign = s.assign ∧ s.stopSpeaking.epoch = s.epoch ∧
    s.stopSpeaking.outbox.ring = s.outbox.ring ∧ s.stopSpeaking.outbox.nextSeq = s.outbox.nextSeq ∧
    s.stopSpeaking.outbox.lastSent = s.outbox.lastSent ∧
    s.stopSpeaking.outbox.firstBeaconSent = s.outbox.firstBeaconSent ∧
    s.stopSpeaking.outbox.fresh = s.outbox.fresh ∧
    s.stopSpeaking.outbox.freshEnd = s.outbox.freshEnd ∧ s.stopSpeaking.receiver = s.receiver ∧
    s.stopSpeaking.line.rest = s.line.rest ∧ s.stopSpeaking.line.restPeriods = s.line.restPeriods ∧
    s.stopSpeaking.line.failed = s.line.failed ∧
    s.stopSpeaking.line.idlePeriods = s.line.idlePeriods ∧ s.stopSpeaking.line.restDue = s.line.restDue ∧
    s.stopSpeaking.line.dominant = s.line.dominant ∧ s.stopSpeaking.line.reading = s.line.reading ∧
    s.stopSpeaking.line.rx = s.line.rx ∧ s.stopSpeaking.line.complete = s.line.complete ∧
    s.stopSpeaking.results = s.results ∧ s.stopSpeaking.port = s.port ∧
    s.stopSpeaking.panel = s.panel ∧ s.stopSpeaking.station.state = s.station.state ∧
    s.stopSpeaking.station.cause = s.station.cause ∧
    s.stopSpeaking.station.straps = s.station.straps ∧
    s.stopSpeaking.station.errors = s.station.errors ∧
    s.stopSpeaking.station.listenCount = s.station.listenCount ∧
    s.stopSpeaking.freeIndex = s.freeIndex ∧ s.stopSpeaking.pending = s.pending ∧
    s.stopSpeaking.number = s.number ∧ s.stopSpeaking.gates = s.gates ∧
    s.stopSpeaking.stationByte = s.stationByte ∧ s.stopSpeaking.isGateStation = s.isGateStation ∧
    s.stopSpeaking.isAssigner = s.isAssigner ∧ s.stopSpeaking.isFinish = s.isFinish ∧
    s.stopSpeaking.receives = s.receives ∧ s.stopSpeaking.onCourse = s.onCourse ∧
    s.stopSpeaking.isActive = s.isActive ∧ s.stopSpeaking.running = s.running ∧
    s.stopSpeaking.now = s.now := by
  and_intros <;> rfl

/-- What `State.withLine` leaves as it was. -/
@[simp] theorem State.withLine_frame (s : State) (l : LineUnit) :
    (s.withLine l).clock = s.clock ∧ (s.withLine l).gate = s.gate ∧
    (s.withLine l).table = s.table ∧ (s.withLine l).assign = s.assign ∧
    (s.withLine l).epoch = s.epoch ∧ (s.withLine l).outbox = s.outbox ∧
    (s.withLine l).receiver = s.receiver ∧ (s.withLine l).results = s.results ∧
    (s.withLine l).port = s.port ∧ (s.withLine l).panel = s.panel ∧
    (s.withLine l).station = s.station ∧ (s.withLine l).freeIndex = s.freeIndex ∧
    (s.withLine l).pending = s.pending ∧ (s.withLine l).number = s.number ∧
    (s.withLine l).gates = s.gates ∧ (s.withLine l).stationByte = s.stationByte ∧
    (s.withLine l).isGateStation = s.isGateStation ∧ (s.withLine l).isAssigner = s.isAssigner ∧
    (s.withLine l).isFinish = s.isFinish ∧ (s.withLine l).receives = s.receives ∧
    (s.withLine l).onCourse = s.onCourse ∧ (s.withLine l).isActive = s.isActive ∧
    (s.withLine l).running = s.running ∧ (s.withLine l).speaking = s.speaking ∧
    (s.withLine l).now = s.now := by
  and_intros <;> rfl

/-- What `State.withPanel` leaves as it was. -/
@[simp] theorem State.withPanel_frame (s : State) (p : Panel) :
    (s.withPanel p).clock = s.clock ∧ (s.withPanel p).gate = s.gate ∧
    (s.withPanel p).table = s.table ∧ (s.withPanel p).assign = s.assign ∧
    (s.withPanel p).epoch = s.epoch ∧ (s.withPanel p).outbox = s.outbox ∧
    (s.withPanel p).receiver = s.receiver ∧ (s.withPanel p).line = s.line ∧
    (s.withPanel p).results = s.results ∧ (s.withPanel p).port = s.port ∧
    (s.withPanel p).station = s.station ∧ (s.withPanel p).freeIndex = s.freeIndex ∧
    (s.withPanel p).pending = s.pending ∧ (s.withPanel p).number = s.number ∧
    (s.withPanel p).gates = s.gates ∧ (s.withPanel p).stationByte = s.stationByte ∧
    (s.withPanel p).isGateStation = s.isGateStation ∧ (s.withPanel p).isAssigner = s.isAssigner ∧
    (s.withPanel p).isFinish = s.isFinish ∧ (s.withPanel p).receives = s.receives ∧
    (s.withPanel p).onCourse = s.onCourse ∧ (s.withPanel p).isActive = s.isActive ∧
    (s.withPanel p).running = s.running ∧ (s.withPanel p).speaking = s.speaking ∧
    (s.withPanel p).sending = s.sending ∧ (s.withPanel p).now = s.now := by
  and_intros <;> rfl

/-- What `State.withPort` leaves as it was. -/
@[simp] theorem State.withPort_frame (s : State) (p : Port) :
    (s.withPort p).clock = s.clock ∧ (s.withPort p).gate = s.gate ∧
    (s.withPort p).table = s.table ∧ (s.withPort p).assign = s.assign ∧
    (s.withPort p).epoch = s.epoch ∧ (s.withPort p).outbox = s.outbox ∧
    (s.withPort p).receiver = s.receiver ∧ (s.withPort p).line = s.line ∧
    (s.withPort p).results = s.results ∧ (s.withPort p).panel = s.panel ∧
    (s.withPort p).station = s.station ∧ (s.withPort p).freeIndex = s.freeIndex ∧
    (s.withPort p).pending = s.pending ∧ (s.withPort p).number = s.number ∧
    (s.withPort p).gates = s.gates ∧ (s.withPort p).stationByte = s.stationByte ∧
    (s.withPort p).isGateStation = s.isGateStation ∧ (s.withPort p).isAssigner = s.isAssigner ∧
    (s.withPort p).isFinish = s.isFinish ∧ (s.withPort p).receives = s.receives ∧
    (s.withPort p).onCourse = s.onCourse ∧ (s.withPort p).isActive = s.isActive ∧
    (s.withPort p).running = s.running ∧ (s.withPort p).speaking = s.speaking ∧
    (s.withPort p).sending = s.sending ∧ (s.withPort p).now = s.now := by
  and_intros <;> rfl

/-- What `State.withGate` leaves as it was. -/
@[simp] theorem State.withGate_frame (s : State) (a : Bool) (g : GateUnit) :
    (s.withGate a g).clock = s.clock ∧ (s.withGate a g).table = s.table ∧
    (s.withGate a g).assign = s.assign ∧ (s.withGate a g).epoch = s.epoch ∧
    (s.withGate a g).outbox = s.outbox ∧ (s.withGate a g).receiver = s.receiver ∧
    (s.withGate a g).line = s.line ∧ (s.withGate a g).results = s.results ∧
    (s.withGate a g).port = s.port ∧ (s.withGate a g).panel = s.panel ∧
    (s.withGate a g).station = s.station ∧ (s.withGate a g).freeIndex = s.freeIndex ∧
    (s.withGate a g).pending = s.pending ∧ (s.withGate a g).number = s.number ∧
    (s.withGate a g).gates = s.gates ∧ (s.withGate a g).stationByte = s.stationByte ∧
    (s.withGate a g).isGateStation = s.isGateStation ∧ (s.withGate a g).isAssigner = s.isAssigner ∧
    (s.withGate a g).isFinish = s.isFinish ∧ (s.withGate a g).receives = s.receives ∧
    (s.withGate a g).onCourse = s.onCourse ∧ (s.withGate a g).isActive = s.isActive ∧
    (s.withGate a g).running = s.running ∧ (s.withGate a g).speaking = s.speaking ∧
    (s.withGate a g).sending = s.sending ∧ (s.withGate a g).now = s.now := by
  and_intros <;> rfl

/-- What `State.withRecords` leaves as it was. -/
@[simp] theorem State.withRecords_frame (s : State) (l : List RunRecord) :
    (s.withRecords l).clock = s.clock ∧ (s.withRecords l).gate = s.gate ∧
    (s.withRecords l).table.floor = s.table.floor ∧
    (s.withRecords l).table.nextRun = s.table.nextRun ∧
    (s.withRecords l).table.markEpoch = s.table.markEpoch ∧
    (s.withRecords l).table.markRun = s.table.markRun ∧ (s.withRecords l).assign = s.assign ∧
    (s.withRecords l).epoch = s.epoch ∧ (s.withRecords l).outbox = s.outbox ∧
    (s.withRecords l).receiver = s.receiver ∧ (s.withRecords l).line = s.line ∧
    (s.withRecords l).results = s.results ∧ (s.withRecords l).port = s.port ∧
    (s.withRecords l).panel = s.panel ∧ (s.withRecords l).station = s.station ∧
    (s.withRecords l).freeIndex = s.freeIndex ∧ (s.withRecords l).pending = s.pending ∧
    (s.withRecords l).number = s.number ∧ (s.withRecords l).gates = s.gates ∧
    (s.withRecords l).stationByte = s.stationByte ∧
    (s.withRecords l).isGateStation = s.isGateStation ∧
    (s.withRecords l).isAssigner = s.isAssigner ∧ (s.withRecords l).isFinish = s.isFinish ∧
    (s.withRecords l).receives = s.receives ∧ (s.withRecords l).onCourse = s.onCourse ∧
    (s.withRecords l).isActive = s.isActive ∧ (s.withRecords l).running = s.running ∧
    (s.withRecords l).speaking = s.speaking ∧ (s.withRecords l).sending = s.sending ∧
    (s.withRecords l).now = s.now := by
  and_intros <;> rfl

/-- What `State.withEntries` leaves as it was. -/
@[simp] theorem State.withEntries_frame (s : State) (l : List PendingEntry) :
    (s.withEntries l).clock = s.clock ∧ (s.withEntries l).gate = s.gate ∧
    (s.withEntries l).table = s.table ∧ (s.withEntries l).assign.held = s.assign.held ∧
    (s.withEntries l).assign.boundary = s.assign.boundary ∧
    (s.withEntries l).assign.recEpoch = s.assign.recEpoch ∧
    (s.withEntries l).assign.recHighest = s.assign.recHighest ∧
    (s.withEntries l).assign.recOldest = s.assign.recOldest ∧ (s.withEntries l).epoch = s.epoch ∧
    (s.withEntries l).outbox = s.outbox ∧ (s.withEntries l).receiver = s.receiver ∧
    (s.withEntries l).line = s.line ∧ (s.withEntries l).results = s.results ∧
    (s.withEntries l).port = s.port ∧ (s.withEntries l).panel = s.panel ∧
    (s.withEntries l).station = s.station ∧ (s.withEntries l).freeIndex = s.freeIndex ∧
    (s.withEntries l).pending = s.pending ∧ (s.withEntries l).number = s.number ∧
    (s.withEntries l).gates = s.gates ∧ (s.withEntries l).stationByte = s.stationByte ∧
    (s.withEntries l).isGateStation = s.isGateStation ∧
    (s.withEntries l).isAssigner = s.isAssigner ∧ (s.withEntries l).isFinish = s.isFinish ∧
    (s.withEntries l).receives = s.receives ∧ (s.withEntries l).onCourse = s.onCourse ∧
    (s.withEntries l).isActive = s.isActive ∧ (s.withEntries l).running = s.running ∧
    (s.withEntries l).speaking = s.speaking ∧ (s.withEntries l).sending = s.sending ∧
    (s.withEntries l).now = s.now := by
  and_intros <;> rfl

/-- What `State.withPeer` leaves as it was. -/
@[simp] theorem State.withPeer_frame (s : State) (p : Nat) (x : Peer) :
    (s.withPeer p x).clock = s.clock ∧ (s.withPeer p x).gate = s.gate ∧
    (s.withPeer p x).table = s.table ∧ (s.withPeer p x).assign = s.assign ∧
    (s.withPeer p x).epoch = s.epoch ∧ (s.withPeer p x).outbox = s.outbox ∧
    (s.withPeer p x).receiver.snapshot = s.receiver.snapshot ∧ (s.withPeer p x).line = s.line ∧
    (s.withPeer p x).results = s.results ∧ (s.withPeer p x).port = s.port ∧
    (s.withPeer p x).panel = s.panel ∧ (s.withPeer p x).station = s.station ∧
    (s.withPeer p x).freeIndex = s.freeIndex ∧ (s.withPeer p x).pending = s.pending ∧
    (s.withPeer p x).number = s.number ∧ (s.withPeer p x).gates = s.gates ∧
    (s.withPeer p x).stationByte = s.stationByte ∧
    (s.withPeer p x).isGateStation = s.isGateStation ∧ (s.withPeer p x).isAssigner = s.isAssigner ∧
    (s.withPeer p x).isFinish = s.isFinish ∧ (s.withPeer p x).receives = s.receives ∧
    (s.withPeer p x).onCourse = s.onCourse ∧ (s.withPeer p x).isActive = s.isActive ∧
    (s.withPeer p x).running = s.running ∧ (s.withPeer p x).speaking = s.speaking ∧
    (s.withPeer p x).sending = s.sending ∧ (s.withPeer p x).now = s.now := by
  and_intros <;> rfl

/-- What `State.withMissing` leaves as it was. -/
@[simp] theorem State.withMissing_frame (s : State) (p : Nat) (l : List MissingEntry) :
    (s.withMissing p l).clock = s.clock ∧ (s.withMissing p l).gate = s.gate ∧
    (s.withMissing p l).table = s.table ∧ (s.withMissing p l).assign = s.assign ∧
    (s.withMissing p l).epoch = s.epoch ∧ (s.withMissing p l).outbox = s.outbox ∧
    (s.withMissing p l).receiver.snapshot = s.receiver.snapshot ∧
    (s.withMissing p l).line = s.line ∧ (s.withMissing p l).results = s.results ∧
    (s.withMissing p l).port = s.port ∧ (s.withMissing p l).panel = s.panel ∧
    (s.withMissing p l).station = s.station ∧ (s.withMissing p l).freeIndex = s.freeIndex ∧
    (s.withMissing p l).pending = s.pending ∧ (s.withMissing p l).number = s.number ∧
    (s.withMissing p l).gates = s.gates ∧ (s.withMissing p l).stationByte = s.stationByte ∧
    (s.withMissing p l).isGateStation = s.isGateStation ∧
    (s.withMissing p l).isAssigner = s.isAssigner ∧ (s.withMissing p l).isFinish = s.isFinish ∧
    (s.withMissing p l).receives = s.receives ∧ (s.withMissing p l).onCourse = s.onCourse ∧
    (s.withMissing p l).isActive = s.isActive ∧ (s.withMissing p l).running = s.running ∧
    (s.withMissing p l).speaking = s.speaking ∧ (s.withMissing p l).sending = s.sending ∧
    (s.withMissing p l).now = s.now := by
  and_intros <;> rfl

/-- What `State.enter` leaves as it was. -/
@[simp] theorem State.enter_frame (s : State) (st : StationState) :
    (s.enter st).clock = s.clock ∧ (s.enter st).gate = s.gate ∧ (s.enter st).table = s.table ∧
    (s.enter st).assign = s.assign ∧ (s.enter st).epoch = s.epoch ∧
    (s.enter st).outbox = s.outbox ∧ (s.enter st).receiver = s.receiver ∧
    (s.enter st).line = s.line ∧ (s.enter st).results = s.results ∧ (s.enter st).port = s.port ∧
    (s.enter st).panel = s.panel ∧ (s.enter st).station.cause = s.station.cause ∧
    (s.enter st).station.straps = s.station.straps ∧
    (s.enter st).station.errors = s.station.errors ∧
    (s.enter st).station.listenCount = s.station.listenCount ∧
    (s.enter st).station.closedSpeaking = s.station.closedSpeaking ∧
    (s.enter st).freeIndex = s.freeIndex ∧ (s.enter st).pending = s.pending ∧
    (s.enter st).number = s.number ∧ (s.enter st).gates = s.gates ∧
    (s.enter st).stationByte = s.stationByte ∧ (s.enter st).isGateStation = s.isGateStation ∧
    (s.enter st).isAssigner = s.isAssigner ∧ (s.enter st).isFinish = s.isFinish ∧
    (s.enter st).sending = s.sending ∧ (s.enter st).now = s.now := by
  and_intros <;> rfl

/-- What `State.releaseGate` leaves as it was. -/
@[simp] theorem State.releaseGate_frame (s : State) :
    s.releaseGate.clock = s.clock ∧ s.releaseGate.table = s.table ∧
    s.releaseGate.assign = s.assign ∧ s.releaseGate.epoch = s.epoch ∧
    s.releaseGate.outbox = s.outbox ∧ s.releaseGate.receiver = s.receiver ∧
    s.releaseGate.line = s.line ∧ s.releaseGate.results = s.results ∧ s.releaseGate.port = s.port ∧
    s.releaseGate.panel = s.panel ∧ s.releaseGate.station = s.station ∧
    s.releaseGate.freeIndex = s.freeIndex ∧ s.releaseGate.pending = s.pending ∧
    s.releaseGate.number = s.number ∧ s.releaseGate.gates = s.gates ∧
    s.releaseGate.stationByte = s.stationByte ∧ s.releaseGate.isGateStation = s.isGateStation ∧
    s.releaseGate.isAssigner = s.isAssigner ∧ s.releaseGate.isFinish = s.isFinish ∧
    s.releaseGate.receives = s.receives ∧ s.releaseGate.onCourse = s.onCourse ∧
    s.releaseGate.isActive = s.isActive ∧ s.releaseGate.running = s.running ∧
    s.releaseGate.speaking = s.speaking ∧ s.releaseGate.sending = s.sending ∧
    s.releaseGate.now = s.now := by
  and_intros <;> rfl

/-- What `State.recordPower` leaves as it was. -/
@[simp] theorem State.recordPower_frame (s : State) :
    s.recordPower.clock = s.clock ∧ s.recordPower.gate = s.gate ∧ s.recordPower.table = s.table ∧
    s.recordPower.assign = s.assign ∧ s.recordPower.epoch = s.epoch ∧
    s.recordPower.outbox = s.outbox ∧ s.recordPower.receiver = s.receiver ∧
    s.recordPower.line = s.line ∧ s.recordPower.results = s.results ∧ s.recordPower.port = s.port ∧
    s.recordPower.panel = s.panel ∧ s.recordPower.station.state = s.station.state ∧
    s.recordPower.station.straps = s.station.straps ∧
    s.recordPower.station.errors = s.station.errors ∧
    s.recordPower.station.listenCount = s.station.listenCount ∧
    s.recordPower.station.closedSpeaking = s.station.closedSpeaking ∧
    s.recordPower.freeIndex = s.freeIndex ∧ s.recordPower.pending = s.pending ∧
    s.recordPower.number = s.number ∧ s.recordPower.gates = s.gates ∧
    s.recordPower.stationByte = s.stationByte ∧ s.recordPower.isGateStation = s.isGateStation ∧
    s.recordPower.isAssigner = s.isAssigner ∧ s.recordPower.isFinish = s.isFinish ∧
    s.recordPower.receives = s.receives ∧ s.recordPower.onCourse = s.onCourse ∧
    s.recordPower.isActive = s.isActive ∧ s.recordPower.running = s.running ∧
    s.recordPower.speaking = s.speaking ∧ s.recordPower.sending = s.sending ∧
    s.recordPower.now = s.now := by
  and_intros <;> rfl

/-- What `State.frameHandedOn` leaves as it was. -/
@[simp] theorem State.frameHandedOn_frame (s : State) :
    s.frameHandedOn.clock = s.clock ∧ s.frameHandedOn.gate = s.gate ∧
    s.frameHandedOn.table = s.table ∧ s.frameHandedOn.assign = s.assign ∧
    s.frameHandedOn.epoch = s.epoch ∧ s.frameHandedOn.outbox = s.outbox ∧
    s.frameHandedOn.receiver = s.receiver ∧ s.frameHandedOn.line.tx = s.line.tx ∧
    s.frameHandedOn.line.rest = s.line.rest ∧
    s.frameHandedOn.line.restPeriods = s.line.restPeriods ∧
    s.frameHandedOn.line.failed = s.line.failed ∧
    s.frameHandedOn.line.idlePeriods = s.line.idlePeriods ∧
    s.frameHandedOn.line.restDue = s.line.restDue ∧ s.frameHandedOn.line.dominant = s.line.dominant ∧
    s.frameHandedOn.line.reading = s.line.reading ∧ s.frameHandedOn.results = s.results ∧
    s.frameHandedOn.port = s.port ∧ s.frameHandedOn.panel = s.panel ∧
    s.frameHandedOn.station = s.station ∧ s.frameHandedOn.freeIndex = s.freeIndex ∧
    s.frameHandedOn.pending = s.pending ∧ s.frameHandedOn.number = s.number ∧
    s.frameHandedOn.gates = s.gates ∧ s.frameHandedOn.stationByte = s.stationByte ∧
    s.frameHandedOn.isGateStation = s.isGateStation ∧ s.frameHandedOn.isAssigner = s.isAssigner ∧
    s.frameHandedOn.isFinish = s.isFinish ∧ s.frameHandedOn.receives = s.receives ∧
    s.frameHandedOn.onCourse = s.onCourse ∧ s.frameHandedOn.isActive = s.isActive ∧
    s.frameHandedOn.running = s.running ∧ s.frameHandedOn.speaking = s.speaking ∧
    s.frameHandedOn.sending = s.sending ∧ s.frameHandedOn.now = s.now := by
  and_intros <;> rfl

/-- What `State.hear` leaves as it was. -/
@[simp] theorem State.hear_frame (s : State) (p : Nat) :
    (s.hear p).clock = s.clock ∧ (s.hear p).gate = s.gate ∧ (s.hear p).table = s.table ∧
    (s.hear p).assign = s.assign ∧ (s.hear p).epoch = s.epoch ∧ (s.hear p).outbox = s.outbox ∧
    (s.hear p).receiver.snapshot = s.receiver.snapshot ∧ (s.hear p).line = s.line ∧
    (s.hear p).results = s.results ∧ (s.hear p).port = s.port ∧ (s.hear p).panel = s.panel ∧
    (s.hear p).station = s.station ∧ (s.hear p).freeIndex = s.freeIndex ∧
    (s.hear p).pending = s.pending ∧ (s.hear p).number = s.number ∧ (s.hear p).gates = s.gates ∧
    (s.hear p).stationByte = s.stationByte ∧ (s.hear p).isGateStation = s.isGateStation ∧
    (s.hear p).isAssigner = s.isAssigner ∧ (s.hear p).isFinish = s.isFinish ∧
    (s.hear p).receives = s.receives ∧ (s.hear p).onCourse = s.onCourse ∧
    (s.hear p).isActive = s.isActive ∧ (s.hear p).running = s.running ∧
    (s.hear p).speaking = s.speaking ∧ (s.hear p).sending = s.sending ∧ (s.hear p).now = s.now := by
  and_intros <;> rfl

/-- What `State.adoptTime` leaves as it was. -/
@[simp] theorem State.adoptTime_frame (s : State) (t : Nat) :
    (s.adoptTime t).clock.stopTicks = s.clock.stopTicks ∧ (s.adoptTime t).gate = s.gate ∧
    (s.adoptTime t).table = s.table ∧ (s.adoptTime t).assign = s.assign ∧
    (s.adoptTime t).epoch = s.epoch ∧ (s.adoptTime t).outbox = s.outbox ∧
    (s.adoptTime t).receiver = s.receiver ∧ (s.adoptTime t).line = s.line ∧
    (s.adoptTime t).results = s.results ∧ (s.adoptTime t).port = s.port ∧
    (s.adoptTime t).panel = s.panel ∧ (s.adoptTime t).station = s.station ∧
    (s.adoptTime t).freeIndex = s.freeIndex ∧ (s.adoptTime t).pending = s.pending ∧
    (s.adoptTime t).number = s.number ∧ (s.adoptTime t).gates = s.gates ∧
    (s.adoptTime t).stationByte = s.stationByte ∧ (s.adoptTime t).isGateStation = s.isGateStation ∧
    (s.adoptTime t).isAssigner = s.isAssigner ∧ (s.adoptTime t).isFinish = s.isFinish ∧
    (s.adoptTime t).receives = s.receives ∧ (s.adoptTime t).onCourse = s.onCourse ∧
    (s.adoptTime t).isActive = s.isActive ∧ (s.adoptTime t).running = s.running ∧
    (s.adoptTime t).speaking = s.speaking ∧ (s.adoptTime t).sending = s.sending := by
  and_intros <;> rfl

/-- What `State.clearTable` leaves as it was. -/
@[simp] theorem State.clearTable_frame (s : State) :
    s.clearTable.clock = s.clock ∧ s.clearTable.gate = s.gate ∧
    s.clearTable.table.markEpoch = s.table.markEpoch ∧
    s.clearTable.table.markRun = s.table.markRun ∧ s.clearTable.assign = s.assign ∧
    s.clearTable.epoch = s.epoch ∧ s.clearTable.outbox = s.outbox ∧
    s.clearTable.receiver = s.receiver ∧ s.clearTable.line = s.line ∧
    s.clearTable.results = s.results ∧ s.clearTable.port = s.port ∧ s.clearTable.panel = s.panel ∧
    s.clearTable.station = s.station ∧ s.clearTable.freeIndex = s.freeIndex ∧
    s.clearTable.pending = s.pending ∧ s.clearTable.number = s.number ∧
    s.clearTable.gates = s.gates ∧ s.clearTable.stationByte = s.stationByte ∧
    s.clearTable.isGateStation = s.isGateStation ∧ s.clearTable.isAssigner = s.isAssigner ∧
    s.clearTable.isFinish = s.isFinish ∧ s.clearTable.receives = s.receives ∧
    s.clearTable.onCourse = s.onCourse ∧ s.clearTable.isActive = s.isActive ∧
    s.clearTable.running = s.running ∧ s.clearTable.speaking = s.speaking ∧
    s.clearTable.sending = s.sending ∧ s.clearTable.now = s.now := by
  and_intros <;> rfl

/-- What `State.clearAssign` leaves as it was. -/
@[simp] theorem State.clearAssign_frame (s : State) :
    s.clearAssign.clock = s.clock ∧ s.clearAssign.gate = s.gate ∧ s.clearAssign.table = s.table ∧
    s.clearAssign.assign.recEpoch = s.assign.recEpoch ∧
    s.clearAssign.assign.recHighest = s.assign.recHighest ∧
    s.clearAssign.assign.recOldest = s.assign.recOldest ∧ s.clearAssign.epoch = s.epoch ∧
    s.clearAssign.outbox = s.outbox ∧ s.clearAssign.receiver = s.receiver ∧
    s.clearAssign.line = s.line ∧ s.clearAssign.results = s.results ∧ s.clearAssign.port = s.port ∧
    s.clearAssign.panel = s.panel ∧ s.clearAssign.station = s.station ∧
    s.clearAssign.freeIndex = s.freeIndex ∧ s.clearAssign.pending = s.pending ∧
    s.clearAssign.number = s.number ∧ s.clearAssign.gates = s.gates ∧
    s.clearAssign.stationByte = s.stationByte ∧ s.clearAssign.isGateStation = s.isGateStation ∧
    s.clearAssign.isAssigner = s.isAssigner ∧ s.clearAssign.isFinish = s.isFinish ∧
    s.clearAssign.receives = s.receives ∧ s.clearAssign.onCourse = s.onCourse ∧
    s.clearAssign.isActive = s.isActive ∧ s.clearAssign.running = s.running ∧
    s.clearAssign.speaking = s.speaking ∧ s.clearAssign.sending = s.sending ∧
    s.clearAssign.now = s.now := by
  and_intros <;> rfl

/-- What `State.markStepped` leaves as it was. -/
@[simp] theorem State.markStepped_frame (s : State) :
    s.markStepped.clock = s.clock ∧ s.markStepped.gate = s.gate ∧
    s.markStepped.table.floor = s.table.floor ∧ s.markStepped.table.nextRun = s.table.nextRun ∧
    s.markStepped.table.markEpoch = s.table.markEpoch ∧
    s.markStepped.table.markRun = s.table.markRun ∧ s.markStepped.assign = s.assign ∧
    s.markStepped.epoch = s.epoch ∧ s.markStepped.outbox = s.outbox ∧
    s.markStepped.receiver = s.receiver ∧ s.markStepped.line = s.line ∧
    s.markStepped.results = s.results ∧ s.markStepped.port = s.port ∧
    s.markStepped.panel = s.panel ∧ s.markStepped.station = s.station ∧
    s.markStepped.freeIndex = s.freeIndex ∧ s.markStepped.pending = s.pending ∧
    s.markStepped.number = s.number ∧ s.markStepped.gates = s.gates ∧
    s.markStepped.stationByte = s.stationByte ∧ s.markStepped.isGateStation = s.isGateStation ∧
    s.markStepped.isAssigner = s.isAssigner ∧ s.markStepped.isFinish = s.isFinish ∧
    s.markStepped.receives = s.receives ∧ s.markStepped.onCourse = s.onCourse ∧
    s.markStepped.isActive = s.isActive ∧ s.markStepped.running = s.running ∧
    s.markStepped.speaking = s.speaking ∧ s.markStepped.sending = s.sending ∧
    s.markStepped.now = s.now := by
  and_intros <;> rfl

/-- What `State.endBeaconTimer` leaves as it was. -/
@[simp] theorem State.endBeaconTimer_frame (s : State) :
    s.endBeaconTimer.clock = s.clock ∧ s.endBeaconTimer.gate = s.gate ∧
    s.endBeaconTimer.table = s.table ∧ s.endBeaconTimer.assign = s.assign ∧
    s.endBeaconTimer.epoch = s.epoch ∧ s.endBeaconTimer.outbox.ring = s.outbox.ring ∧
    s.endBeaconTimer.outbox.nextSeq = s.outbox.nextSeq ∧
    s.endBeaconTimer.outbox.lastSent = s.outbox.lastSent ∧
    s.endBeaconTimer.outbox.firstBeaconSent = s.outbox.firstBeaconSent ∧
    s.endBeaconTimer.outbox.control = s.outbox.control ∧
    s.endBeaconTimer.outbox.fresh = s.outbox.fresh ∧
    s.endBeaconTimer.outbox.freshEnd = s.outbox.freshEnd ∧ s.endBeaconTimer.receiver = s.receiver ∧
    s.endBeaconTimer.line = s.line ∧ s.endBeaconTimer.results = s.results ∧
    s.endBeaconTimer.port = s.port ∧ s.endBeaconTimer.panel = s.panel ∧
    s.endBeaconTimer.station = s.station ∧ s.endBeaconTimer.freeIndex = s.freeIndex ∧
    s.endBeaconTimer.pending = s.pending ∧ s.endBeaconTimer.number = s.number ∧
    s.endBeaconTimer.gates = s.gates ∧ s.endBeaconTimer.stationByte = s.stationByte ∧
    s.endBeaconTimer.isGateStation = s.isGateStation ∧ s.endBeaconTimer.isAssigner = s.isAssigner ∧
    s.endBeaconTimer.isFinish = s.isFinish ∧ s.endBeaconTimer.receives = s.receives ∧
    s.endBeaconTimer.onCourse = s.onCourse ∧ s.endBeaconTimer.isActive = s.isActive ∧
    s.endBeaconTimer.running = s.running ∧ s.endBeaconTimer.speaking = s.speaking ∧
    s.endBeaconTimer.sending = s.sending ∧ s.endBeaconTimer.now = s.now := by
  and_intros <;> rfl

/-- What `State.endFreshSpan` leaves as it was. -/
@[simp] theorem State.endFreshSpan_frame (s : State) :
    s.endFreshSpan.clock = s.clock ∧ s.endFreshSpan.gate = s.gate ∧
    s.endFreshSpan.table = s.table ∧ s.endFreshSpan.assign = s.assign ∧
    s.endFreshSpan.epoch = s.epoch ∧ s.endFreshSpan.outbox.ring = s.outbox.ring ∧
    s.endFreshSpan.outbox.nextSeq = s.outbox.nextSeq ∧
    s.endFreshSpan.outbox.lastSent = s.outbox.lastSent ∧
    s.endFreshSpan.outbox.firstBeaconSent = s.outbox.firstBeaconSent ∧
    s.endFreshSpan.outbox.control = s.outbox.control ∧
    s.endFreshSpan.outbox.beaconDue = s.outbox.beaconDue ∧
    s.endFreshSpan.outbox.beaconTimer = s.outbox.beaconTimer ∧
    s.endFreshSpan.receiver = s.receiver ∧ s.endFreshSpan.line = s.line ∧
    s.endFreshSpan.results = s.results ∧ s.endFreshSpan.port = s.port ∧
    s.endFreshSpan.panel = s.panel ∧ s.endFreshSpan.station = s.station ∧
    s.endFreshSpan.freeIndex = s.freeIndex ∧ s.endFreshSpan.pending = s.pending ∧
    s.endFreshSpan.number = s.number ∧ s.endFreshSpan.gates = s.gates ∧
    s.endFreshSpan.stationByte = s.stationByte ∧ s.endFreshSpan.isGateStation = s.isGateStation ∧
    s.endFreshSpan.isAssigner = s.isAssigner ∧ s.endFreshSpan.isFinish = s.isFinish ∧
    s.endFreshSpan.receives = s.receives ∧ s.endFreshSpan.onCourse = s.onCourse ∧
    s.endFreshSpan.isActive = s.isActive ∧ s.endFreshSpan.running = s.running ∧
    s.endFreshSpan.speaking = s.speaking ∧ s.endFreshSpan.sending = s.sending ∧
    s.endFreshSpan.now = s.now := by
  and_intros <;> rfl

/-- What `State.silencePeers` leaves as it was. -/
@[simp] theorem State.silencePeers_frame (s : State) :
    s.silencePeers.clock = s.clock ∧ s.silencePeers.gate = s.gate ∧
    s.silencePeers.table = s.table ∧ s.silencePeers.assign = s.assign ∧
    s.silencePeers.epoch = s.epoch ∧ s.silencePeers.outbox = s.outbox ∧
    s.silencePeers.receiver.snapshot = s.receiver.snapshot ∧ s.silencePeers.line = s.line ∧
    s.silencePeers.results = s.results ∧ s.silencePeers.port = s.port ∧
    s.silencePeers.panel = s.panel ∧ s.silencePeers.station = s.station ∧
    s.silencePeers.freeIndex = s.freeIndex ∧ s.silencePeers.pending = s.pending ∧
    s.silencePeers.number = s.number ∧ s.silencePeers.gates = s.gates ∧
    s.silencePeers.stationByte = s.stationByte ∧ s.silencePeers.isGateStation = s.isGateStation ∧
    s.silencePeers.isAssigner = s.isAssigner ∧ s.silencePeers.isFinish = s.isFinish ∧
    s.silencePeers.receives = s.receives ∧ s.silencePeers.onCourse = s.onCourse ∧
    s.silencePeers.isActive = s.isActive ∧ s.silencePeers.running = s.running ∧
    s.silencePeers.speaking = s.speaking ∧ s.silencePeers.sending = s.sending ∧
    s.silencePeers.now = s.now := by
  and_intros <;> rfl

/-- What `State.snapshotBeacon` leaves as it was. -/
@[simp] theorem State.snapshotBeacon_frame (s : State) (b : BeaconPayload) :
    (s.snapshotBeacon b).clock = s.clock ∧ (s.snapshotBeacon b).gate = s.gate ∧
    (s.snapshotBeacon b).table = s.table ∧ (s.snapshotBeacon b).assign = s.assign ∧
    (s.snapshotBeacon b).epoch = s.epoch ∧ (s.snapshotBeacon b).outbox = s.outbox ∧
    (s.snapshotBeacon b).receiver.peers = s.receiver.peers ∧ (s.snapshotBeacon b).line = s.line ∧
    (s.snapshotBeacon b).results = s.results ∧ (s.snapshotBeacon b).port = s.port ∧
    (s.snapshotBeacon b).panel = s.panel ∧ (s.snapshotBeacon b).station = s.station ∧
    (s.snapshotBeacon b).freeIndex = s.freeIndex ∧ (s.snapshotBeacon b).pending = s.pending ∧
    (s.snapshotBeacon b).number = s.number ∧ (s.snapshotBeacon b).gates = s.gates ∧
    (s.snapshotBeacon b).stationByte = s.stationByte ∧
    (s.snapshotBeacon b).isGateStation = s.isGateStation ∧
    (s.snapshotBeacon b).isAssigner = s.isAssigner ∧ (s.snapshotBeacon b).isFinish = s.isFinish ∧
    (s.snapshotBeacon b).receives = s.receives ∧ (s.snapshotBeacon b).onCourse = s.onCourse ∧
    (s.snapshotBeacon b).isActive = s.isActive ∧ (s.snapshotBeacon b).running = s.running ∧
    (s.snapshotBeacon b).speaking = s.speaking ∧ (s.snapshotBeacon b).sending = s.sending ∧
    (s.snapshotBeacon b).now = s.now := by
  and_intros <;> rfl

/-- What `State.withNextRun` leaves as it was. -/
@[simp] theorem State.withNextRun_frame (s : State) (n : Nat) :
    (s.withNextRun n).clock = s.clock ∧ (s.withNextRun n).gate = s.gate ∧
    (s.withNextRun n).table.records = s.table.records ∧
    (s.withNextRun n).table.floor = s.table.floor ∧
    (s.withNextRun n).table.markEpoch = s.table.markEpoch ∧
    (s.withNextRun n).table.markRun = s.table.markRun ∧ (s.withNextRun n).assign = s.assign ∧
    (s.withNextRun n).epoch = s.epoch ∧ (s.withNextRun n).outbox = s.outbox ∧
    (s.withNextRun n).receiver = s.receiver ∧ (s.withNextRun n).line = s.line ∧
    (s.withNextRun n).results = s.results ∧ (s.withNextRun n).port = s.port ∧
    (s.withNextRun n).panel = s.panel ∧ (s.withNextRun n).station = s.station ∧
    (s.withNextRun n).freeIndex = s.freeIndex ∧ (s.withNextRun n).pending = s.pending ∧
    (s.withNextRun n).number = s.number ∧ (s.withNextRun n).gates = s.gates ∧
    (s.withNextRun n).stationByte = s.stationByte ∧
    (s.withNextRun n).isGateStation = s.isGateStation ∧
    (s.withNextRun n).isAssigner = s.isAssigner ∧ (s.withNextRun n).isFinish = s.isFinish ∧
    (s.withNextRun n).receives = s.receives ∧ (s.withNextRun n).onCourse = s.onCourse ∧
    (s.withNextRun n).isActive = s.isActive ∧ (s.withNextRun n).running = s.running ∧
    (s.withNextRun n).speaking = s.speaking ∧ (s.withNextRun n).sending = s.sending ∧
    (s.withNextRun n).now = s.now := by
  and_intros <;> rfl

/-- What `State.withEpoch` leaves as it was. -/
@[simp] theorem State.withEpoch_frame (s : State) (e : Word16) :
    (s.withEpoch e).clock = s.clock ∧ (s.withEpoch e).gate = s.gate ∧
    (s.withEpoch e).table = s.table ∧ (s.withEpoch e).assign = s.assign ∧
    (s.withEpoch e).outbox = s.outbox ∧ (s.withEpoch e).receiver = s.receiver ∧
    (s.withEpoch e).line = s.line ∧ (s.withEpoch e).results = s.results ∧
    (s.withEpoch e).port = s.port ∧ (s.withEpoch e).panel = s.panel ∧
    (s.withEpoch e).station = s.station ∧ (s.withEpoch e).freeIndex = s.freeIndex ∧
    (s.withEpoch e).pending = s.pending ∧ (s.withEpoch e).number = s.number ∧
    (s.withEpoch e).gates = s.gates ∧ (s.withEpoch e).stationByte = s.stationByte ∧
    (s.withEpoch e).isGateStation = s.isGateStation ∧ (s.withEpoch e).isAssigner = s.isAssigner ∧
    (s.withEpoch e).isFinish = s.isFinish ∧ (s.withEpoch e).receives = s.receives ∧
    (s.withEpoch e).onCourse = s.onCourse ∧ (s.withEpoch e).isActive = s.isActive ∧
    (s.withEpoch e).running = s.running ∧ (s.withEpoch e).speaking = s.speaking ∧
    (s.withEpoch e).sending = s.sending ∧ (s.withEpoch e).now = s.now := by
  and_intros <;> rfl

/-- What `State.clearSnapshot` leaves as it was. -/
@[simp] theorem State.clearSnapshot_frame (s : State) :
    s.clearSnapshot.clock = s.clock ∧ s.clearSnapshot.gate = s.gate ∧
    s.clearSnapshot.table = s.table ∧ s.clearSnapshot.assign = s.assign ∧
    s.clearSnapshot.epoch = s.epoch ∧ s.clearSnapshot.outbox = s.outbox ∧
    s.clearSnapshot.receiver.peers = s.receiver.peers ∧ s.clearSnapshot.line = s.line ∧
    s.clearSnapshot.results = s.results ∧ s.clearSnapshot.port = s.port ∧
    s.clearSnapshot.panel = s.panel ∧ s.clearSnapshot.station = s.station ∧
    s.clearSnapshot.freeIndex = s.freeIndex ∧ s.clearSnapshot.pending = s.pending ∧
    s.clearSnapshot.number = s.number ∧ s.clearSnapshot.gates = s.gates ∧
    s.clearSnapshot.stationByte = s.stationByte ∧ s.clearSnapshot.isGateStation = s.isGateStation ∧
    s.clearSnapshot.isAssigner = s.isAssigner ∧ s.clearSnapshot.isFinish = s.isFinish ∧
    s.clearSnapshot.receives = s.receives ∧ s.clearSnapshot.onCourse = s.onCourse ∧
    s.clearSnapshot.isActive = s.isActive ∧ s.clearSnapshot.running = s.running ∧
    s.clearSnapshot.speaking = s.speaking ∧ s.clearSnapshot.sending = s.sending ∧
    s.clearSnapshot.now = s.now := by
  and_intros <;> rfl

/-- What `State.settleEpoch` leaves as it was. -/
@[simp] theorem State.settleEpoch_frame (s : State) :
    s.settleEpoch.clock = s.clock ∧ s.settleEpoch.gate = s.gate ∧ s.settleEpoch.table = s.table ∧
    s.settleEpoch.assign = s.assign ∧ s.settleEpoch.outbox = s.outbox ∧
    s.settleEpoch.receiver = s.receiver ∧ s.settleEpoch.line = s.line ∧
    s.settleEpoch.results = s.results ∧ s.settleEpoch.port = s.port ∧
    s.settleEpoch.panel = s.panel ∧ s.settleEpoch.station = s.station ∧
    s.settleEpoch.freeIndex = s.freeIndex ∧ s.settleEpoch.pending = s.pending ∧
    s.settleEpoch.number = s.number ∧ s.settleEpoch.gates = s.gates ∧
    s.settleEpoch.stationByte = s.stationByte ∧ s.settleEpoch.isGateStation = s.isGateStation ∧
    s.settleEpoch.isAssigner = s.isAssigner ∧ s.settleEpoch.isFinish = s.isFinish ∧
    s.settleEpoch.receives = s.receives ∧ s.settleEpoch.onCourse = s.onCourse ∧
    s.settleEpoch.isActive = s.isActive ∧ s.settleEpoch.running = s.running ∧
    s.settleEpoch.speaking = s.speaking ∧ s.settleEpoch.sending = s.sending ∧
    s.settleEpoch.now = s.now := by
  unfold State.settleEpoch
  try dsimp only
  repeat' split
  all_goals first | (simp; done) | (and_intros <;> first | rfl | (simp; done) | (simp; rfl))

/-- What `State.raiseEpoch` leaves as it was. -/
@[simp] theorem State.raiseEpoch_frame (s : State) (e : Word16) :
    (s.raiseEpoch e).clock = s.clock ∧ (s.raiseEpoch e).gate = s.gate ∧
    (s.raiseEpoch e).table = s.table ∧ (s.raiseEpoch e).assign = s.assign ∧
    (s.raiseEpoch e).outbox = s.outbox ∧ (s.raiseEpoch e).receiver = s.receiver ∧
    (s.raiseEpoch e).line = s.line ∧ (s.raiseEpoch e).results = s.results ∧
    (s.raiseEpoch e).port = s.port ∧ (s.raiseEpoch e).panel = s.panel ∧
    (s.raiseEpoch e).station = s.station ∧ (s.raiseEpoch e).freeIndex = s.freeIndex ∧
    (s.raiseEpoch e).pending = s.pending ∧ (s.raiseEpoch e).number = s.number ∧
    (s.raiseEpoch e).gates = s.gates ∧ (s.raiseEpoch e).stationByte = s.stationByte ∧
    (s.raiseEpoch e).isGateStation = s.isGateStation ∧ (s.raiseEpoch e).isAssigner = s.isAssigner ∧
    (s.raiseEpoch e).isFinish = s.isFinish ∧ (s.raiseEpoch e).receives = s.receives ∧
    (s.raiseEpoch e).onCourse = s.onCourse ∧ (s.raiseEpoch e).isActive = s.isActive ∧
    (s.raiseEpoch e).running = s.running ∧ (s.raiseEpoch e).speaking = s.speaking ∧
    (s.raiseEpoch e).sending = s.sending ∧ (s.raiseEpoch e).now = s.now := by
  unfold State.raiseEpoch
  try dsimp only
  repeat' split
  all_goals first | (simp; done) | (and_intros <;> first | rfl | (simp; done) | (simp; rfl))

end Sys2Proof.Machine
end

