-- ==== Sys2Proof/Laws/Table.lean ====
section
/-! SUPPORT. What the Run Table's operations leave as it was. -/

set_option linter.unusedTactic false
set_option linter.unreachableTactic false
namespace Sys2Proof.Machine

/-- What a place in the ring leaves as it was. -/
theorem State.place_frame {s t : State} {e : Word16} {p : Payload} (h : s.place e p = some t) :
    (t).clock = s.clock ∧ (t).gate = s.gate ∧ (t).table = s.table ∧ (t).assign = s.assign ∧
    (t).epoch = s.epoch ∧ (t).outbox.lastSent = s.outbox.lastSent ∧
    (t).outbox.firstBeaconSent = s.outbox.firstBeaconSent ∧ (t).outbox.control = s.outbox.control ∧
    (t).outbox.beaconDue = s.outbox.beaconDue ∧ (t).outbox.beaconTimer = s.outbox.beaconTimer ∧
    (t).outbox.fresh = s.outbox.fresh ∧ (t).outbox.freshEnd = s.outbox.freshEnd ∧
    (t).receiver = s.receiver ∧ (t).line = s.line ∧ (t).results = s.results ∧ (t).port = s.port ∧
    (t).panel = s.panel ∧ (t).station = s.station ∧ (t).freeIndex = s.freeIndex ∧
    (t).pending = s.pending ∧ (t).number = s.number ∧ (t).gates = s.gates ∧
    (t).stationByte = s.stationByte ∧ (t).isGateStation = s.isGateStation ∧
    (t).isAssigner = s.isAssigner ∧ (t).isFinish = s.isFinish ∧ (t).receives = s.receives ∧
    (t).onCourse = s.onCourse ∧ (t).isActive = s.isActive ∧ (t).running = s.running ∧
    (t).speaking = s.speaking ∧ (t).sending = s.sending ∧ (t).now = s.now := by
  unfold State.place at h
  split at h
  · cases h; and_intros <;> rfl
  · cases h
/-- What `State.raiseFloor` leaves as it was. -/
@[simp] theorem State.raiseFloor_frame (s : State) (r : Nat) :
    (s.raiseFloor r).clock = s.clock ∧ (s.raiseFloor r).gate = s.gate ∧
    (s.raiseFloor r).table.records = s.table.records ∧
    (s.raiseFloor r).table.nextRun = s.table.nextRun ∧
    (s.raiseFloor r).table.markEpoch = s.table.markEpoch ∧
    (s.raiseFloor r).table.markRun = s.table.markRun ∧ (s.raiseFloor r).assign = s.assign ∧
    (s.raiseFloor r).epoch = s.epoch ∧ (s.raiseFloor r).outbox = s.outbox ∧
    (s.raiseFloor r).receiver = s.receiver ∧ (s.raiseFloor r).line = s.line ∧
    (s.raiseFloor r).results = s.results ∧ (s.raiseFloor r).port = s.port ∧
    (s.raiseFloor r).panel = s.panel ∧ (s.raiseFloor r).station = s.station ∧
    (s.raiseFloor r).freeIndex = s.freeIndex ∧ (s.raiseFloor r).pending = s.pending ∧
    (s.raiseFloor r).number = s.number ∧ (s.raiseFloor r).gates = s.gates ∧
    (s.raiseFloor r).stationByte = s.stationByte ∧
    (s.raiseFloor r).isGateStation = s.isGateStation ∧ (s.raiseFloor r).isAssigner = s.isAssigner ∧
    (s.raiseFloor r).isFinish = s.isFinish ∧ (s.raiseFloor r).receives = s.receives ∧
    (s.raiseFloor r).onCourse = s.onCourse ∧ (s.raiseFloor r).isActive = s.isActive ∧
    (s.raiseFloor r).running = s.running ∧ (s.raiseFloor r).speaking = s.speaking ∧
    (s.raiseFloor r).sending = s.sending ∧ (s.raiseFloor r).now = s.now := by
  and_intros <;> rfl

/-- What `State.evict` leaves as it was. -/
@[simp] theorem State.evict_frame (s : State) (r : Nat) :
    (s.evict r).clock = s.clock ∧ (s.evict r).gate = s.gate ∧
    (s.evict r).table.nextRun = s.table.nextRun ∧ (s.evict r).table.markEpoch = s.table.markEpoch ∧
    (s.evict r).table.markRun = s.table.markRun ∧ (s.evict r).assign = s.assign ∧
    (s.evict r).epoch = s.epoch ∧ (s.evict r).outbox = s.outbox ∧
    (s.evict r).receiver = s.receiver ∧ (s.evict r).line = s.line ∧
    (s.evict r).results = s.results ∧ (s.evict r).port = s.port ∧ (s.evict r).panel = s.panel ∧
    (s.evict r).station = s.station ∧ (s.evict r).freeIndex = s.freeIndex ∧
    (s.evict r).pending = s.pending ∧ (s.evict r).number = s.number ∧ (s.evict r).gates = s.gates ∧
    (s.evict r).stationByte = s.stationByte ∧ (s.evict r).isGateStation = s.isGateStation ∧
    (s.evict r).isAssigner = s.isAssigner ∧ (s.evict r).isFinish = s.isFinish ∧
    (s.evict r).receives = s.receives ∧ (s.evict r).onCourse = s.onCourse ∧
    (s.evict r).isActive = s.isActive ∧ (s.evict r).running = s.running ∧
    (s.evict r).speaking = s.speaking ∧ (s.evict r).sending = s.sending ∧ (s.evict r).now = s.now := by
  and_intros <;> rfl

/-- What `State.handFinished` leaves as it was. -/
@[simp] theorem State.handFinished_frame (s : State) (r : RunRecord) :
    (s.handFinished r).clock = s.clock ∧ (s.handFinished r).gate = s.gate ∧
    (s.handFinished r).table = s.table ∧ (s.handFinished r).assign = s.assign ∧
    (s.handFinished r).epoch = s.epoch ∧ (s.handFinished r).outbox = s.outbox ∧
    (s.handFinished r).receiver = s.receiver ∧ (s.handFinished r).line = s.line ∧
    (s.handFinished r).results = s.results ∧ (s.handFinished r).port = s.port ∧
    (s.handFinished r).panel.trip = s.panel.trip ∧ (s.handFinished r).panel.void = s.panel.void ∧
    (s.handFinished r).panel.dnf = s.panel.dnf ∧ (s.handFinished r).panel.ack = s.panel.ack ∧
    (s.handFinished r).panel.voidHold = s.panel.voidHold ∧
    (s.handFinished r).panel.dnfHold = s.panel.dnfHold ∧
    (s.handFinished r).panel.comboRunning = s.panel.comboRunning ∧
    (s.handFinished r).panel.comboCount = s.panel.comboCount ∧
    (s.handFinished r).panel.runHold = s.panel.runHold ∧
    (s.handFinished r).panel.divider = s.panel.divider ∧
    (s.handFinished r).panel.toneDivider = s.panel.toneDivider ∧
    (s.handFinished r).station = s.station ∧ (s.handFinished r).freeIndex = s.freeIndex ∧
    (s.handFinished r).pending = s.pending ∧ (s.handFinished r).number = s.number ∧
    (s.handFinished r).gates = s.gates ∧ (s.handFinished r).stationByte = s.stationByte ∧
    (s.handFinished r).isGateStation = s.isGateStation ∧
    (s.handFinished r).isAssigner = s.isAssigner ∧ (s.handFinished r).isFinish = s.isFinish ∧
    (s.handFinished r).receives = s.receives ∧ (s.handFinished r).onCourse = s.onCourse ∧
    (s.handFinished r).isActive = s.isActive ∧ (s.handFinished r).running = s.running ∧
    (s.handFinished r).speaking = s.speaking ∧ (s.handFinished r).sending = s.sending ∧
    (s.handFinished r).now = s.now := by
  unfold State.handFinished
  try dsimp only
  repeat' split
  all_goals first | (simp; done) | (and_intros <;> first | rfl | (simp; done) | (simp; rfl))

/-- What `State.settle` leaves as it was. -/
@[simp] theorem State.settle_frame (s : State) (r : RunRecord) :
    (s.settle r).clock = s.clock ∧ (s.settle r).gate = s.gate ∧
    (s.settle r).table.floor = s.table.floor ∧ (s.settle r).table.nextRun = s.table.nextRun ∧
    (s.settle r).table.markEpoch = s.table.markEpoch ∧
    (s.settle r).table.markRun = s.table.markRun ∧ (s.settle r).assign = s.assign ∧
    (s.settle r).epoch = s.epoch ∧ (s.settle r).outbox = s.outbox ∧
    (s.settle r).receiver = s.receiver ∧ (s.settle r).line = s.line ∧
    (s.settle r).port.phase = s.port.phase ∧ (s.settle r).port.fill = s.port.fill ∧
    (s.settle r).port.bits = s.port.bits ∧ (s.settle r).port.command = s.port.command ∧
    (s.settle r).port.latched = s.port.latched ∧ (s.settle r).port.latchedSeq = s.port.latchedSeq ∧
    (s.settle r).port.xselLow = s.port.xselLow ∧ (s.settle r).port.shown = s.port.shown ∧
    (s.settle r).port.xclkHigh = s.port.xclkHigh ∧ (s.settle r).panel.trip = s.panel.trip ∧
    (s.settle r).panel.void = s.panel.void ∧ (s.settle r).panel.dnf = s.panel.dnf ∧
    (s.settle r).panel.ack = s.panel.ack ∧ (s.settle r).panel.voidHold = s.panel.voidHold ∧
    (s.settle r).panel.dnfHold = s.panel.dnfHold ∧
    (s.settle r).panel.comboRunning = s.panel.comboRunning ∧
    (s.settle r).panel.comboCount = s.panel.comboCount ∧
    (s.settle r).panel.runHold = s.panel.runHold ∧ (s.settle r).panel.divider = s.panel.divider ∧
    (s.settle r).panel.toneDivider = s.panel.toneDivider ∧ (s.settle r).station = s.station ∧
    (s.settle r).freeIndex = s.freeIndex ∧ (s.settle r).pending = s.pending ∧
    (s.settle r).number = s.number ∧ (s.settle r).gates = s.gates ∧
    (s.settle r).stationByte = s.stationByte ∧ (s.settle r).isGateStation = s.isGateStation ∧
    (s.settle r).isAssigner = s.isAssigner ∧ (s.settle r).isFinish = s.isFinish ∧
    (s.settle r).receives = s.receives ∧ (s.settle r).onCourse = s.onCourse ∧
    (s.settle r).isActive = s.isActive ∧ (s.settle r).running = s.running ∧
    (s.settle r).speaking = s.speaking ∧ (s.settle r).sending = s.sending ∧
    (s.settle r).now = s.now := by
  unfold State.settle
  try dsimp only
  repeat' split
  all_goals first | (simp; done) | (and_intros <;> first | rfl | (simp; done) | (simp; rfl))

/-- What `State.reportDropped` leaves as it was. -/
@[simp] theorem State.reportDropped_frame (s : State) (r : RunRecord) :
    (s.reportDropped r).clock = s.clock ∧ (s.reportDropped r).gate = s.gate ∧
    (s.reportDropped r).table = s.table ∧ (s.reportDropped r).assign = s.assign ∧
    (s.reportDropped r).epoch = s.epoch ∧ (s.reportDropped r).outbox = s.outbox ∧
    (s.reportDropped r).receiver = s.receiver ∧ (s.reportDropped r).line = s.line ∧
    (s.reportDropped r).port.phase = s.port.phase ∧ (s.reportDropped r).port.fill = s.port.fill ∧
    (s.reportDropped r).port.bits = s.port.bits ∧
    (s.reportDropped r).port.command = s.port.command ∧
    (s.reportDropped r).port.latched = s.port.latched ∧
    (s.reportDropped r).port.latchedSeq = s.port.latchedSeq ∧
    (s.reportDropped r).port.xselLow = s.port.xselLow ∧
    (s.reportDropped r).port.shown = s.port.shown ∧
    (s.reportDropped r).port.xclkHigh = s.port.xclkHigh ∧ (s.reportDropped r).panel = s.panel ∧
    (s.reportDropped r).station = s.station ∧ (s.reportDropped r).freeIndex = s.freeIndex ∧
    (s.reportDropped r).pending = s.pending ∧ (s.reportDropped r).number = s.number ∧
    (s.reportDropped r).gates = s.gates ∧ (s.reportDropped r).stationByte = s.stationByte ∧
    (s.reportDropped r).isGateStation = s.isGateStation ∧
    (s.reportDropped r).isAssigner = s.isAssigner ∧ (s.reportDropped r).isFinish = s.isFinish ∧
    (s.reportDropped r).receives = s.receives ∧ (s.reportDropped r).onCourse = s.onCourse ∧
    (s.reportDropped r).isActive = s.isActive ∧ (s.reportDropped r).running = s.running ∧
    (s.reportDropped r).speaking = s.speaking ∧ (s.reportDropped r).sending = s.sending ∧
    (s.reportDropped r).now = s.now := by
  unfold State.reportDropped
  first | (simp; done) | (and_intros <;> first | rfl | (simp; done) | (simp; rfl))

/-- What `State.dropNamed` leaves as it was. -/
@[simp] theorem State.dropNamed_frame (s : State) (r : Nat) :
    (s.dropNamed r).clock = s.clock ∧ (s.dropNamed r).gate = s.gate ∧
    (s.dropNamed r).table.records = s.table.records ∧
    (s.dropNamed r).table.nextRun = s.table.nextRun ∧
    (s.dropNamed r).table.markEpoch = s.table.markEpoch ∧
    (s.dropNamed r).table.markRun = s.table.markRun ∧ (s.dropNamed r).assign = s.assign ∧
    (s.dropNamed r).epoch = s.epoch ∧ (s.dropNamed r).outbox = s.outbox ∧
    (s.dropNamed r).receiver = s.receiver ∧ (s.dropNamed r).line = s.line ∧
    (s.dropNamed r).port.phase = s.port.phase ∧ (s.dropNamed r).port.fill = s.port.fill ∧
    (s.dropNamed r).port.bits = s.port.bits ∧ (s.dropNamed r).port.command = s.port.command ∧
    (s.dropNamed r).port.latched = s.port.latched ∧
    (s.dropNamed r).port.latchedSeq = s.port.latchedSeq ∧
    (s.dropNamed r).port.xselLow = s.port.xselLow ∧ (s.dropNamed r).port.shown = s.port.shown ∧
    (s.dropNamed r).port.xclkHigh = s.port.xclkHigh ∧ (s.dropNamed r).panel = s.panel ∧
    (s.dropNamed r).station = s.station ∧ (s.dropNamed r).freeIndex = s.freeIndex ∧
    (s.dropNamed r).pending = s.pending ∧ (s.dropNamed r).number = s.number ∧
    (s.dropNamed r).gates = s.gates ∧ (s.dropNamed r).stationByte = s.stationByte ∧
    (s.dropNamed r).isGateStation = s.isGateStation ∧ (s.dropNamed r).isAssigner = s.isAssigner ∧
    (s.dropNamed r).isFinish = s.isFinish ∧ (s.dropNamed r).receives = s.receives ∧
    (s.dropNamed r).onCourse = s.onCourse ∧ (s.dropNamed r).isActive = s.isActive ∧
    (s.dropNamed r).running = s.running ∧ (s.dropNamed r).speaking = s.speaking ∧
    (s.dropNamed r).sending = s.sending ∧ (s.dropNamed r).now = s.now := by
  unfold State.dropNamed
  first | (simp; done) | (and_intros <;> first | rfl | (simp; done) | (simp; rfl))

/-- What `State.create` leaves as it was. -/
@[simp] theorem State.create_frame (s : State) (r : Nat) (l : Bool) :
    (s.create r l).clock = s.clock ∧ (s.create r l).gate = s.gate ∧
    (s.create r l).table.floor = s.table.floor ∧ (s.create r l).table.nextRun = s.table.nextRun ∧
    (s.create r l).table.markEpoch = s.table.markEpoch ∧
    (s.create r l).table.markRun = s.table.markRun ∧ (s.create r l).assign = s.assign ∧
    (s.create r l).epoch = s.epoch ∧ (s.create r l).outbox = s.outbox ∧
    (s.create r l).receiver = s.receiver ∧ (s.create r l).line = s.line ∧
    (s.create r l).results = s.results ∧ (s.create r l).port = s.port ∧
    (s.create r l).panel = s.panel ∧ (s.create r l).station = s.station ∧
    (s.create r l).freeIndex = s.freeIndex ∧ (s.create r l).pending = s.pending ∧
    (s.create r l).number = s.number ∧ (s.create r l).gates = s.gates ∧
    (s.create r l).stationByte = s.stationByte ∧ (s.create r l).isGateStation = s.isGateStation ∧
    (s.create r l).isAssigner = s.isAssigner ∧ (s.create r l).isFinish = s.isFinish ∧
    (s.create r l).receives = s.receives ∧ (s.create r l).onCourse = s.onCourse ∧
    (s.create r l).isActive = s.isActive ∧ (s.create r l).running = s.running ∧
    (s.create r l).speaking = s.speaking ∧ (s.create r l).sending = s.sending ∧
    (s.create r l).now = s.now := by
  and_intros <;> rfl

/-- What `State.enrol` leaves as it was. -/
@[simp] theorem State.enrol_frame (s : State) (r : Nat) (l : Bool) :
    (s.enrol r l).1.clock = s.clock ∧ (s.enrol r l).1.gate = s.gate ∧
    (s.enrol r l).1.table.nextRun = s.table.nextRun ∧
    (s.enrol r l).1.table.markEpoch = s.table.markEpoch ∧
    (s.enrol r l).1.table.markRun = s.table.markRun ∧ (s.enrol r l).1.assign = s.assign ∧
    (s.enrol r l).1.epoch = s.epoch ∧ (s.enrol r l).1.outbox = s.outbox ∧
    (s.enrol r l).1.receiver = s.receiver ∧ (s.enrol r l).1.line = s.line ∧
    (s.enrol r l).1.port.phase = s.port.phase ∧ (s.enrol r l).1.port.fill = s.port.fill ∧
    (s.enrol r l).1.port.bits = s.port.bits ∧ (s.enrol r l).1.port.command = s.port.command ∧
    (s.enrol r l).1.port.latched = s.port.latched ∧
    (s.enrol r l).1.port.latchedSeq = s.port.latchedSeq ∧
    (s.enrol r l).1.port.xselLow = s.port.xselLow ∧ (s.enrol r l).1.port.shown = s.port.shown ∧
    (s.enrol r l).1.port.xclkHigh = s.port.xclkHigh ∧ (s.enrol r l).1.panel = s.panel ∧
    (s.enrol r l).1.station = s.station ∧ (s.enrol r l).1.freeIndex = s.freeIndex ∧
    (s.enrol r l).1.pending = s.pending ∧ (s.enrol r l).1.number = s.number ∧
    (s.enrol r l).1.gates = s.gates ∧ (s.enrol r l).1.stationByte = s.stationByte ∧
    (s.enrol r l).1.isGateStation = s.isGateStation ∧ (s.enrol r l).1.isAssigner = s.isAssigner ∧
    (s.enrol r l).1.isFinish = s.isFinish ∧ (s.enrol r l).1.receives = s.receives ∧
    (s.enrol r l).1.onCourse = s.onCourse ∧ (s.enrol r l).1.isActive = s.isActive ∧
    (s.enrol r l).1.running = s.running ∧ (s.enrol r l).1.speaking = s.speaking ∧
    (s.enrol r l).1.sending = s.sending ∧ (s.enrol r l).1.now = s.now := by
  unfold State.enrol
  try dsimp only
  repeat' split
  all_goals first | (simp; done) | (and_intros <;> first | rfl | (simp; done) | (simp; rfl))

/-- What `State.raiseCounter` leaves as it was. -/
@[simp] theorem State.raiseCounter_frame (s : State) (r : Nat) :
    (s.raiseCounter r).clock = s.clock ∧ (s.raiseCounter r).gate = s.gate ∧
    (s.raiseCounter r).table.records = s.table.records ∧
    (s.raiseCounter r).table.floor = s.table.floor ∧
    (s.raiseCounter r).table.markEpoch = s.table.markEpoch ∧
    (s.raiseCounter r).table.markRun = s.table.markRun ∧ (s.raiseCounter r).assign = s.assign ∧
    (s.raiseCounter r).epoch = s.epoch ∧ (s.raiseCounter r).outbox = s.outbox ∧
    (s.raiseCounter r).receiver = s.receiver ∧ (s.raiseCounter r).line = s.line ∧
    (s.raiseCounter r).results = s.results ∧ (s.raiseCounter r).port = s.port ∧
    (s.raiseCounter r).panel = s.panel ∧ (s.raiseCounter r).station = s.station ∧
    (s.raiseCounter r).freeIndex = s.freeIndex ∧ (s.raiseCounter r).pending = s.pending ∧
    (s.raiseCounter r).number = s.number ∧ (s.raiseCounter r).gates = s.gates ∧
    (s.raiseCounter r).stationByte = s.stationByte ∧
    (s.raiseCounter r).isGateStation = s.isGateStation ∧
    (s.raiseCounter r).isAssigner = s.isAssigner ∧ (s.raiseCounter r).isFinish = s.isFinish ∧
    (s.raiseCounter r).receives = s.receives ∧ (s.raiseCounter r).onCourse = s.onCourse ∧
    (s.raiseCounter r).isActive = s.isActive ∧ (s.raiseCounter r).running = s.running ∧
    (s.raiseCounter r).speaking = s.speaking ∧ (s.raiseCounter r).sending = s.sending ∧
    (s.raiseCounter r).now = s.now := by
  unfold State.raiseCounter
  try dsimp only
  repeat' split
  all_goals first | (simp; done) | (and_intros <;> first | rfl | (simp; done) | (simp; rfl))

/-- What `State.takeFact` leaves as it was. -/
@[simp] theorem State.takeFact_frame (s : State) (f : Fact) :
    (s.takeFact f).1.clock = s.clock ∧ (s.takeFact f).1.gate = s.gate ∧
    (s.takeFact f).1.table.markEpoch = s.table.markEpoch ∧
    (s.takeFact f).1.table.markRun = s.table.markRun ∧ (s.takeFact f).1.assign = s.assign ∧
    (s.takeFact f).1.epoch = s.epoch ∧ (s.takeFact f).1.outbox = s.outbox ∧
    (s.takeFact f).1.receiver = s.receiver ∧ (s.takeFact f).1.line = s.line ∧
    (s.takeFact f).1.port.phase = s.port.phase ∧ (s.takeFact f).1.port.fill = s.port.fill ∧
    (s.takeFact f).1.port.bits = s.port.bits ∧ (s.takeFact f).1.port.command = s.port.command ∧
    (s.takeFact f).1.port.latched = s.port.latched ∧
    (s.takeFact f).1.port.latchedSeq = s.port.latchedSeq ∧
    (s.takeFact f).1.port.xselLow = s.port.xselLow ∧ (s.takeFact f).1.port.shown = s.port.shown ∧
    (s.takeFact f).1.port.xclkHigh = s.port.xclkHigh ∧ (s.takeFact f).1.panel.trip = s.panel.trip ∧
    (s.takeFact f).1.panel.void = s.panel.void ∧ (s.takeFact f).1.panel.dnf = s.panel.dnf ∧
    (s.takeFact f).1.panel.ack = s.panel.ack ∧ (s.takeFact f).1.panel.voidHold = s.panel.voidHold ∧
    (s.takeFact f).1.panel.dnfHold = s.panel.dnfHold ∧
    (s.takeFact f).1.panel.comboRunning = s.panel.comboRunning ∧
    (s.takeFact f).1.panel.comboCount = s.panel.comboCount ∧
    (s.takeFact f).1.panel.runHold = s.panel.runHold ∧
    (s.takeFact f).1.panel.divider = s.panel.divider ∧
    (s.takeFact f).1.panel.toneDivider = s.panel.toneDivider ∧
    (s.takeFact f).1.station = s.station ∧ (s.takeFact f).1.freeIndex = s.freeIndex ∧
    (s.takeFact f).1.pending = s.pending ∧ (s.takeFact f).1.number = s.number ∧
    (s.takeFact f).1.gates = s.gates ∧ (s.takeFact f).1.stationByte = s.stationByte ∧
    (s.takeFact f).1.isGateStation = s.isGateStation ∧ (s.takeFact f).1.isAssigner = s.isAssigner ∧
    (s.takeFact f).1.isFinish = s.isFinish ∧ (s.takeFact f).1.receives = s.receives ∧
    (s.takeFact f).1.onCourse = s.onCourse ∧ (s.takeFact f).1.isActive = s.isActive ∧
    (s.takeFact f).1.running = s.running ∧ (s.takeFact f).1.speaking = s.speaking ∧
    (s.takeFact f).1.sending = s.sending ∧ (s.takeFact f).1.now = s.now := by
  unfold State.takeFact
  simp only
  split
  · split <;> simp
  · simp

/-- What `State.startRule` leaves as it was. -/
@[simp] theorem State.startRule_frame (s : State) (t : Nat) (m : Bool) :
    (s.startRule t m).clock = s.clock ∧ (s.startRule t m).gate = s.gate ∧
    (s.startRule t m).table.markEpoch = s.table.markEpoch ∧
    (s.startRule t m).table.markRun = s.table.markRun ∧ (s.startRule t m).assign = s.assign ∧
    (s.startRule t m).epoch = s.epoch ∧ (s.startRule t m).outbox.lastSent = s.outbox.lastSent ∧
    (s.startRule t m).outbox.firstBeaconSent = s.outbox.firstBeaconSent ∧
    (s.startRule t m).outbox.control = s.outbox.control ∧
    (s.startRule t m).outbox.beaconDue = s.outbox.beaconDue ∧
    (s.startRule t m).outbox.beaconTimer = s.outbox.beaconTimer ∧
    (s.startRule t m).outbox.fresh = s.outbox.fresh ∧
    (s.startRule t m).outbox.freshEnd = s.outbox.freshEnd ∧
    (s.startRule t m).receiver = s.receiver ∧ (s.startRule t m).line = s.line ∧
    (s.startRule t m).port.phase = s.port.phase ∧ (s.startRule t m).port.fill = s.port.fill ∧
    (s.startRule t m).port.bits = s.port.bits ∧ (s.startRule t m).port.command = s.port.command ∧
    (s.startRule t m).port.latched = s.port.latched ∧
    (s.startRule t m).port.latchedSeq = s.port.latchedSeq ∧
    (s.startRule t m).port.xselLow = s.port.xselLow ∧ (s.startRule t m).port.shown = s.port.shown ∧
    (s.startRule t m).port.xclkHigh = s.port.xclkHigh ∧
    (s.startRule t m).panel.trip = s.panel.trip ∧ (s.startRule t m).panel.void = s.panel.void ∧
    (s.startRule t m).panel.dnf = s.panel.dnf ∧ (s.startRule t m).panel.ack = s.panel.ack ∧
    (s.startRule t m).panel.voidHold = s.panel.voidHold ∧
    (s.startRule t m).panel.dnfHold = s.panel.dnfHold ∧
    (s.startRule t m).panel.comboRunning = s.panel.comboRunning ∧
    (s.startRule t m).panel.comboCount = s.panel.comboCount ∧
    (s.startRule t m).panel.divider = s.panel.divider ∧
    (s.startRule t m).panel.toneDivider = s.panel.toneDivider ∧
    (s.startRule t m).station.state = s.station.state ∧
    (s.startRule t m).station.cause = s.station.cause ∧
    (s.startRule t m).station.straps = s.station.straps ∧
    (s.startRule t m).station.listenCount = s.station.listenCount ∧
    (s.startRule t m).station.closedSpeaking = s.station.closedSpeaking ∧
    (s.startRule t m).freeIndex = s.freeIndex ∧ (s.startRule t m).pending = s.pending ∧
    (s.startRule t m).number = s.number ∧ (s.startRule t m).gates = s.gates ∧
    (s.startRule t m).stationByte = s.stationByte ∧
    (s.startRule t m).isGateStation = s.isGateStation ∧
    (s.startRule t m).isAssigner = s.isAssigner ∧ (s.startRule t m).isFinish = s.isFinish ∧
    (s.startRule t m).receives = s.receives ∧ (s.startRule t m).onCourse = s.onCourse ∧
    (s.startRule t m).isActive = s.isActive ∧ (s.startRule t m).running = s.running ∧
    (s.startRule t m).speaking = s.speaking ∧ (s.startRule t m).sending = s.sending ∧
    (s.startRule t m).now = s.now := by
  unfold State.startRule
  split
  · simp
  · split
    · simp
    · split
      · simp
      · rename_i h; simp [State.place_frame h]

end Sys2Proof.Machine
end

