-- ==== Sys2Proof/Laws/Crossing.lean ====
section
/-! SUPPORT. What the Assignment Unit's operations leave as it was. -/

set_option linter.unusedTactic false
set_option linter.unreachableTactic false
namespace Sys2Proof.Machine

/-- What `State.makeCross` leaves as it was. -/
@[simp] theorem State.makeCross_frame (s : State) (e : PendingEntry) (r : RunRecord) :
    (s.makeCross e r).clock = s.clock ∧ (s.makeCross e r).gate = s.gate ∧
    (s.makeCross e r).table.markEpoch = s.table.markEpoch ∧
    (s.makeCross e r).table.markRun = s.table.markRun ∧ (s.makeCross e r).assign = s.assign ∧
    (s.makeCross e r).epoch = s.epoch ∧ (s.makeCross e r).outbox.lastSent = s.outbox.lastSent ∧
    (s.makeCross e r).outbox.firstBeaconSent = s.outbox.firstBeaconSent ∧
    (s.makeCross e r).outbox.control = s.outbox.control ∧
    (s.makeCross e r).outbox.beaconDue = s.outbox.beaconDue ∧
    (s.makeCross e r).outbox.beaconTimer = s.outbox.beaconTimer ∧
    (s.makeCross e r).outbox.fresh = s.outbox.fresh ∧
    (s.makeCross e r).outbox.freshEnd = s.outbox.freshEnd ∧
    (s.makeCross e r).receiver = s.receiver ∧ (s.makeCross e r).line = s.line ∧
    (s.makeCross e r).port.phase = s.port.phase ∧ (s.makeCross e r).port.fill = s.port.fill ∧
    (s.makeCross e r).port.bits = s.port.bits ∧ (s.makeCross e r).port.command = s.port.command ∧
    (s.makeCross e r).port.latched = s.port.latched ∧
    (s.makeCross e r).port.latchedSeq = s.port.latchedSeq ∧
    (s.makeCross e r).port.xselLow = s.port.xselLow ∧ (s.makeCross e r).port.shown = s.port.shown ∧
    (s.makeCross e r).port.xclkHigh = s.port.xclkHigh ∧
    (s.makeCross e r).panel.trip = s.panel.trip ∧ (s.makeCross e r).panel.void = s.panel.void ∧
    (s.makeCross e r).panel.dnf = s.panel.dnf ∧ (s.makeCross e r).panel.ack = s.panel.ack ∧
    (s.makeCross e r).panel.voidHold = s.panel.voidHold ∧
    (s.makeCross e r).panel.dnfHold = s.panel.dnfHold ∧
    (s.makeCross e r).panel.comboRunning = s.panel.comboRunning ∧
    (s.makeCross e r).panel.comboCount = s.panel.comboCount ∧
    (s.makeCross e r).panel.divider = s.panel.divider ∧
    (s.makeCross e r).panel.toneDivider = s.panel.toneDivider ∧
    (s.makeCross e r).station.state = s.station.state ∧
    (s.makeCross e r).station.cause = s.station.cause ∧
    (s.makeCross e r).station.straps = s.station.straps ∧
    (s.makeCross e r).station.listenCount = s.station.listenCount ∧
    (s.makeCross e r).station.closedSpeaking = s.station.closedSpeaking ∧
    (s.makeCross e r).freeIndex = s.freeIndex ∧ (s.makeCross e r).pending = s.pending ∧
    (s.makeCross e r).number = s.number ∧ (s.makeCross e r).gates = s.gates ∧
    (s.makeCross e r).stationByte = s.stationByte ∧
    (s.makeCross e r).isGateStation = s.isGateStation ∧
    (s.makeCross e r).isAssigner = s.isAssigner ∧ (s.makeCross e r).isFinish = s.isFinish ∧
    (s.makeCross e r).receives = s.receives ∧ (s.makeCross e r).onCourse = s.onCourse ∧
    (s.makeCross e r).isActive = s.isActive ∧ (s.makeCross e r).running = s.running ∧
    (s.makeCross e r).speaking = s.speaking ∧ (s.makeCross e r).sending = s.sending ∧
    (s.makeCross e r).now = s.now := by
  unfold State.makeCross
  split
  · simp
  · rename_i h
    split <;> simp [State.place_frame h]

/-- What `State.walkEntries` leaves as it was. -/
@[simp] theorem State.walkEntries_frame (s : State) (l : List PendingEntry) :
    (s.walkEntries l).1.clock = s.clock ∧ (s.walkEntries l).1.gate = s.gate ∧
    (s.walkEntries l).1.table.markEpoch = s.table.markEpoch ∧
    (s.walkEntries l).1.table.markRun = s.table.markRun ∧ (s.walkEntries l).1.assign = s.assign ∧
    (s.walkEntries l).1.epoch = s.epoch ∧ (s.walkEntries l).1.outbox.lastSent = s.outbox.lastSent ∧
    (s.walkEntries l).1.outbox.firstBeaconSent = s.outbox.firstBeaconSent ∧
    (s.walkEntries l).1.outbox.control = s.outbox.control ∧
    (s.walkEntries l).1.outbox.beaconDue = s.outbox.beaconDue ∧
    (s.walkEntries l).1.outbox.beaconTimer = s.outbox.beaconTimer ∧
    (s.walkEntries l).1.outbox.fresh = s.outbox.fresh ∧
    (s.walkEntries l).1.outbox.freshEnd = s.outbox.freshEnd ∧
    (s.walkEntries l).1.receiver = s.receiver ∧ (s.walkEntries l).1.line = s.line ∧
    (s.walkEntries l).1.port.phase = s.port.phase ∧ (s.walkEntries l).1.port.fill = s.port.fill ∧
    (s.walkEntries l).1.port.bits = s.port.bits ∧
    (s.walkEntries l).1.port.command = s.port.command ∧
    (s.walkEntries l).1.port.latched = s.port.latched ∧
    (s.walkEntries l).1.port.latchedSeq = s.port.latchedSeq ∧
    (s.walkEntries l).1.port.xselLow = s.port.xselLow ∧
    (s.walkEntries l).1.port.shown = s.port.shown ∧
    (s.walkEntries l).1.port.xclkHigh = s.port.xclkHigh ∧
    (s.walkEntries l).1.panel.trip = s.panel.trip ∧ (s.walkEntries l).1.panel.void = s.panel.void ∧
    (s.walkEntries l).1.panel.dnf = s.panel.dnf ∧ (s.walkEntries l).1.panel.ack = s.panel.ack ∧
    (s.walkEntries l).1.panel.voidHold = s.panel.voidHold ∧
    (s.walkEntries l).1.panel.dnfHold = s.panel.dnfHold ∧
    (s.walkEntries l).1.panel.comboRunning = s.panel.comboRunning ∧
    (s.walkEntries l).1.panel.comboCount = s.panel.comboCount ∧
    (s.walkEntries l).1.panel.divider = s.panel.divider ∧
    (s.walkEntries l).1.panel.toneDivider = s.panel.toneDivider ∧
    (s.walkEntries l).1.station.state = s.station.state ∧
    (s.walkEntries l).1.station.cause = s.station.cause ∧
    (s.walkEntries l).1.station.straps = s.station.straps ∧
    (s.walkEntries l).1.station.listenCount = s.station.listenCount ∧
    (s.walkEntries l).1.station.closedSpeaking = s.station.closedSpeaking ∧
    (s.walkEntries l).1.freeIndex = s.freeIndex ∧ (s.walkEntries l).1.pending = s.pending ∧
    (s.walkEntries l).1.number = s.number ∧ (s.walkEntries l).1.gates = s.gates ∧
    (s.walkEntries l).1.stationByte = s.stationByte ∧
    (s.walkEntries l).1.isGateStation = s.isGateStation ∧
    (s.walkEntries l).1.isAssigner = s.isAssigner ∧ (s.walkEntries l).1.isFinish = s.isFinish ∧
    (s.walkEntries l).1.receives = s.receives ∧ (s.walkEntries l).1.onCourse = s.onCourse ∧
    (s.walkEntries l).1.isActive = s.isActive ∧ (s.walkEntries l).1.running = s.running ∧
    (s.walkEntries l).1.speaking = s.speaking ∧ (s.walkEntries l).1.sending = s.sending ∧
    (s.walkEntries l).1.now = s.now := by
  induction l generalizing s with
  | nil => simp [State.walkEntries]
  | cons x xs ih =>
    simp only [State.walkEntries]
    split <;> simp [ih]

/-- What `State.walk` leaves as it was. -/
@[simp] theorem State.walk_frame (s : State) :
    s.walk.clock = s.clock ∧ s.walk.gate = s.gate ∧ s.walk.table.markEpoch = s.table.markEpoch ∧
    s.walk.table.markRun = s.table.markRun ∧ s.walk.assign.held = s.assign.held ∧
    s.walk.assign.boundary = s.assign.boundary ∧ s.walk.assign.recEpoch = s.assign.recEpoch ∧
    s.walk.assign.recHighest = s.assign.recHighest ∧ s.walk.assign.recOldest = s.assign.recOldest ∧
    s.walk.epoch = s.epoch ∧ s.walk.outbox.lastSent = s.outbox.lastSent ∧
    s.walk.outbox.firstBeaconSent = s.outbox.firstBeaconSent ∧
    s.walk.outbox.control = s.outbox.control ∧ s.walk.outbox.beaconDue = s.outbox.beaconDue ∧
    s.walk.outbox.beaconTimer = s.outbox.beaconTimer ∧ s.walk.outbox.fresh = s.outbox.fresh ∧
    s.walk.outbox.freshEnd = s.outbox.freshEnd ∧ s.walk.receiver = s.receiver ∧
    s.walk.line = s.line ∧ s.walk.port.phase = s.port.phase ∧ s.walk.port.fill = s.port.fill ∧
    s.walk.port.bits = s.port.bits ∧ s.walk.port.command = s.port.command ∧
    s.walk.port.latched = s.port.latched ∧ s.walk.port.latchedSeq = s.port.latchedSeq ∧
    s.walk.port.xselLow = s.port.xselLow ∧ s.walk.port.shown = s.port.shown ∧
    s.walk.port.xclkHigh = s.port.xclkHigh ∧ s.walk.panel.trip = s.panel.trip ∧
    s.walk.panel.void = s.panel.void ∧ s.walk.panel.dnf = s.panel.dnf ∧
    s.walk.panel.ack = s.panel.ack ∧ s.walk.panel.voidHold = s.panel.voidHold ∧
    s.walk.panel.dnfHold = s.panel.dnfHold ∧ s.walk.panel.comboRunning = s.panel.comboRunning ∧
    s.walk.panel.comboCount = s.panel.comboCount ∧ s.walk.panel.divider = s.panel.divider ∧
    s.walk.panel.toneDivider = s.panel.toneDivider ∧ s.walk.station.state = s.station.state ∧
    s.walk.station.cause = s.station.cause ∧ s.walk.station.straps = s.station.straps ∧
    s.walk.station.listenCount = s.station.listenCount ∧
    s.walk.station.closedSpeaking = s.station.closedSpeaking ∧ s.walk.freeIndex = s.freeIndex ∧
    s.walk.pending = s.pending ∧ s.walk.number = s.number ∧ s.walk.gates = s.gates ∧
    s.walk.stationByte = s.stationByte ∧ s.walk.isGateStation = s.isGateStation ∧
    s.walk.isAssigner = s.isAssigner ∧ s.walk.isFinish = s.isFinish ∧ s.walk.receives = s.receives ∧
    s.walk.onCourse = s.onCourse ∧ s.walk.isActive = s.isActive ∧ s.walk.running = s.running ∧
    s.walk.speaking = s.speaking ∧ s.walk.sending = s.sending ∧ s.walk.now = s.now := by
  unfold State.walk
  try dsimp only
  repeat' split
  all_goals first | (simp; done) | (and_intros <;> first | rfl | (simp; done) | (simp; rfl))

/-- What `State.takeFactAndWalk` leaves as it was. -/
@[simp] theorem State.takeFactAndWalk_frame (s : State) (f : Fact) :
    (s.takeFactAndWalk f).clock = s.clock ∧ (s.takeFactAndWalk f).gate = s.gate ∧
    (s.takeFactAndWalk f).table.markEpoch = s.table.markEpoch ∧
    (s.takeFactAndWalk f).table.markRun = s.table.markRun ∧
    (s.takeFactAndWalk f).assign.held = s.assign.held ∧
    (s.takeFactAndWalk f).assign.boundary = s.assign.boundary ∧
    (s.takeFactAndWalk f).assign.recEpoch = s.assign.recEpoch ∧
    (s.takeFactAndWalk f).assign.recHighest = s.assign.recHighest ∧
    (s.takeFactAndWalk f).assign.recOldest = s.assign.recOldest ∧
    (s.takeFactAndWalk f).epoch = s.epoch ∧
    (s.takeFactAndWalk f).outbox.lastSent = s.outbox.lastSent ∧
    (s.takeFactAndWalk f).outbox.firstBeaconSent = s.outbox.firstBeaconSent ∧
    (s.takeFactAndWalk f).outbox.control = s.outbox.control ∧
    (s.takeFactAndWalk f).outbox.beaconDue = s.outbox.beaconDue ∧
    (s.takeFactAndWalk f).outbox.beaconTimer = s.outbox.beaconTimer ∧
    (s.takeFactAndWalk f).outbox.fresh = s.outbox.fresh ∧
    (s.takeFactAndWalk f).outbox.freshEnd = s.outbox.freshEnd ∧
    (s.takeFactAndWalk f).receiver = s.receiver ∧ (s.takeFactAndWalk f).line = s.line ∧
    (s.takeFactAndWalk f).port.phase = s.port.phase ∧
    (s.takeFactAndWalk f).port.fill = s.port.fill ∧ (s.takeFactAndWalk f).port.bits = s.port.bits ∧
    (s.takeFactAndWalk f).port.command = s.port.command ∧
    (s.takeFactAndWalk f).port.latched = s.port.latched ∧
    (s.takeFactAndWalk f).port.latchedSeq = s.port.latchedSeq ∧
    (s.takeFactAndWalk f).port.xselLow = s.port.xselLow ∧
    (s.takeFactAndWalk f).port.shown = s.port.shown ∧
    (s.takeFactAndWalk f).port.xclkHigh = s.port.xclkHigh ∧
    (s.takeFactAndWalk f).panel.trip = s.panel.trip ∧
    (s.takeFactAndWalk f).panel.void = s.panel.void ∧
    (s.takeFactAndWalk f).panel.dnf = s.panel.dnf ∧ (s.takeFactAndWalk f).panel.ack = s.panel.ack ∧
    (s.takeFactAndWalk f).panel.voidHold = s.panel.voidHold ∧
    (s.takeFactAndWalk f).panel.dnfHold = s.panel.dnfHold ∧
    (s.takeFactAndWalk f).panel.comboRunning = s.panel.comboRunning ∧
    (s.takeFactAndWalk f).panel.comboCount = s.panel.comboCount ∧
    (s.takeFactAndWalk f).panel.divider = s.panel.divider ∧
    (s.takeFactAndWalk f).panel.toneDivider = s.panel.toneDivider ∧
    (s.takeFactAndWalk f).station.state = s.station.state ∧
    (s.takeFactAndWalk f).station.cause = s.station.cause ∧
    (s.takeFactAndWalk f).station.straps = s.station.straps ∧
    (s.takeFactAndWalk f).station.listenCount = s.station.listenCount ∧
    (s.takeFactAndWalk f).station.closedSpeaking = s.station.closedSpeaking ∧
    (s.takeFactAndWalk f).freeIndex = s.freeIndex ∧ (s.takeFactAndWalk f).pending = s.pending ∧
    (s.takeFactAndWalk f).number = s.number ∧ (s.takeFactAndWalk f).gates = s.gates ∧
    (s.takeFactAndWalk f).stationByte = s.stationByte ∧
    (s.takeFactAndWalk f).isGateStation = s.isGateStation ∧
    (s.takeFactAndWalk f).isAssigner = s.isAssigner ∧ (s.takeFactAndWalk f).isFinish = s.isFinish ∧
    (s.takeFactAndWalk f).receives = s.receives ∧ (s.takeFactAndWalk f).onCourse = s.onCourse ∧
    (s.takeFactAndWalk f).isActive = s.isActive ∧ (s.takeFactAndWalk f).running = s.running ∧
    (s.takeFactAndWalk f).speaking = s.speaking ∧ (s.takeFactAndWalk f).sending = s.sending ∧
    (s.takeFactAndWalk f).now = s.now := by
  unfold State.takeFactAndWalk
  try dsimp only
  repeat' split
  all_goals first | (simp; done) | (and_intros <;> first | rfl | (simp; done) | (simp; rfl))

/-- What `State.endJoining` leaves as it was. -/
@[simp] theorem State.endJoining_frame (s : State) :
    s.endJoining.clock = s.clock ∧ s.endJoining.gate = s.gate ∧ s.endJoining.table = s.table ∧
    s.endJoining.assign.held = s.assign.held ∧ s.endJoining.assign.boundary = s.assign.boundary ∧
    s.endJoining.assign.recEpoch = s.assign.recEpoch ∧
    s.endJoining.assign.recHighest = s.assign.recHighest ∧
    s.endJoining.assign.recOldest = s.assign.recOldest ∧ s.endJoining.epoch = s.epoch ∧
    s.endJoining.outbox = s.outbox ∧ s.endJoining.receiver = s.receiver ∧
    s.endJoining.line = s.line ∧ s.endJoining.port.phase = s.port.phase ∧
    s.endJoining.port.fill = s.port.fill ∧ s.endJoining.port.bits = s.port.bits ∧
    s.endJoining.port.command = s.port.command ∧ s.endJoining.port.latched = s.port.latched ∧
    s.endJoining.port.latchedSeq = s.port.latchedSeq ∧ s.endJoining.port.xselLow = s.port.xselLow ∧
    s.endJoining.port.shown = s.port.shown ∧ s.endJoining.port.xclkHigh = s.port.xclkHigh ∧
    s.endJoining.panel = s.panel ∧ s.endJoining.station = s.station ∧
    s.endJoining.freeIndex = s.freeIndex ∧ s.endJoining.pending = s.pending ∧
    s.endJoining.number = s.number ∧ s.endJoining.gates = s.gates ∧
    s.endJoining.stationByte = s.stationByte ∧ s.endJoining.isGateStation = s.isGateStation ∧
    s.endJoining.isAssigner = s.isAssigner ∧ s.endJoining.isFinish = s.isFinish ∧
    s.endJoining.receives = s.receives ∧ s.endJoining.onCourse = s.onCourse ∧
    s.endJoining.isActive = s.isActive ∧ s.endJoining.running = s.running ∧
    s.endJoining.speaking = s.speaking ∧ s.endJoining.sending = s.sending ∧
    s.endJoining.now = s.now := by
  unfold State.endJoining
  first | (simp; done) | (and_intros <;> first | rfl | (simp; done) | (simp; rfl))

/-- What `State.join` leaves as it was. -/
@[simp] theorem State.join_frame (s : State) (t : Nat) (m : Bool) :
    (s.join t m).clock = s.clock ∧ (s.join t m).gate = s.gate ∧
    (s.join t m).table.markEpoch = s.table.markEpoch ∧
    (s.join t m).table.markRun = s.table.markRun ∧ (s.join t m).assign.held = s.assign.held ∧
    (s.join t m).assign.boundary = s.assign.boundary ∧
    (s.join t m).assign.recEpoch = s.assign.recEpoch ∧
    (s.join t m).assign.recHighest = s.assign.recHighest ∧
    (s.join t m).assign.recOldest = s.assign.recOldest ∧ (s.join t m).epoch = s.epoch ∧
    (s.join t m).outbox.lastSent = s.outbox.lastSent ∧
    (s.join t m).outbox.firstBeaconSent = s.outbox.firstBeaconSent ∧
    (s.join t m).outbox.control = s.outbox.control ∧
    (s.join t m).outbox.beaconDue = s.outbox.beaconDue ∧
    (s.join t m).outbox.beaconTimer = s.outbox.beaconTimer ∧
    (s.join t m).outbox.fresh = s.outbox.fresh ∧ (s.join t m).outbox.freshEnd = s.outbox.freshEnd ∧
    (s.join t m).receiver = s.receiver ∧ (s.join t m).line = s.line ∧
    (s.join t m).port.phase = s.port.phase ∧ (s.join t m).port.fill = s.port.fill ∧
    (s.join t m).port.bits = s.port.bits ∧ (s.join t m).port.command = s.port.command ∧
    (s.join t m).port.latched = s.port.latched ∧ (s.join t m).port.latchedSeq = s.port.latchedSeq ∧
    (s.join t m).port.xselLow = s.port.xselLow ∧ (s.join t m).port.shown = s.port.shown ∧
    (s.join t m).port.xclkHigh = s.port.xclkHigh ∧ (s.join t m).panel.trip = s.panel.trip ∧
    (s.join t m).panel.void = s.panel.void ∧ (s.join t m).panel.dnf = s.panel.dnf ∧
    (s.join t m).panel.ack = s.panel.ack ∧ (s.join t m).panel.voidHold = s.panel.voidHold ∧
    (s.join t m).panel.dnfHold = s.panel.dnfHold ∧
    (s.join t m).panel.comboRunning = s.panel.comboRunning ∧
    (s.join t m).panel.comboCount = s.panel.comboCount ∧
    (s.join t m).panel.divider = s.panel.divider ∧
    (s.join t m).panel.toneDivider = s.panel.toneDivider ∧
    (s.join t m).station.state = s.station.state ∧ (s.join t m).station.cause = s.station.cause ∧
    (s.join t m).station.straps = s.station.straps ∧
    (s.join t m).station.listenCount = s.station.listenCount ∧
    (s.join t m).station.closedSpeaking = s.station.closedSpeaking ∧
    (s.join t m).freeIndex = s.freeIndex ∧ (s.join t m).pending = s.pending ∧
    (s.join t m).number = s.number ∧ (s.join t m).gates = s.gates ∧
    (s.join t m).stationByte = s.stationByte ∧ (s.join t m).isGateStation = s.isGateStation ∧
    (s.join t m).isAssigner = s.isAssigner ∧ (s.join t m).isFinish = s.isFinish ∧
    (s.join t m).receives = s.receives ∧ (s.join t m).onCourse = s.onCourse ∧
    (s.join t m).isActive = s.isActive ∧ (s.join t m).running = s.running ∧
    (s.join t m).speaking = s.speaking ∧ (s.join t m).sending = s.sending ∧
    (s.join t m).now = s.now := by
  unfold State.join
  first | (simp; done) | (and_intros <;> first | rfl | (simp; done) | (simp; rfl))

/-- What `State.takeCrossing` leaves as it was. -/
@[simp] theorem State.takeCrossing_frame (s : State) (t : Nat) (m : Bool) :
    (s.takeCrossing t m).clock = s.clock ∧ (s.takeCrossing t m).gate = s.gate ∧
    (s.takeCrossing t m).table.markEpoch = s.table.markEpoch ∧
    (s.takeCrossing t m).table.markRun = s.table.markRun ∧
    (s.takeCrossing t m).assign.held = s.assign.held ∧
    (s.takeCrossing t m).assign.boundary = s.assign.boundary ∧
    (s.takeCrossing t m).assign.recEpoch = s.assign.recEpoch ∧
    (s.takeCrossing t m).assign.recHighest = s.assign.recHighest ∧
    (s.takeCrossing t m).assign.recOldest = s.assign.recOldest ∧
    (s.takeCrossing t m).epoch = s.epoch ∧
    (s.takeCrossing t m).outbox.lastSent = s.outbox.lastSent ∧
    (s.takeCrossing t m).outbox.firstBeaconSent = s.outbox.firstBeaconSent ∧
    (s.takeCrossing t m).outbox.control = s.outbox.control ∧
    (s.takeCrossing t m).outbox.beaconDue = s.outbox.beaconDue ∧
    (s.takeCrossing t m).outbox.beaconTimer = s.outbox.beaconTimer ∧
    (s.takeCrossing t m).outbox.fresh = s.outbox.fresh ∧
    (s.takeCrossing t m).outbox.freshEnd = s.outbox.freshEnd ∧
    (s.takeCrossing t m).receiver = s.receiver ∧ (s.takeCrossing t m).line = s.line ∧
    (s.takeCrossing t m).port.phase = s.port.phase ∧ (s.takeCrossing t m).port.fill = s.port.fill ∧
    (s.takeCrossing t m).port.bits = s.port.bits ∧
    (s.takeCrossing t m).port.command = s.port.command ∧
    (s.takeCrossing t m).port.latched = s.port.latched ∧
    (s.takeCrossing t m).port.latchedSeq = s.port.latchedSeq ∧
    (s.takeCrossing t m).port.xselLow = s.port.xselLow ∧
    (s.takeCrossing t m).port.shown = s.port.shown ∧
    (s.takeCrossing t m).port.xclkHigh = s.port.xclkHigh ∧
    (s.takeCrossing t m).panel.trip = s.panel.trip ∧
    (s.takeCrossing t m).panel.void = s.panel.void ∧ (s.takeCrossing t m).panel.dnf = s.panel.dnf ∧
    (s.takeCrossing t m).panel.ack = s.panel.ack ∧
    (s.takeCrossing t m).panel.voidHold = s.panel.voidHold ∧
    (s.takeCrossing t m).panel.dnfHold = s.panel.dnfHold ∧
    (s.takeCrossing t m).panel.comboRunning = s.panel.comboRunning ∧
    (s.takeCrossing t m).panel.comboCount = s.panel.comboCount ∧
    (s.takeCrossing t m).panel.divider = s.panel.divider ∧
    (s.takeCrossing t m).panel.toneDivider = s.panel.toneDivider ∧
    (s.takeCrossing t m).station.state = s.station.state ∧
    (s.takeCrossing t m).station.cause = s.station.cause ∧
    (s.takeCrossing t m).station.straps = s.station.straps ∧
    (s.takeCrossing t m).station.listenCount = s.station.listenCount ∧
    (s.takeCrossing t m).station.closedSpeaking = s.station.closedSpeaking ∧
    (s.takeCrossing t m).freeIndex = s.freeIndex ∧ (s.takeCrossing t m).pending = s.pending ∧
    (s.takeCrossing t m).number = s.number ∧ (s.takeCrossing t m).gates = s.gates ∧
    (s.takeCrossing t m).stationByte = s.stationByte ∧
    (s.takeCrossing t m).isGateStation = s.isGateStation ∧
    (s.takeCrossing t m).isAssigner = s.isAssigner ∧ (s.takeCrossing t m).isFinish = s.isFinish ∧
    (s.takeCrossing t m).receives = s.receives ∧ (s.takeCrossing t m).onCourse = s.onCourse ∧
    (s.takeCrossing t m).isActive = s.isActive ∧ (s.takeCrossing t m).running = s.running ∧
    (s.takeCrossing t m).speaking = s.speaking ∧ (s.takeCrossing t m).sending = s.sending ∧
    (s.takeCrossing t m).now = s.now := by
  unfold State.takeCrossing
  try dsimp only
  repeat' split
  all_goals first | (simp; done) | (and_intros <;> first | rfl | (simp; done) | (simp; rfl))

/-- What `State.expireEntries` leaves as it was. -/
@[simp] theorem State.expireEntries_frame (s : State) :
    s.expireEntries.clock = s.clock ∧ s.expireEntries.gate = s.gate ∧
    s.expireEntries.table = s.table ∧ s.expireEntries.assign.held = s.assign.held ∧
    s.expireEntries.assign.boundary = s.assign.boundary ∧
    s.expireEntries.assign.recEpoch = s.assign.recEpoch ∧
    s.expireEntries.assign.recHighest = s.assign.recHighest ∧
    s.expireEntries.assign.recOldest = s.assign.recOldest ∧ s.expireEntries.epoch = s.epoch ∧
    s.expireEntries.outbox = s.outbox ∧ s.expireEntries.receiver = s.receiver ∧
    s.expireEntries.line = s.line ∧ s.expireEntries.port.phase = s.port.phase ∧
    s.expireEntries.port.fill = s.port.fill ∧ s.expireEntries.port.bits = s.port.bits ∧
    s.expireEntries.port.command = s.port.command ∧ s.expireEntries.port.latched = s.port.latched ∧
    s.expireEntries.port.latchedSeq = s.port.latchedSeq ∧
    s.expireEntries.port.xselLow = s.port.xselLow ∧ s.expireEntries.port.shown = s.port.shown ∧
    s.expireEntries.port.xclkHigh = s.port.xclkHigh ∧ s.expireEntries.panel = s.panel ∧
    s.expireEntries.station = s.station ∧ s.expireEntries.freeIndex = s.freeIndex ∧
    s.expireEntries.pending = s.pending ∧ s.expireEntries.number = s.number ∧
    s.expireEntries.gates = s.gates ∧ s.expireEntries.stationByte = s.stationByte ∧
    s.expireEntries.isGateStation = s.isGateStation ∧ s.expireEntries.isAssigner = s.isAssigner ∧
    s.expireEntries.isFinish = s.isFinish ∧ s.expireEntries.receives = s.receives ∧
    s.expireEntries.onCourse = s.onCourse ∧ s.expireEntries.isActive = s.isActive ∧
    s.expireEntries.running = s.running ∧ s.expireEntries.speaking = s.speaking ∧
    s.expireEntries.sending = s.sending ∧ s.expireEntries.now = s.now := by
  unfold State.expireEntries
  first | (simp; done) | (and_intros <;> first | rfl | (simp; done) | (simp; rfl))

/-- What `State.strayEntries` leaves as it was. -/
@[simp] theorem State.strayEntries_frame (s : State) (r : StrayReason) :
    (s.strayEntries r).clock = s.clock ∧ (s.strayEntries r).gate = s.gate ∧
    (s.strayEntries r).table = s.table ∧ (s.strayEntries r).assign.held = s.assign.held ∧
    (s.strayEntries r).assign.boundary = s.assign.boundary ∧
    (s.strayEntries r).assign.recEpoch = s.assign.recEpoch ∧
    (s.strayEntries r).assign.recHighest = s.assign.recHighest ∧
    (s.strayEntries r).assign.recOldest = s.assign.recOldest ∧ (s.strayEntries r).epoch = s.epoch ∧
    (s.strayEntries r).outbox = s.outbox ∧ (s.strayEntries r).receiver = s.receiver ∧
    (s.strayEntries r).line = s.line ∧ (s.strayEntries r).port.phase = s.port.phase ∧
    (s.strayEntries r).port.fill = s.port.fill ∧ (s.strayEntries r).port.bits = s.port.bits ∧
    (s.strayEntries r).port.command = s.port.command ∧
    (s.strayEntries r).port.latched = s.port.latched ∧
    (s.strayEntries r).port.latchedSeq = s.port.latchedSeq ∧
    (s.strayEntries r).port.xselLow = s.port.xselLow ∧
    (s.strayEntries r).port.shown = s.port.shown ∧
    (s.strayEntries r).port.xclkHigh = s.port.xclkHigh ∧ (s.strayEntries r).panel = s.panel ∧
    (s.strayEntries r).station = s.station ∧ (s.strayEntries r).freeIndex = s.freeIndex ∧
    (s.strayEntries r).pending = s.pending ∧ (s.strayEntries r).number = s.number ∧
    (s.strayEntries r).gates = s.gates ∧ (s.strayEntries r).stationByte = s.stationByte ∧
    (s.strayEntries r).isGateStation = s.isGateStation ∧
    (s.strayEntries r).isAssigner = s.isAssigner ∧ (s.strayEntries r).isFinish = s.isFinish ∧
    (s.strayEntries r).receives = s.receives ∧ (s.strayEntries r).onCourse = s.onCourse ∧
    (s.strayEntries r).isActive = s.isActive ∧ (s.strayEntries r).running = s.running ∧
    (s.strayEntries r).speaking = s.speaking ∧ (s.strayEntries r).sending = s.sending ∧
    (s.strayEntries r).now = s.now := by
  unfold State.strayEntries
  first | (simp; done) | (and_intros <;> first | rfl | (simp; done) | (simp; rfl))

/-- What `State.setHeld` leaves as it was. -/
@[simp] theorem State.setHeld_frame (s : State) (n : Nat) :
    (s.setHeld n).clock = s.clock ∧ (s.setHeld n).gate = s.gate ∧ (s.setHeld n).table = s.table ∧
    (s.setHeld n).assign.recEpoch = s.assign.recEpoch ∧
    (s.setHeld n).assign.recHighest = s.assign.recHighest ∧
    (s.setHeld n).assign.recOldest = s.assign.recOldest ∧ (s.setHeld n).epoch = s.epoch ∧
    (s.setHeld n).outbox = s.outbox ∧ (s.setHeld n).receiver = s.receiver ∧
    (s.setHeld n).line = s.line ∧ (s.setHeld n).port.phase = s.port.phase ∧
    (s.setHeld n).port.fill = s.port.fill ∧ (s.setHeld n).port.bits = s.port.bits ∧
    (s.setHeld n).port.command = s.port.command ∧ (s.setHeld n).port.latched = s.port.latched ∧
    (s.setHeld n).port.latchedSeq = s.port.latchedSeq ∧
    (s.setHeld n).port.xselLow = s.port.xselLow ∧ (s.setHeld n).port.shown = s.port.shown ∧
    (s.setHeld n).port.xclkHigh = s.port.xclkHigh ∧ (s.setHeld n).panel = s.panel ∧
    (s.setHeld n).station = s.station ∧ (s.setHeld n).freeIndex = s.freeIndex ∧
    (s.setHeld n).pending = s.pending ∧ (s.setHeld n).number = s.number ∧
    (s.setHeld n).gates = s.gates ∧ (s.setHeld n).stationByte = s.stationByte ∧
    (s.setHeld n).isGateStation = s.isGateStation ∧ (s.setHeld n).isAssigner = s.isAssigner ∧
    (s.setHeld n).isFinish = s.isFinish ∧ (s.setHeld n).receives = s.receives ∧
    (s.setHeld n).onCourse = s.onCourse ∧ (s.setHeld n).isActive = s.isActive ∧
    (s.setHeld n).running = s.running ∧ (s.setHeld n).speaking = s.speaking ∧
    (s.setHeld n).sending = s.sending ∧ (s.setHeld n).now = s.now := by
  unfold State.setHeld
  try dsimp only
  repeat' split
  all_goals first | (simp; done) | (and_intros <;> first | rfl | (simp; done) | (simp; rfl))

/-- What `State.releaseHeld` leaves as it was. -/
@[simp] theorem State.releaseHeld_frame (s : State) (n : Nat) :
    (s.releaseHeld n).clock = s.clock ∧ (s.releaseHeld n).gate = s.gate ∧
    (s.releaseHeld n).table = s.table ∧ (s.releaseHeld n).assign.entries = s.assign.entries ∧
    (s.releaseHeld n).assign.recEpoch = s.assign.recEpoch ∧
    (s.releaseHeld n).assign.recHighest = s.assign.recHighest ∧
    (s.releaseHeld n).assign.recOldest = s.assign.recOldest ∧ (s.releaseHeld n).epoch = s.epoch ∧
    (s.releaseHeld n).outbox = s.outbox ∧ (s.releaseHeld n).receiver = s.receiver ∧
    (s.releaseHeld n).line = s.line ∧ (s.releaseHeld n).results = s.results ∧
    (s.releaseHeld n).port = s.port ∧ (s.releaseHeld n).panel = s.panel ∧
    (s.releaseHeld n).station = s.station ∧ (s.releaseHeld n).freeIndex = s.freeIndex ∧
    (s.releaseHeld n).pending = s.pending ∧ (s.releaseHeld n).number = s.number ∧
    (s.releaseHeld n).gates = s.gates ∧ (s.releaseHeld n).stationByte = s.stationByte ∧
    (s.releaseHeld n).isGateStation = s.isGateStation ∧
    (s.releaseHeld n).isAssigner = s.isAssigner ∧ (s.releaseHeld n).isFinish = s.isFinish ∧
    (s.releaseHeld n).receives = s.receives ∧ (s.releaseHeld n).onCourse = s.onCourse ∧
    (s.releaseHeld n).isActive = s.isActive ∧ (s.releaseHeld n).running = s.running ∧
    (s.releaseHeld n).speaking = s.speaking ∧ (s.releaseHeld n).sending = s.sending ∧
    (s.releaseHeld n).now = s.now := by
  unfold State.releaseHeld
  try dsimp only
  repeat' split
  all_goals first | (simp; done) | (and_intros <;> first | rfl | (simp; done) | (simp; rfl))

/-- What `State.decideHeld` leaves as it was. -/
@[simp] theorem State.decideHeld_frame (s : State) :
    s.decideHeld.clock = s.clock ∧ s.decideHeld.gate = s.gate ∧ s.decideHeld.table = s.table ∧
    s.decideHeld.assign.entries = s.assign.entries ∧
    s.decideHeld.assign.recEpoch = s.assign.recEpoch ∧
    s.decideHeld.assign.recHighest = s.assign.recHighest ∧
    s.decideHeld.assign.recOldest = s.assign.recOldest ∧ s.decideHeld.epoch = s.epoch ∧
    s.decideHeld.outbox = s.outbox ∧ s.decideHeld.receiver = s.receiver ∧
    s.decideHeld.line = s.line ∧ s.decideHeld.results = s.results ∧ s.decideHeld.port = s.port ∧
    s.decideHeld.panel = s.panel ∧ s.decideHeld.station = s.station ∧
    s.decideHeld.freeIndex = s.freeIndex ∧ s.decideHeld.pending = s.pending ∧
    s.decideHeld.number = s.number ∧ s.decideHeld.gates = s.gates ∧
    s.decideHeld.stationByte = s.stationByte ∧ s.decideHeld.isGateStation = s.isGateStation ∧
    s.decideHeld.isAssigner = s.isAssigner ∧ s.decideHeld.isFinish = s.isFinish ∧
    s.decideHeld.receives = s.receives ∧ s.decideHeld.onCourse = s.onCourse ∧
    s.decideHeld.isActive = s.isActive ∧ s.decideHeld.running = s.running ∧
    s.decideHeld.speaking = s.speaking ∧ s.decideHeld.sending = s.sending ∧
    s.decideHeld.now = s.now := by
  unfold State.decideHeld
  try dsimp only
  repeat' split
  all_goals first | (simp; done) | (and_intros <;> first | rfl | (simp; done) | (simp; rfl))

end Sys2Proof.Machine
end

