-- ==== Sys2Proof/Laws/Session.lean ====
section
/-! SUPPORT. What rulings, sessions, the close and entry to MUTE leave as it was. -/

set_option linter.unusedTactic false
set_option linter.unreachableTactic false
namespace Sys2Proof.Machine

/-- What `State.changeSession` leaves as it was. -/
@[simp] theorem State.changeSession_frame (s : State) (p : Nat) :
    (s.changeSession p).clock = s.clock ∧ (s.changeSession p).gate = s.gate ∧
    (s.changeSession p).table.markEpoch = s.table.markEpoch ∧
    (s.changeSession p).table.markRun = s.table.markRun ∧
    (s.changeSession p).assign.recEpoch = s.assign.recEpoch ∧
    (s.changeSession p).assign.recHighest = s.assign.recHighest ∧
    (s.changeSession p).assign.recOldest = s.assign.recOldest ∧
    (s.changeSession p).epoch = s.epoch ∧ (s.changeSession p).outbox = s.outbox ∧
    (s.changeSession p).receiver = s.receiver ∧ (s.changeSession p).line = s.line ∧
    (s.changeSession p).port.phase = s.port.phase ∧ (s.changeSession p).port.fill = s.port.fill ∧
    (s.changeSession p).port.bits = s.port.bits ∧
    (s.changeSession p).port.command = s.port.command ∧
    (s.changeSession p).port.latched = s.port.latched ∧
    (s.changeSession p).port.latchedSeq = s.port.latchedSeq ∧
    (s.changeSession p).port.xselLow = s.port.xselLow ∧
    (s.changeSession p).port.shown = s.port.shown ∧
    (s.changeSession p).port.xclkHigh = s.port.xclkHigh ∧ (s.changeSession p).panel = s.panel ∧
    (s.changeSession p).station = s.station ∧ (s.changeSession p).freeIndex = s.freeIndex ∧
    (s.changeSession p).pending = s.pending ∧ (s.changeSession p).number = s.number ∧
    (s.changeSession p).gates = s.gates ∧ (s.changeSession p).stationByte = s.stationByte ∧
    (s.changeSession p).isGateStation = s.isGateStation ∧
    (s.changeSession p).isAssigner = s.isAssigner ∧ (s.changeSession p).isFinish = s.isFinish ∧
    (s.changeSession p).receives = s.receives ∧ (s.changeSession p).onCourse = s.onCourse ∧
    (s.changeSession p).isActive = s.isActive ∧ (s.changeSession p).running = s.running ∧
    (s.changeSession p).speaking = s.speaking ∧ (s.changeSession p).sending = s.sending ∧
    (s.changeSession p).now = s.now := by
  unfold State.changeSession
  first | (simp; done) | (and_intros <;> first | rfl | (simp; done) | (simp; rfl))

/-- What `State.adoptEpoch` leaves as it was. -/
@[simp] theorem State.adoptEpoch_frame (s : State) (e : Word16) (p : Nat) :
    (s.adoptEpoch e p).clock = s.clock ∧ (s.adoptEpoch e p).gate = s.gate ∧
    (s.adoptEpoch e p).table.markEpoch = s.table.markEpoch ∧
    (s.adoptEpoch e p).table.markRun = s.table.markRun ∧
    (s.adoptEpoch e p).assign.recEpoch = s.assign.recEpoch ∧
    (s.adoptEpoch e p).assign.recHighest = s.assign.recHighest ∧
    (s.adoptEpoch e p).assign.recOldest = s.assign.recOldest ∧
    (s.adoptEpoch e p).outbox = s.outbox ∧ (s.adoptEpoch e p).receiver = s.receiver ∧
    (s.adoptEpoch e p).line = s.line ∧ (s.adoptEpoch e p).port.phase = s.port.phase ∧
    (s.adoptEpoch e p).port.fill = s.port.fill ∧ (s.adoptEpoch e p).port.bits = s.port.bits ∧
    (s.adoptEpoch e p).port.command = s.port.command ∧
    (s.adoptEpoch e p).port.latched = s.port.latched ∧
    (s.adoptEpoch e p).port.latchedSeq = s.port.latchedSeq ∧
    (s.adoptEpoch e p).port.xselLow = s.port.xselLow ∧
    (s.adoptEpoch e p).port.shown = s.port.shown ∧
    (s.adoptEpoch e p).port.xclkHigh = s.port.xclkHigh ∧ (s.adoptEpoch e p).panel = s.panel ∧
    (s.adoptEpoch e p).station = s.station ∧ (s.adoptEpoch e p).freeIndex = s.freeIndex ∧
    (s.adoptEpoch e p).pending = s.pending ∧ (s.adoptEpoch e p).number = s.number ∧
    (s.adoptEpoch e p).gates = s.gates ∧ (s.adoptEpoch e p).stationByte = s.stationByte ∧
    (s.adoptEpoch e p).isGateStation = s.isGateStation ∧
    (s.adoptEpoch e p).isAssigner = s.isAssigner ∧ (s.adoptEpoch e p).isFinish = s.isFinish ∧
    (s.adoptEpoch e p).receives = s.receives ∧ (s.adoptEpoch e p).onCourse = s.onCourse ∧
    (s.adoptEpoch e p).isActive = s.isActive ∧ (s.adoptEpoch e p).running = s.running ∧
    (s.adoptEpoch e p).speaking = s.speaking ∧ (s.adoptEpoch e p).sending = s.sending ∧
    (s.adoptEpoch e p).now = s.now := by
  unfold State.adoptEpoch
  first | (simp; done) | (and_intros <;> first | rfl | (simp; done) | (simp; rfl))

/-- What `State.newSession` leaves as it was. -/
@[simp] theorem State.newSession_frame (s : State) :
    s.newSession.clock = s.clock ∧ s.newSession.gate = s.gate ∧
    s.newSession.table.markEpoch = s.table.markEpoch ∧
    s.newSession.table.markRun = s.table.markRun ∧
    s.newSession.assign.recEpoch = s.assign.recEpoch ∧
    s.newSession.assign.recHighest = s.assign.recHighest ∧
    s.newSession.assign.recOldest = s.assign.recOldest ∧
    s.newSession.outbox.lastSent = s.outbox.lastSent ∧
    s.newSession.outbox.firstBeaconSent = s.outbox.firstBeaconSent ∧
    s.newSession.outbox.control = s.outbox.control ∧
    s.newSession.outbox.beaconDue = s.outbox.beaconDue ∧
    s.newSession.outbox.beaconTimer = s.outbox.beaconTimer ∧
    s.newSession.outbox.fresh = s.outbox.fresh ∧ s.newSession.outbox.freshEnd = s.outbox.freshEnd ∧
    s.newSession.receiver = s.receiver ∧ s.newSession.line = s.line ∧
    s.newSession.port.phase = s.port.phase ∧ s.newSession.port.fill = s.port.fill ∧
    s.newSession.port.bits = s.port.bits ∧ s.newSession.port.command = s.port.command ∧
    s.newSession.port.latched = s.port.latched ∧ s.newSession.port.latchedSeq = s.port.latchedSeq ∧
    s.newSession.port.xselLow = s.port.xselLow ∧ s.newSession.port.shown = s.port.shown ∧
    s.newSession.port.xclkHigh = s.port.xclkHigh ∧ s.newSession.panel.trip = s.panel.trip ∧
    s.newSession.panel.void = s.panel.void ∧ s.newSession.panel.dnf = s.panel.dnf ∧
    s.newSession.panel.ack = s.panel.ack ∧ s.newSession.panel.voidHold = s.panel.voidHold ∧
    s.newSession.panel.dnfHold = s.panel.dnfHold ∧
    s.newSession.panel.comboRunning = s.panel.comboRunning ∧
    s.newSession.panel.comboCount = s.panel.comboCount ∧
    s.newSession.panel.resultHold = s.panel.resultHold ∧
    s.newSession.panel.runHold = s.panel.runHold ∧ s.newSession.panel.divider = s.panel.divider ∧
    s.newSession.panel.toneDivider = s.panel.toneDivider ∧
    s.newSession.station.state = s.station.state ∧ s.newSession.station.cause = s.station.cause ∧
    s.newSession.station.straps = s.station.straps ∧
    s.newSession.station.listenCount = s.station.listenCount ∧
    s.newSession.station.closedSpeaking = s.station.closedSpeaking ∧
    s.newSession.freeIndex = s.freeIndex ∧ s.newSession.pending = s.pending ∧
    s.newSession.number = s.number ∧ s.newSession.gates = s.gates ∧
    s.newSession.stationByte = s.stationByte ∧ s.newSession.isGateStation = s.isGateStation ∧
    s.newSession.isAssigner = s.isAssigner ∧ s.newSession.isFinish = s.isFinish ∧
    s.newSession.receives = s.receives ∧ s.newSession.onCourse = s.onCourse ∧
    s.newSession.isActive = s.isActive ∧ s.newSession.running = s.running ∧
    s.newSession.speaking = s.speaking ∧ s.newSession.sending = s.sending ∧
    s.newSession.now = s.now := by
  unfold State.newSession
  split
  · simp
  · split
    · simp
    · rename_i h; simp [State.place_frame h]

/-- What `State.rulingRequest` leaves as it was. -/
@[simp] theorem State.rulingRequest_frame (s : State) (v : Verdict) :
    (s.rulingRequest v).clock = s.clock ∧ (s.rulingRequest v).gate = s.gate ∧
    (s.rulingRequest v).table.markEpoch = s.table.markEpoch ∧
    (s.rulingRequest v).table.markRun = s.table.markRun ∧
    (s.rulingRequest v).assign.held = s.assign.held ∧
    (s.rulingRequest v).assign.boundary = s.assign.boundary ∧
    (s.rulingRequest v).assign.recEpoch = s.assign.recEpoch ∧
    (s.rulingRequest v).assign.recHighest = s.assign.recHighest ∧
    (s.rulingRequest v).assign.recOldest = s.assign.recOldest ∧
    (s.rulingRequest v).epoch = s.epoch ∧ (s.rulingRequest v).outbox.lastSent = s.outbox.lastSent ∧
    (s.rulingRequest v).outbox.firstBeaconSent = s.outbox.firstBeaconSent ∧
    (s.rulingRequest v).outbox.control = s.outbox.control ∧
    (s.rulingRequest v).outbox.beaconDue = s.outbox.beaconDue ∧
    (s.rulingRequest v).outbox.beaconTimer = s.outbox.beaconTimer ∧
    (s.rulingRequest v).outbox.fresh = s.outbox.fresh ∧
    (s.rulingRequest v).outbox.freshEnd = s.outbox.freshEnd ∧
    (s.rulingRequest v).receiver = s.receiver ∧ (s.rulingRequest v).line = s.line ∧
    (s.rulingRequest v).port.phase = s.port.phase ∧ (s.rulingRequest v).port.fill = s.port.fill ∧
    (s.rulingRequest v).port.bits = s.port.bits ∧
    (s.rulingRequest v).port.command = s.port.command ∧
    (s.rulingRequest v).port.latched = s.port.latched ∧
    (s.rulingRequest v).port.latchedSeq = s.port.latchedSeq ∧
    (s.rulingRequest v).port.xselLow = s.port.xselLow ∧
    (s.rulingRequest v).port.shown = s.port.shown ∧
    (s.rulingRequest v).port.xclkHigh = s.port.xclkHigh ∧
    (s.rulingRequest v).panel.trip = s.panel.trip ∧ (s.rulingRequest v).panel.void = s.panel.void ∧
    (s.rulingRequest v).panel.dnf = s.panel.dnf ∧ (s.rulingRequest v).panel.ack = s.panel.ack ∧
    (s.rulingRequest v).panel.voidHold = s.panel.voidHold ∧
    (s.rulingRequest v).panel.dnfHold = s.panel.dnfHold ∧
    (s.rulingRequest v).panel.comboRunning = s.panel.comboRunning ∧
    (s.rulingRequest v).panel.comboCount = s.panel.comboCount ∧
    (s.rulingRequest v).panel.divider = s.panel.divider ∧
    (s.rulingRequest v).panel.toneDivider = s.panel.toneDivider ∧
    (s.rulingRequest v).station.state = s.station.state ∧
    (s.rulingRequest v).station.cause = s.station.cause ∧
    (s.rulingRequest v).station.straps = s.station.straps ∧
    (s.rulingRequest v).station.listenCount = s.station.listenCount ∧
    (s.rulingRequest v).station.closedSpeaking = s.station.closedSpeaking ∧
    (s.rulingRequest v).freeIndex = s.freeIndex ∧ (s.rulingRequest v).pending = s.pending ∧
    (s.rulingRequest v).number = s.number ∧ (s.rulingRequest v).gates = s.gates ∧
    (s.rulingRequest v).stationByte = s.stationByte ∧
    (s.rulingRequest v).isGateStation = s.isGateStation ∧
    (s.rulingRequest v).isAssigner = s.isAssigner ∧ (s.rulingRequest v).isFinish = s.isFinish ∧
    (s.rulingRequest v).receives = s.receives ∧ (s.rulingRequest v).onCourse = s.onCourse ∧
    (s.rulingRequest v).isActive = s.isActive ∧ (s.rulingRequest v).running = s.running ∧
    (s.rulingRequest v).speaking = s.speaking ∧ (s.rulingRequest v).sending = s.sending ∧
    (s.rulingRequest v).now = s.now := by
  unfold State.rulingRequest
  simp only
  split
  · simp
  · split
    · simp
    · rename_i h; simp [State.place_frame h]

/-- What `State.acknowledge` leaves as it was. -/
@[simp] theorem State.acknowledge_frame (s : State) :
    s.acknowledge.clock = s.clock ∧ s.acknowledge.gate = s.gate ∧ s.acknowledge.table = s.table ∧
    s.acknowledge.assign = s.assign ∧ s.acknowledge.epoch = s.epoch ∧
    s.acknowledge.outbox = s.outbox ∧ s.acknowledge.receiver = s.receiver ∧
    s.acknowledge.line = s.line ∧ s.acknowledge.results = s.results ∧ s.acknowledge.port = s.port ∧
    s.acknowledge.panel.trip = s.panel.trip ∧ s.acknowledge.panel.void = s.panel.void ∧
    s.acknowledge.panel.dnf = s.panel.dnf ∧ s.acknowledge.panel.ack = s.panel.ack ∧
    s.acknowledge.panel.voidHold = s.panel.voidHold ∧
    s.acknowledge.panel.dnfHold = s.panel.dnfHold ∧
    s.acknowledge.panel.comboRunning = s.panel.comboRunning ∧
    s.acknowledge.panel.comboCount = s.panel.comboCount ∧
    s.acknowledge.panel.resultHold = s.panel.resultHold ∧
    s.acknowledge.panel.runHold = s.panel.runHold ∧ s.acknowledge.panel.divider = s.panel.divider ∧
    s.acknowledge.panel.toneDivider = s.panel.toneDivider ∧
    s.acknowledge.station.state = s.station.state ∧ s.acknowledge.station.cause = s.station.cause ∧
    s.acknowledge.station.straps = s.station.straps ∧
    s.acknowledge.station.listenCount = s.station.listenCount ∧
    s.acknowledge.station.closedSpeaking = s.station.closedSpeaking ∧
    s.acknowledge.freeIndex = s.freeIndex ∧ s.acknowledge.pending = s.pending ∧
    s.acknowledge.number = s.number ∧ s.acknowledge.gates = s.gates ∧
    s.acknowledge.stationByte = s.stationByte ∧ s.acknowledge.isGateStation = s.isGateStation ∧
    s.acknowledge.isAssigner = s.isAssigner ∧ s.acknowledge.isFinish = s.isFinish ∧
    s.acknowledge.receives = s.receives ∧ s.acknowledge.onCourse = s.onCourse ∧
    s.acknowledge.isActive = s.isActive ∧ s.acknowledge.running = s.running ∧
    s.acknowledge.speaking = s.speaking ∧ s.acknowledge.sending = s.sending ∧
    s.acknowledge.now = s.now := by
  unfold State.acknowledge
  try dsimp only
  repeat' split
  all_goals first | (simp; done) | (and_intros <;> first | rfl | (simp; done) | (simp; rfl))

/-- What `State.close` leaves as it was. -/
@[simp] theorem State.close_frame (s : State) :
    s.close.clock = s.clock ∧ s.close.gate = s.gate ∧ s.close.table = s.table ∧
    s.close.assign.held = s.assign.held ∧ s.close.assign.boundary = s.assign.boundary ∧
    s.close.assign.recEpoch = s.assign.recEpoch ∧ s.close.assign.recHighest = s.assign.recHighest ∧
    s.close.assign.recOldest = s.assign.recOldest ∧ s.close.epoch = s.epoch ∧
    s.close.outbox = s.outbox ∧ s.close.receiver = s.receiver ∧ s.close.line = s.line ∧
    s.close.port.phase = s.port.phase ∧ s.close.port.fill = s.port.fill ∧
    s.close.port.bits = s.port.bits ∧ s.close.port.command = s.port.command ∧
    s.close.port.latched = s.port.latched ∧ s.close.port.latchedSeq = s.port.latchedSeq ∧
    s.close.port.xselLow = s.port.xselLow ∧ s.close.port.shown = s.port.shown ∧
    s.close.port.xclkHigh = s.port.xclkHigh ∧ s.close.panel.trip = s.panel.trip ∧
    s.close.panel.void = s.panel.void ∧ s.close.panel.dnf = s.panel.dnf ∧
    s.close.panel.ack = s.panel.ack ∧ s.close.panel.voidHold = s.panel.voidHold ∧
    s.close.panel.dnfHold = s.panel.dnfHold ∧ s.close.panel.comboRunning = s.panel.comboRunning ∧
    s.close.panel.comboCount = s.panel.comboCount ∧ s.close.panel.resultHold = s.panel.resultHold ∧
    s.close.panel.runHold = s.panel.runHold ∧ s.close.panel.divider = s.panel.divider ∧
    s.close.panel.toneDivider = s.panel.toneDivider ∧ s.close.station.cause = s.station.cause ∧
    s.close.station.straps = s.station.straps ∧
    s.close.station.listenCount = s.station.listenCount ∧ s.close.freeIndex = s.freeIndex ∧
    s.close.pending = s.pending ∧ s.close.number = s.number ∧ s.close.gates = s.gates ∧
    s.close.stationByte = s.stationByte ∧ s.close.isGateStation = s.isGateStation ∧
    s.close.isAssigner = s.isAssigner ∧ s.close.isFinish = s.isFinish ∧
    s.close.sending = s.sending ∧ s.close.now = s.now := by
  unfold State.close
  first | (simp; done) | (and_intros <;> first | rfl | (simp; done) | (simp; rfl))

/-- What `State.closeAtLimit` leaves as it was. -/
@[simp] theorem State.closeAtLimit_frame (s : State) :
    s.closeAtLimit.clock = s.clock ∧ s.closeAtLimit.gate = s.gate ∧ s.closeAtLimit.table = s.table ∧
    s.closeAtLimit.assign.held = s.assign.held ∧
    s.closeAtLimit.assign.boundary = s.assign.boundary ∧
    s.closeAtLimit.assign.recEpoch = s.assign.recEpoch ∧
    s.closeAtLimit.assign.recHighest = s.assign.recHighest ∧
    s.closeAtLimit.assign.recOldest = s.assign.recOldest ∧ s.closeAtLimit.epoch = s.epoch ∧
    s.closeAtLimit.outbox = s.outbox ∧ s.closeAtLimit.receiver = s.receiver ∧
    s.closeAtLimit.line = s.line ∧ s.closeAtLimit.port.phase = s.port.phase ∧
    s.closeAtLimit.port.fill = s.port.fill ∧ s.closeAtLimit.port.bits = s.port.bits ∧
    s.closeAtLimit.port.command = s.port.command ∧ s.closeAtLimit.port.latched = s.port.latched ∧
    s.closeAtLimit.port.latchedSeq = s.port.latchedSeq ∧
    s.closeAtLimit.port.xselLow = s.port.xselLow ∧ s.closeAtLimit.port.shown = s.port.shown ∧
    s.closeAtLimit.port.xclkHigh = s.port.xclkHigh ∧ s.closeAtLimit.panel.trip = s.panel.trip ∧
    s.closeAtLimit.panel.void = s.panel.void ∧ s.closeAtLimit.panel.dnf = s.panel.dnf ∧
    s.closeAtLimit.panel.ack = s.panel.ack ∧ s.closeAtLimit.panel.voidHold = s.panel.voidHold ∧
    s.closeAtLimit.panel.dnfHold = s.panel.dnfHold ∧
    s.closeAtLimit.panel.comboRunning = s.panel.comboRunning ∧
    s.closeAtLimit.panel.comboCount = s.panel.comboCount ∧
    s.closeAtLimit.panel.resultHold = s.panel.resultHold ∧
    s.closeAtLimit.panel.runHold = s.panel.runHold ∧
    s.closeAtLimit.panel.divider = s.panel.divider ∧
    s.closeAtLimit.panel.toneDivider = s.panel.toneDivider ∧
    s.closeAtLimit.station.cause = s.station.cause ∧
    s.closeAtLimit.station.straps = s.station.straps ∧
    s.closeAtLimit.station.listenCount = s.station.listenCount ∧
    s.closeAtLimit.freeIndex = s.freeIndex ∧ s.closeAtLimit.pending = s.pending ∧
    s.closeAtLimit.number = s.number ∧ s.closeAtLimit.gates = s.gates ∧
    s.closeAtLimit.stationByte = s.stationByte ∧ s.closeAtLimit.isGateStation = s.isGateStation ∧
    s.closeAtLimit.isAssigner = s.isAssigner ∧ s.closeAtLimit.isFinish = s.isFinish ∧
    s.closeAtLimit.sending = s.sending ∧ s.closeAtLimit.now = s.now := by
  unfold State.closeAtLimit
  try dsimp only
  repeat' split
  all_goals first | (simp; done) | (and_intros <;> first | rfl | (simp; done) | (simp; rfl))

/-- What `State.muteFromActive` leaves as it was. -/
@[simp] theorem State.muteFromActive_frame (s : State) :
    s.muteFromActive.clock = s.clock ∧ s.muteFromActive.gate = s.gate ∧
    s.muteFromActive.table = s.table ∧ s.muteFromActive.assign.held = s.assign.held ∧
    s.muteFromActive.assign.boundary = s.assign.boundary ∧
    s.muteFromActive.assign.recEpoch = s.assign.recEpoch ∧
    s.muteFromActive.assign.recHighest = s.assign.recHighest ∧
    s.muteFromActive.assign.recOldest = s.assign.recOldest ∧ s.muteFromActive.epoch = s.epoch ∧
    s.muteFromActive.outbox.ring = s.outbox.ring ∧
    s.muteFromActive.outbox.nextSeq = s.outbox.nextSeq ∧
    s.muteFromActive.outbox.lastSent = s.outbox.lastSent ∧
    s.muteFromActive.outbox.firstBeaconSent = s.outbox.firstBeaconSent ∧
    s.muteFromActive.outbox.fresh = s.outbox.fresh ∧
    s.muteFromActive.outbox.freshEnd = s.outbox.freshEnd ∧ s.muteFromActive.receiver = s.receiver ∧
    s.muteFromActive.line.rest = s.line.rest ∧
    s.muteFromActive.line.restPeriods = s.line.restPeriods ∧
    s.muteFromActive.line.failed = s.line.failed ∧
    s.muteFromActive.line.idlePeriods = s.line.idlePeriods ∧
    s.muteFromActive.line.restDue = s.line.restDue ∧ s.muteFromActive.line.dominant = s.line.dominant ∧
    s.muteFromActive.line.reading = s.line.reading ∧ s.muteFromActive.line.rx = s.line.rx ∧
    s.muteFromActive.line.complete = s.line.complete ∧ s.muteFromActive.port.phase = s.port.phase ∧
    s.muteFromActive.port.fill = s.port.fill ∧ s.muteFromActive.port.bits = s.port.bits ∧
    s.muteFromActive.port.command = s.port.command ∧
    s.muteFromActive.port.latched = s.port.latched ∧
    s.muteFromActive.port.latchedSeq = s.port.latchedSeq ∧
    s.muteFromActive.port.xselLow = s.port.xselLow ∧ s.muteFromActive.port.shown = s.port.shown ∧
    s.muteFromActive.port.xclkHigh = s.port.xclkHigh ∧ s.muteFromActive.panel = s.panel ∧
    s.muteFromActive.station.cause = s.station.cause ∧
    s.muteFromActive.station.straps = s.station.straps ∧
    s.muteFromActive.station.errors = s.station.errors ∧
    s.muteFromActive.station.listenCount = s.station.listenCount ∧
    s.muteFromActive.freeIndex = s.freeIndex ∧ s.muteFromActive.pending = s.pending ∧
    s.muteFromActive.number = s.number ∧ s.muteFromActive.gates = s.gates ∧
    s.muteFromActive.stationByte = s.stationByte ∧
    s.muteFromActive.isGateStation = s.isGateStation ∧ s.muteFromActive.isAssigner = s.isAssigner ∧
    s.muteFromActive.isFinish = s.isFinish ∧ s.muteFromActive.now = s.now := by
  unfold State.muteFromActive
  first | (simp; done) | (and_intros <;> first | rfl | (simp; done) | (simp; rfl))

/-- What `State.muteFromListening` leaves as it was. -/
@[simp] theorem State.muteFromListening_frame (s : State) :
    s.muteFromListening.clock = s.clock ∧ s.muteFromListening.table = s.table ∧
    s.muteFromListening.assign.held = s.assign.held ∧
    s.muteFromListening.assign.boundary = s.assign.boundary ∧
    s.muteFromListening.assign.recEpoch = s.assign.recEpoch ∧
    s.muteFromListening.assign.recHighest = s.assign.recHighest ∧
    s.muteFromListening.assign.recOldest = s.assign.recOldest ∧
    s.muteFromListening.outbox = s.outbox ∧ s.muteFromListening.receiver = s.receiver ∧
    s.muteFromListening.line = s.line ∧ s.muteFromListening.port.phase = s.port.phase ∧
    s.muteFromListening.port.fill = s.port.fill ∧ s.muteFromListening.port.bits = s.port.bits ∧
    s.muteFromListening.port.command = s.port.command ∧
    s.muteFromListening.port.latched = s.port.latched ∧
    s.muteFromListening.port.latchedSeq = s.port.latchedSeq ∧
    s.muteFromListening.port.xselLow = s.port.xselLow ∧
    s.muteFromListening.port.shown = s.port.shown ∧
    s.muteFromListening.port.xclkHigh = s.port.xclkHigh ∧
    s.muteFromListening.panel.trip = s.panel.trip ∧ s.muteFromListening.panel.void = s.panel.void ∧
    s.muteFromListening.panel.dnf = s.panel.dnf ∧ s.muteFromListening.panel.ack = s.panel.ack ∧
    s.muteFromListening.panel.voidHold = s.panel.voidHold ∧
    s.muteFromListening.panel.dnfHold = s.panel.dnfHold ∧
    s.muteFromListening.panel.comboRunning = s.panel.comboRunning ∧
    s.muteFromListening.panel.comboCount = s.panel.comboCount ∧
    s.muteFromListening.panel.resultHold = s.panel.resultHold ∧
    s.muteFromListening.panel.runHold = s.panel.runHold ∧
    s.muteFromListening.panel.divider = s.panel.divider ∧
    s.muteFromListening.panel.toneDivider = s.panel.toneDivider ∧
    s.muteFromListening.station.cause = s.station.cause ∧
    s.muteFromListening.station.straps = s.station.straps ∧
    s.muteFromListening.station.listenCount = s.station.listenCount ∧
    s.muteFromListening.freeIndex = s.freeIndex ∧ s.muteFromListening.pending = s.pending ∧
    s.muteFromListening.number = s.number ∧ s.muteFromListening.gates = s.gates ∧
    s.muteFromListening.stationByte = s.stationByte ∧
    s.muteFromListening.isGateStation = s.isGateStation ∧
    s.muteFromListening.isAssigner = s.isAssigner ∧ s.muteFromListening.isFinish = s.isFinish ∧
    s.muteFromListening.sending = s.sending ∧ s.muteFromListening.now = s.now := by
  unfold State.muteFromListening
  first | (simp; done) | (and_intros <;> first | rfl | (simp; done) | (simp; rfl))

/-- What `State.silence` leaves as it was. -/
@[simp] theorem State.silence_frame (s : State) :
    s.silence.clock = s.clock ∧ s.silence.table = s.table ∧ s.silence.assign.held = s.assign.held ∧
    s.silence.assign.boundary = s.assign.boundary ∧ s.silence.assign.recEpoch = s.assign.recEpoch ∧
    s.silence.assign.recHighest = s.assign.recHighest ∧
    s.silence.assign.recOldest = s.assign.recOldest ∧ s.silence.outbox.ring = s.outbox.ring ∧
    s.silence.outbox.nextSeq = s.outbox.nextSeq ∧ s.silence.outbox.lastSent = s.outbox.lastSent ∧
    s.silence.outbox.firstBeaconSent = s.outbox.firstBeaconSent ∧
    s.silence.outbox.fresh = s.outbox.fresh ∧ s.silence.outbox.freshEnd = s.outbox.freshEnd ∧
    s.silence.receiver = s.receiver ∧ s.silence.line.rest = s.line.rest ∧
    s.silence.line.restPeriods = s.line.restPeriods ∧ s.silence.line.failed = s.line.failed ∧
    s.silence.line.idlePeriods = s.line.idlePeriods ∧ s.silence.line.restDue = s.line.restDue ∧
    s.silence.line.dominant = s.line.dominant ∧ s.silence.line.reading = s.line.reading ∧
    s.silence.line.rx = s.line.rx ∧ s.silence.line.complete = s.line.complete ∧
    s.silence.port.phase = s.port.phase ∧ s.silence.port.fill = s.port.fill ∧
    s.silence.port.bits = s.port.bits ∧ s.silence.port.command = s.port.command ∧
    s.silence.port.latched = s.port.latched ∧ s.silence.port.latchedSeq = s.port.latchedSeq ∧
    s.silence.port.xselLow = s.port.xselLow ∧ s.silence.port.shown = s.port.shown ∧
    s.silence.port.xclkHigh = s.port.xclkHigh ∧ s.silence.panel.trip = s.panel.trip ∧
    s.silence.panel.void = s.panel.void ∧ s.silence.panel.dnf = s.panel.dnf ∧
    s.silence.panel.ack = s.panel.ack ∧ s.silence.panel.voidHold = s.panel.voidHold ∧
    s.silence.panel.dnfHold = s.panel.dnfHold ∧
    s.silence.panel.comboRunning = s.panel.comboRunning ∧
    s.silence.panel.comboCount = s.panel.comboCount ∧
    s.silence.panel.resultHold = s.panel.resultHold ∧ s.silence.panel.runHold = s.panel.runHold ∧
    s.silence.panel.divider = s.panel.divider ∧ s.silence.panel.toneDivider = s.panel.toneDivider ∧
    s.silence.station.cause = s.station.cause ∧ s.silence.station.straps = s.station.straps ∧
    s.silence.station.listenCount = s.station.listenCount ∧ s.silence.freeIndex = s.freeIndex ∧
    s.silence.pending = s.pending ∧ s.silence.number = s.number ∧ s.silence.gates = s.gates ∧
    s.silence.stationByte = s.stationByte ∧ s.silence.isGateStation = s.isGateStation ∧
    s.silence.isAssigner = s.isAssigner ∧ s.silence.isFinish = s.isFinish ∧
    s.silence.now = s.now := by
  unfold State.silence
  try dsimp only
  repeat' split
  all_goals first | (simp; done) | (and_intros <;> first | rfl | (simp; done) | (simp; rfl))

/-- What `State.handSensor` leaves as it was. -/
@[simp] theorem State.handSensor_frame (s : State) (t : Nat) :
    (s.handSensor t).clock = s.clock ∧ (s.handSensor t).gate = s.gate ∧
    (s.handSensor t).table.markEpoch = s.table.markEpoch ∧
    (s.handSensor t).table.markRun = s.table.markRun ∧
    (s.handSensor t).assign.held = s.assign.held ∧
    (s.handSensor t).assign.boundary = s.assign.boundary ∧
    (s.handSensor t).assign.recEpoch = s.assign.recEpoch ∧
    (s.handSensor t).assign.recHighest = s.assign.recHighest ∧
    (s.handSensor t).assign.recOldest = s.assign.recOldest ∧ (s.handSensor t).epoch = s.epoch ∧
    (s.handSensor t).outbox.lastSent = s.outbox.lastSent ∧
    (s.handSensor t).outbox.firstBeaconSent = s.outbox.firstBeaconSent ∧
    (s.handSensor t).outbox.control = s.outbox.control ∧
    (s.handSensor t).outbox.beaconDue = s.outbox.beaconDue ∧
    (s.handSensor t).outbox.beaconTimer = s.outbox.beaconTimer ∧
    (s.handSensor t).outbox.fresh = s.outbox.fresh ∧
    (s.handSensor t).outbox.freshEnd = s.outbox.freshEnd ∧ (s.handSensor t).receiver = s.receiver ∧
    (s.handSensor t).line = s.line ∧ (s.handSensor t).port.phase = s.port.phase ∧
    (s.handSensor t).port.fill = s.port.fill ∧ (s.handSensor t).port.bits = s.port.bits ∧
    (s.handSensor t).port.command = s.port.command ∧
    (s.handSensor t).port.latched = s.port.latched ∧
    (s.handSensor t).port.latchedSeq = s.port.latchedSeq ∧
    (s.handSensor t).port.xselLow = s.port.xselLow ∧ (s.handSensor t).port.shown = s.port.shown ∧
    (s.handSensor t).port.xclkHigh = s.port.xclkHigh ∧ (s.handSensor t).panel.trip = s.panel.trip ∧
    (s.handSensor t).panel.void = s.panel.void ∧ (s.handSensor t).panel.dnf = s.panel.dnf ∧
    (s.handSensor t).panel.ack = s.panel.ack ∧ (s.handSensor t).panel.voidHold = s.panel.voidHold ∧
    (s.handSensor t).panel.dnfHold = s.panel.dnfHold ∧
    (s.handSensor t).panel.comboRunning = s.panel.comboRunning ∧
    (s.handSensor t).panel.comboCount = s.panel.comboCount ∧
    (s.handSensor t).panel.divider = s.panel.divider ∧
    (s.handSensor t).panel.toneDivider = s.panel.toneDivider ∧
    (s.handSensor t).station.state = s.station.state ∧
    (s.handSensor t).station.cause = s.station.cause ∧
    (s.handSensor t).station.straps = s.station.straps ∧
    (s.handSensor t).station.listenCount = s.station.listenCount ∧
    (s.handSensor t).station.closedSpeaking = s.station.closedSpeaking ∧
    (s.handSensor t).freeIndex = s.freeIndex ∧ (s.handSensor t).pending = s.pending ∧
    (s.handSensor t).number = s.number ∧ (s.handSensor t).gates = s.gates ∧
    (s.handSensor t).stationByte = s.stationByte ∧
    (s.handSensor t).isGateStation = s.isGateStation ∧ (s.handSensor t).isAssigner = s.isAssigner ∧
    (s.handSensor t).isFinish = s.isFinish ∧ (s.handSensor t).receives = s.receives ∧
    (s.handSensor t).onCourse = s.onCourse ∧ (s.handSensor t).isActive = s.isActive ∧
    (s.handSensor t).running = s.running ∧ (s.handSensor t).speaking = s.speaking ∧
    (s.handSensor t).sending = s.sending ∧ (s.handSensor t).now = s.now := by
  unfold State.handSensor
  try dsimp only
  repeat' split
  all_goals first | (simp; done) | (and_intros <;> first | rfl | (simp; done) | (simp; rfl))

/-- What `State.handTrip` leaves as it was. -/
@[simp] theorem State.handTrip_frame (s : State) (t : Nat) :
    (s.handTrip t).clock = s.clock ∧ (s.handTrip t).gate = s.gate ∧
    (s.handTrip t).table.markEpoch = s.table.markEpoch ∧
    (s.handTrip t).table.markRun = s.table.markRun ∧ (s.handTrip t).assign.held = s.assign.held ∧
    (s.handTrip t).assign.boundary = s.assign.boundary ∧
    (s.handTrip t).assign.recEpoch = s.assign.recEpoch ∧
    (s.handTrip t).assign.recHighest = s.assign.recHighest ∧
    (s.handTrip t).assign.recOldest = s.assign.recOldest ∧ (s.handTrip t).epoch = s.epoch ∧
    (s.handTrip t).outbox.lastSent = s.outbox.lastSent ∧
    (s.handTrip t).outbox.firstBeaconSent = s.outbox.firstBeaconSent ∧
    (s.handTrip t).outbox.control = s.outbox.control ∧
    (s.handTrip t).outbox.beaconDue = s.outbox.beaconDue ∧
    (s.handTrip t).outbox.beaconTimer = s.outbox.beaconTimer ∧
    (s.handTrip t).outbox.fresh = s.outbox.fresh ∧
    (s.handTrip t).outbox.freshEnd = s.outbox.freshEnd ∧ (s.handTrip t).receiver = s.receiver ∧
    (s.handTrip t).line = s.line ∧ (s.handTrip t).port.phase = s.port.phase ∧
    (s.handTrip t).port.fill = s.port.fill ∧ (s.handTrip t).port.bits = s.port.bits ∧
    (s.handTrip t).port.command = s.port.command ∧ (s.handTrip t).port.latched = s.port.latched ∧
    (s.handTrip t).port.latchedSeq = s.port.latchedSeq ∧
    (s.handTrip t).port.xselLow = s.port.xselLow ∧ (s.handTrip t).port.shown = s.port.shown ∧
    (s.handTrip t).port.xclkHigh = s.port.xclkHigh ∧ (s.handTrip t).panel.trip = s.panel.trip ∧
    (s.handTrip t).panel.void = s.panel.void ∧ (s.handTrip t).panel.dnf = s.panel.dnf ∧
    (s.handTrip t).panel.ack = s.panel.ack ∧ (s.handTrip t).panel.voidHold = s.panel.voidHold ∧
    (s.handTrip t).panel.dnfHold = s.panel.dnfHold ∧
    (s.handTrip t).panel.comboRunning = s.panel.comboRunning ∧
    (s.handTrip t).panel.comboCount = s.panel.comboCount ∧
    (s.handTrip t).panel.divider = s.panel.divider ∧
    (s.handTrip t).panel.toneDivider = s.panel.toneDivider ∧
    (s.handTrip t).station.state = s.station.state ∧
    (s.handTrip t).station.cause = s.station.cause ∧
    (s.handTrip t).station.straps = s.station.straps ∧
    (s.handTrip t).station.listenCount = s.station.listenCount ∧
    (s.handTrip t).station.closedSpeaking = s.station.closedSpeaking ∧
    (s.handTrip t).freeIndex = s.freeIndex ∧ (s.handTrip t).pending = s.pending ∧
    (s.handTrip t).number = s.number ∧ (s.handTrip t).gates = s.gates ∧
    (s.handTrip t).stationByte = s.stationByte ∧ (s.handTrip t).isGateStation = s.isGateStation ∧
    (s.handTrip t).isAssigner = s.isAssigner ∧ (s.handTrip t).isFinish = s.isFinish ∧
    (s.handTrip t).receives = s.receives ∧ (s.handTrip t).onCourse = s.onCourse ∧
    (s.handTrip t).isActive = s.isActive ∧ (s.handTrip t).running = s.running ∧
    (s.handTrip t).speaking = s.speaking ∧ (s.handTrip t).sending = s.sending ∧
    (s.handTrip t).now = s.now := by
  unfold State.handTrip
  try dsimp only
  repeat' split
  all_goals first | (simp; done) | (and_intros <;> first | rfl | (simp; done) | (simp; rfl))

end Sys2Proof.Machine
end

