-- ==== Sys2Proof/Laws/Peers.lean ====
section
/-! SUPPORT. What the Peer Table's operations and the taking of a carried time leave as it was. -/

set_option linter.unusedTactic false
set_option linter.unreachableTactic false
namespace Sys2Proof.Machine

/-- What `State.dropMissing` leaves as it was. -/
@[simp] theorem State.dropMissing_frame (s : State) (p : Nat) (q : Byte) :
    (s.dropMissing p q).clock = s.clock ∧ (s.dropMissing p q).gate = s.gate ∧
    (s.dropMissing p q).table = s.table ∧ (s.dropMissing p q).assign = s.assign ∧
    (s.dropMissing p q).epoch = s.epoch ∧ (s.dropMissing p q).outbox.ring = s.outbox.ring ∧
    (s.dropMissing p q).outbox.nextSeq = s.outbox.nextSeq ∧
    (s.dropMissing p q).outbox.lastSent = s.outbox.lastSent ∧
    (s.dropMissing p q).outbox.firstBeaconSent = s.outbox.firstBeaconSent ∧
    (s.dropMissing p q).outbox.beaconDue = s.outbox.beaconDue ∧
    (s.dropMissing p q).outbox.beaconTimer = s.outbox.beaconTimer ∧
    (s.dropMissing p q).outbox.fresh = s.outbox.fresh ∧
    (s.dropMissing p q).outbox.freshEnd = s.outbox.freshEnd ∧
    (s.dropMissing p q).receiver.snapshot = s.receiver.snapshot ∧
    (s.dropMissing p q).line = s.line ∧ (s.dropMissing p q).results = s.results ∧
    (s.dropMissing p q).port = s.port ∧ (s.dropMissing p q).panel = s.panel ∧
    (s.dropMissing p q).station = s.station ∧ (s.dropMissing p q).freeIndex = s.freeIndex ∧
    (s.dropMissing p q).pending = s.pending ∧ (s.dropMissing p q).number = s.number ∧
    (s.dropMissing p q).gates = s.gates ∧ (s.dropMissing p q).stationByte = s.stationByte ∧
    (s.dropMissing p q).isGateStation = s.isGateStation ∧
    (s.dropMissing p q).isAssigner = s.isAssigner ∧ (s.dropMissing p q).isFinish = s.isFinish ∧
    (s.dropMissing p q).receives = s.receives ∧ (s.dropMissing p q).onCourse = s.onCourse ∧
    (s.dropMissing p q).isActive = s.isActive ∧ (s.dropMissing p q).running = s.running ∧
    (s.dropMissing p q).speaking = s.speaking ∧ (s.dropMissing p q).sending = s.sending ∧
    (s.dropMissing p q).now = s.now := by
  unfold State.dropMissing
  first | (simp; done) | (and_intros <;> first | rfl | (simp; done) | (simp; rfl))

/-- What `State.lose` leaves as it was. -/
@[simp] theorem State.lose_frame (s : State) (p : Nat) (q : Byte) :
    (s.lose p q).clock = s.clock ∧ (s.lose p q).gate = s.gate ∧ (s.lose p q).table = s.table ∧
    (s.lose p q).assign.recEpoch = s.assign.recEpoch ∧
    (s.lose p q).assign.recHighest = s.assign.recHighest ∧
    (s.lose p q).assign.recOldest = s.assign.recOldest ∧ (s.lose p q).epoch = s.epoch ∧
    (s.lose p q).outbox.ring = s.outbox.ring ∧ (s.lose p q).outbox.nextSeq = s.outbox.nextSeq ∧
    (s.lose p q).outbox.lastSent = s.outbox.lastSent ∧
    (s.lose p q).outbox.firstBeaconSent = s.outbox.firstBeaconSent ∧
    (s.lose p q).outbox.beaconDue = s.outbox.beaconDue ∧
    (s.lose p q).outbox.beaconTimer = s.outbox.beaconTimer ∧
    (s.lose p q).outbox.fresh = s.outbox.fresh ∧ (s.lose p q).outbox.freshEnd = s.outbox.freshEnd ∧
    (s.lose p q).receiver.snapshot = s.receiver.snapshot ∧ (s.lose p q).line = s.line ∧
    (s.lose p q).port.phase = s.port.phase ∧ (s.lose p q).port.fill = s.port.fill ∧
    (s.lose p q).port.bits = s.port.bits ∧ (s.lose p q).port.command = s.port.command ∧
    (s.lose p q).port.latched = s.port.latched ∧ (s.lose p q).port.latchedSeq = s.port.latchedSeq ∧
    (s.lose p q).port.xselLow = s.port.xselLow ∧ (s.lose p q).port.shown = s.port.shown ∧
    (s.lose p q).port.xclkHigh = s.port.xclkHigh ∧ (s.lose p q).panel.trip = s.panel.trip ∧
    (s.lose p q).panel.void = s.panel.void ∧ (s.lose p q).panel.dnf = s.panel.dnf ∧
    (s.lose p q).panel.ack = s.panel.ack ∧ (s.lose p q).panel.voidHold = s.panel.voidHold ∧
    (s.lose p q).panel.dnfHold = s.panel.dnfHold ∧
    (s.lose p q).panel.comboRunning = s.panel.comboRunning ∧
    (s.lose p q).panel.comboCount = s.panel.comboCount ∧
    (s.lose p q).panel.resultHold = s.panel.resultHold ∧
    (s.lose p q).panel.runHold = s.panel.runHold ∧ (s.lose p q).panel.divider = s.panel.divider ∧
    (s.lose p q).panel.toneDivider = s.panel.toneDivider ∧
    (s.lose p q).station.state = s.station.state ∧ (s.lose p q).station.cause = s.station.cause ∧
    (s.lose p q).station.straps = s.station.straps ∧
    (s.lose p q).station.listenCount = s.station.listenCount ∧
    (s.lose p q).station.closedSpeaking = s.station.closedSpeaking ∧
    (s.lose p q).freeIndex = s.freeIndex ∧ (s.lose p q).pending = s.pending ∧
    (s.lose p q).number = s.number ∧ (s.lose p q).gates = s.gates ∧
    (s.lose p q).stationByte = s.stationByte ∧ (s.lose p q).isGateStation = s.isGateStation ∧
    (s.lose p q).isAssigner = s.isAssigner ∧ (s.lose p q).isFinish = s.isFinish ∧
    (s.lose p q).receives = s.receives ∧ (s.lose p q).onCourse = s.onCourse ∧
    (s.lose p q).isActive = s.isActive ∧ (s.lose p q).running = s.running ∧
    (s.lose p q).speaking = s.speaking ∧ (s.lose p q).sending = s.sending ∧
    (s.lose p q).now = s.now := by
  unfold State.lose
  try dsimp only
  repeat' split
  all_goals first | (simp; done) | (and_intros <;> first | rfl | (simp; done) | (simp; rfl))

/-- What `State.loseAll` leaves as it was. -/
@[simp] theorem State.loseAll_frame (s : State) (p : Nat) (l : List Byte) :
    (s.loseAll p l).clock = s.clock ∧ (s.loseAll p l).gate = s.gate ∧
    (s.loseAll p l).table = s.table ∧ (s.loseAll p l).assign.recEpoch = s.assign.recEpoch ∧
    (s.loseAll p l).assign.recHighest = s.assign.recHighest ∧
    (s.loseAll p l).assign.recOldest = s.assign.recOldest ∧ (s.loseAll p l).epoch = s.epoch ∧
    (s.loseAll p l).outbox.ring = s.outbox.ring ∧
    (s.loseAll p l).outbox.nextSeq = s.outbox.nextSeq ∧
    (s.loseAll p l).outbox.lastSent = s.outbox.lastSent ∧
    (s.loseAll p l).outbox.firstBeaconSent = s.outbox.firstBeaconSent ∧
    (s.loseAll p l).outbox.beaconDue = s.outbox.beaconDue ∧
    (s.loseAll p l).outbox.beaconTimer = s.outbox.beaconTimer ∧
    (s.loseAll p l).outbox.fresh = s.outbox.fresh ∧
    (s.loseAll p l).outbox.freshEnd = s.outbox.freshEnd ∧
    (s.loseAll p l).receiver.snapshot = s.receiver.snapshot ∧ (s.loseAll p l).line = s.line ∧
    (s.loseAll p l).port.phase = s.port.phase ∧ (s.loseAll p l).port.fill = s.port.fill ∧
    (s.loseAll p l).port.bits = s.port.bits ∧ (s.loseAll p l).port.command = s.port.command ∧
    (s.loseAll p l).port.latched = s.port.latched ∧
    (s.loseAll p l).port.latchedSeq = s.port.latchedSeq ∧
    (s.loseAll p l).port.xselLow = s.port.xselLow ∧ (s.loseAll p l).port.shown = s.port.shown ∧
    (s.loseAll p l).port.xclkHigh = s.port.xclkHigh ∧ (s.loseAll p l).panel.trip = s.panel.trip ∧
    (s.loseAll p l).panel.void = s.panel.void ∧ (s.loseAll p l).panel.dnf = s.panel.dnf ∧
    (s.loseAll p l).panel.ack = s.panel.ack ∧ (s.loseAll p l).panel.voidHold = s.panel.voidHold ∧
    (s.loseAll p l).panel.dnfHold = s.panel.dnfHold ∧
    (s.loseAll p l).panel.comboRunning = s.panel.comboRunning ∧
    (s.loseAll p l).panel.comboCount = s.panel.comboCount ∧
    (s.loseAll p l).panel.resultHold = s.panel.resultHold ∧
    (s.loseAll p l).panel.runHold = s.panel.runHold ∧
    (s.loseAll p l).panel.divider = s.panel.divider ∧
    (s.loseAll p l).panel.toneDivider = s.panel.toneDivider ∧
    (s.loseAll p l).station.state = s.station.state ∧
    (s.loseAll p l).station.cause = s.station.cause ∧
    (s.loseAll p l).station.straps = s.station.straps ∧
    (s.loseAll p l).station.listenCount = s.station.listenCount ∧
    (s.loseAll p l).station.closedSpeaking = s.station.closedSpeaking ∧
    (s.loseAll p l).freeIndex = s.freeIndex ∧ (s.loseAll p l).pending = s.pending ∧
    (s.loseAll p l).number = s.number ∧ (s.loseAll p l).gates = s.gates ∧
    (s.loseAll p l).stationByte = s.stationByte ∧ (s.loseAll p l).isGateStation = s.isGateStation ∧
    (s.loseAll p l).isAssigner = s.isAssigner ∧ (s.loseAll p l).isFinish = s.isFinish ∧
    (s.loseAll p l).receives = s.receives ∧ (s.loseAll p l).onCourse = s.onCourse ∧
    (s.loseAll p l).isActive = s.isActive ∧ (s.loseAll p l).running = s.running ∧
    (s.loseAll p l).speaking = s.speaking ∧ (s.loseAll p l).sending = s.sending ∧
    (s.loseAll p l).now = s.now := by
  induction l generalizing s with
  | nil => simp [State.loseAll]
  | cons x xs ih => simp [State.loseAll, ih]

/-- What `State.advance` leaves as it was. -/
@[simp] theorem State.advance_frame (s : State) (p : Nat) (l : List Byte) (e : Byte) :
    (s.advance p l e).clock = s.clock ∧ (s.advance p l e).gate = s.gate ∧
    (s.advance p l e).table = s.table ∧ (s.advance p l e).assign.recEpoch = s.assign.recEpoch ∧
    (s.advance p l e).assign.recHighest = s.assign.recHighest ∧
    (s.advance p l e).assign.recOldest = s.assign.recOldest ∧ (s.advance p l e).epoch = s.epoch ∧
    (s.advance p l e).outbox.ring = s.outbox.ring ∧
    (s.advance p l e).outbox.nextSeq = s.outbox.nextSeq ∧
    (s.advance p l e).outbox.lastSent = s.outbox.lastSent ∧
    (s.advance p l e).outbox.firstBeaconSent = s.outbox.firstBeaconSent ∧
    (s.advance p l e).outbox.beaconDue = s.outbox.beaconDue ∧
    (s.advance p l e).outbox.beaconTimer = s.outbox.beaconTimer ∧
    (s.advance p l e).outbox.fresh = s.outbox.fresh ∧
    (s.advance p l e).outbox.freshEnd = s.outbox.freshEnd ∧
    (s.advance p l e).receiver.snapshot = s.receiver.snapshot ∧ (s.advance p l e).line = s.line ∧
    (s.advance p l e).port.phase = s.port.phase ∧ (s.advance p l e).port.fill = s.port.fill ∧
    (s.advance p l e).port.bits = s.port.bits ∧ (s.advance p l e).port.command = s.port.command ∧
    (s.advance p l e).port.latched = s.port.latched ∧
    (s.advance p l e).port.latchedSeq = s.port.latchedSeq ∧
    (s.advance p l e).port.xselLow = s.port.xselLow ∧ (s.advance p l e).port.shown = s.port.shown ∧
    (s.advance p l e).port.xclkHigh = s.port.xclkHigh ∧
    (s.advance p l e).panel.trip = s.panel.trip ∧ (s.advance p l e).panel.void = s.panel.void ∧
    (s.advance p l e).panel.dnf = s.panel.dnf ∧ (s.advance p l e).panel.ack = s.panel.ack ∧
    (s.advance p l e).panel.voidHold = s.panel.voidHold ∧
    (s.advance p l e).panel.dnfHold = s.panel.dnfHold ∧
    (s.advance p l e).panel.comboRunning = s.panel.comboRunning ∧
    (s.advance p l e).panel.comboCount = s.panel.comboCount ∧
    (s.advance p l e).panel.resultHold = s.panel.resultHold ∧
    (s.advance p l e).panel.runHold = s.panel.runHold ∧
    (s.advance p l e).panel.divider = s.panel.divider ∧
    (s.advance p l e).panel.toneDivider = s.panel.toneDivider ∧
    (s.advance p l e).station.state = s.station.state ∧
    (s.advance p l e).station.cause = s.station.cause ∧
    (s.advance p l e).station.straps = s.station.straps ∧
    (s.advance p l e).station.listenCount = s.station.listenCount ∧
    (s.advance p l e).station.closedSpeaking = s.station.closedSpeaking ∧
    (s.advance p l e).freeIndex = s.freeIndex ∧ (s.advance p l e).pending = s.pending ∧
    (s.advance p l e).number = s.number ∧ (s.advance p l e).gates = s.gates ∧
    (s.advance p l e).stationByte = s.stationByte ∧
    (s.advance p l e).isGateStation = s.isGateStation ∧
    (s.advance p l e).isAssigner = s.isAssigner ∧ (s.advance p l e).isFinish = s.isFinish ∧
    (s.advance p l e).receives = s.receives ∧ (s.advance p l e).onCourse = s.onCourse ∧
    (s.advance p l e).isActive = s.isActive ∧ (s.advance p l e).running = s.running ∧
    (s.advance p l e).speaking = s.speaking ∧ (s.advance p l e).sending = s.sending ∧
    (s.advance p l e).now = s.now := by
  unfold State.advance
  first | (simp; done) | (and_intros <;> first | rfl | (simp; done) | (simp; rfl))

/-- What `State.listAll` leaves as it was. -/
@[simp] theorem State.listAll_frame (s : State) (p : Nat) (l : List Byte) :
    (s.listAll p l).clock = s.clock ∧ (s.listAll p l).gate = s.gate ∧
    (s.listAll p l).table = s.table ∧ (s.listAll p l).assign.recEpoch = s.assign.recEpoch ∧
    (s.listAll p l).assign.recHighest = s.assign.recHighest ∧
    (s.listAll p l).assign.recOldest = s.assign.recOldest ∧ (s.listAll p l).epoch = s.epoch ∧
    (s.listAll p l).outbox.ring = s.outbox.ring ∧
    (s.listAll p l).outbox.nextSeq = s.outbox.nextSeq ∧
    (s.listAll p l).outbox.lastSent = s.outbox.lastSent ∧
    (s.listAll p l).outbox.firstBeaconSent = s.outbox.firstBeaconSent ∧
    (s.listAll p l).outbox.beaconDue = s.outbox.beaconDue ∧
    (s.listAll p l).outbox.beaconTimer = s.outbox.beaconTimer ∧
    (s.listAll p l).outbox.fresh = s.outbox.fresh ∧
    (s.listAll p l).outbox.freshEnd = s.outbox.freshEnd ∧
    (s.listAll p l).receiver.snapshot = s.receiver.snapshot ∧ (s.listAll p l).line = s.line ∧
    (s.listAll p l).port.phase = s.port.phase ∧ (s.listAll p l).port.fill = s.port.fill ∧
    (s.listAll p l).port.bits = s.port.bits ∧ (s.listAll p l).port.command = s.port.command ∧
    (s.listAll p l).port.latched = s.port.latched ∧
    (s.listAll p l).port.latchedSeq = s.port.latchedSeq ∧
    (s.listAll p l).port.xselLow = s.port.xselLow ∧ (s.listAll p l).port.shown = s.port.shown ∧
    (s.listAll p l).port.xclkHigh = s.port.xclkHigh ∧ (s.listAll p l).panel.trip = s.panel.trip ∧
    (s.listAll p l).panel.void = s.panel.void ∧ (s.listAll p l).panel.dnf = s.panel.dnf ∧
    (s.listAll p l).panel.ack = s.panel.ack ∧ (s.listAll p l).panel.voidHold = s.panel.voidHold ∧
    (s.listAll p l).panel.dnfHold = s.panel.dnfHold ∧
    (s.listAll p l).panel.comboRunning = s.panel.comboRunning ∧
    (s.listAll p l).panel.comboCount = s.panel.comboCount ∧
    (s.listAll p l).panel.resultHold = s.panel.resultHold ∧
    (s.listAll p l).panel.runHold = s.panel.runHold ∧
    (s.listAll p l).panel.divider = s.panel.divider ∧
    (s.listAll p l).panel.toneDivider = s.panel.toneDivider ∧
    (s.listAll p l).station.state = s.station.state ∧
    (s.listAll p l).station.cause = s.station.cause ∧
    (s.listAll p l).station.straps = s.station.straps ∧
    (s.listAll p l).station.listenCount = s.station.listenCount ∧
    (s.listAll p l).station.closedSpeaking = s.station.closedSpeaking ∧
    (s.listAll p l).freeIndex = s.freeIndex ∧ (s.listAll p l).pending = s.pending ∧
    (s.listAll p l).number = s.number ∧ (s.listAll p l).gates = s.gates ∧
    (s.listAll p l).stationByte = s.stationByte ∧ (s.listAll p l).isGateStation = s.isGateStation ∧
    (s.listAll p l).isAssigner = s.isAssigner ∧ (s.listAll p l).isFinish = s.isFinish ∧
    (s.listAll p l).receives = s.receives ∧ (s.listAll p l).onCourse = s.onCourse ∧
    (s.listAll p l).isActive = s.isActive ∧ (s.listAll p l).running = s.running ∧
    (s.listAll p l).speaking = s.speaking ∧ (s.listAll p l).sending = s.sending ∧
    (s.listAll p l).now = s.now := by
  unfold State.listAll
  first | (simp; done) | (and_intros <;> first | rfl | (simp; done) | (simp; rfl))

/-- What `State.bookSequence` leaves as it was. -/
@[simp] theorem State.bookSequence_frame (s : State) (p : Nat) (q : Byte) :
    (s.bookSequence p q).1.clock = s.clock ∧ (s.bookSequence p q).1.gate = s.gate ∧
    (s.bookSequence p q).1.table = s.table ∧
    (s.bookSequence p q).1.assign.recEpoch = s.assign.recEpoch ∧
    (s.bookSequence p q).1.assign.recHighest = s.assign.recHighest ∧
    (s.bookSequence p q).1.assign.recOldest = s.assign.recOldest ∧
    (s.bookSequence p q).1.epoch = s.epoch ∧ (s.bookSequence p q).1.outbox.ring = s.outbox.ring ∧
    (s.bookSequence p q).1.outbox.nextSeq = s.outbox.nextSeq ∧
    (s.bookSequence p q).1.outbox.lastSent = s.outbox.lastSent ∧
    (s.bookSequence p q).1.outbox.firstBeaconSent = s.outbox.firstBeaconSent ∧
    (s.bookSequence p q).1.outbox.beaconDue = s.outbox.beaconDue ∧
    (s.bookSequence p q).1.outbox.beaconTimer = s.outbox.beaconTimer ∧
    (s.bookSequence p q).1.outbox.fresh = s.outbox.fresh ∧
    (s.bookSequence p q).1.outbox.freshEnd = s.outbox.freshEnd ∧
    (s.bookSequence p q).1.receiver.snapshot = s.receiver.snapshot ∧
    (s.bookSequence p q).1.line = s.line ∧ (s.bookSequence p q).1.port.phase = s.port.phase ∧
    (s.bookSequence p q).1.port.fill = s.port.fill ∧
    (s.bookSequence p q).1.port.bits = s.port.bits ∧
    (s.bookSequence p q).1.port.command = s.port.command ∧
    (s.bookSequence p q).1.port.latched = s.port.latched ∧
    (s.bookSequence p q).1.port.latchedSeq = s.port.latchedSeq ∧
    (s.bookSequence p q).1.port.xselLow = s.port.xselLow ∧
    (s.bookSequence p q).1.port.shown = s.port.shown ∧
    (s.bookSequence p q).1.port.xclkHigh = s.port.xclkHigh ∧
    (s.bookSequence p q).1.panel.trip = s.panel.trip ∧
    (s.bookSequence p q).1.panel.void = s.panel.void ∧
    (s.bookSequence p q).1.panel.dnf = s.panel.dnf ∧
    (s.bookSequence p q).1.panel.ack = s.panel.ack ∧
    (s.bookSequence p q).1.panel.voidHold = s.panel.voidHold ∧
    (s.bookSequence p q).1.panel.dnfHold = s.panel.dnfHold ∧
    (s.bookSequence p q).1.panel.comboRunning = s.panel.comboRunning ∧
    (s.bookSequence p q).1.panel.comboCount = s.panel.comboCount ∧
    (s.bookSequence p q).1.panel.resultHold = s.panel.resultHold ∧
    (s.bookSequence p q).1.panel.runHold = s.panel.runHold ∧
    (s.bookSequence p q).1.panel.divider = s.panel.divider ∧
    (s.bookSequence p q).1.panel.toneDivider = s.panel.toneDivider ∧
    (s.bookSequence p q).1.station.state = s.station.state ∧
    (s.bookSequence p q).1.station.cause = s.station.cause ∧
    (s.bookSequence p q).1.station.straps = s.station.straps ∧
    (s.bookSequence p q).1.station.listenCount = s.station.listenCount ∧
    (s.bookSequence p q).1.station.closedSpeaking = s.station.closedSpeaking ∧
    (s.bookSequence p q).1.freeIndex = s.freeIndex ∧ (s.bookSequence p q).1.pending = s.pending ∧
    (s.bookSequence p q).1.number = s.number ∧ (s.bookSequence p q).1.gates = s.gates ∧
    (s.bookSequence p q).1.stationByte = s.stationByte ∧
    (s.bookSequence p q).1.isGateStation = s.isGateStation ∧
    (s.bookSequence p q).1.isAssigner = s.isAssigner ∧
    (s.bookSequence p q).1.isFinish = s.isFinish ∧ (s.bookSequence p q).1.receives = s.receives ∧
    (s.bookSequence p q).1.onCourse = s.onCourse ∧ (s.bookSequence p q).1.isActive = s.isActive ∧
    (s.bookSequence p q).1.running = s.running ∧ (s.bookSequence p q).1.speaking = s.speaking ∧
    (s.bookSequence p q).1.sending = s.sending ∧ (s.bookSequence p q).1.now = s.now := by
  unfold State.bookSequence
  try dsimp only
  repeat' split
  all_goals first | (simp; done) | (and_intros <;> first | rfl | (simp; done) | (simp; rfl))

/-- What `State.loseEntries` leaves as it was. -/
@[simp] theorem State.loseEntries_frame (s : State) (p : Nat) :
    (s.loseEntries p).clock = s.clock ∧ (s.loseEntries p).gate = s.gate ∧
    (s.loseEntries p).table = s.table ∧ (s.loseEntries p).assign.recEpoch = s.assign.recEpoch ∧
    (s.loseEntries p).assign.recHighest = s.assign.recHighest ∧
    (s.loseEntries p).assign.recOldest = s.assign.recOldest ∧ (s.loseEntries p).epoch = s.epoch ∧
    (s.loseEntries p).outbox.ring = s.outbox.ring ∧
    (s.loseEntries p).outbox.nextSeq = s.outbox.nextSeq ∧
    (s.loseEntries p).outbox.lastSent = s.outbox.lastSent ∧
    (s.loseEntries p).outbox.firstBeaconSent = s.outbox.firstBeaconSent ∧
    (s.loseEntries p).outbox.beaconDue = s.outbox.beaconDue ∧
    (s.loseEntries p).outbox.beaconTimer = s.outbox.beaconTimer ∧
    (s.loseEntries p).outbox.fresh = s.outbox.fresh ∧
    (s.loseEntries p).outbox.freshEnd = s.outbox.freshEnd ∧
    (s.loseEntries p).receiver.snapshot = s.receiver.snapshot ∧ (s.loseEntries p).line = s.line ∧
    (s.loseEntries p).port.phase = s.port.phase ∧ (s.loseEntries p).port.fill = s.port.fill ∧
    (s.loseEntries p).port.bits = s.port.bits ∧ (s.loseEntries p).port.command = s.port.command ∧
    (s.loseEntries p).port.latched = s.port.latched ∧
    (s.loseEntries p).port.latchedSeq = s.port.latchedSeq ∧
    (s.loseEntries p).port.xselLow = s.port.xselLow ∧ (s.loseEntries p).port.shown = s.port.shown ∧
    (s.loseEntries p).port.xclkHigh = s.port.xclkHigh ∧
    (s.loseEntries p).panel.trip = s.panel.trip ∧ (s.loseEntries p).panel.void = s.panel.void ∧
    (s.loseEntries p).panel.dnf = s.panel.dnf ∧ (s.loseEntries p).panel.ack = s.panel.ack ∧
    (s.loseEntries p).panel.voidHold = s.panel.voidHold ∧
    (s.loseEntries p).panel.dnfHold = s.panel.dnfHold ∧
    (s.loseEntries p).panel.comboRunning = s.panel.comboRunning ∧
    (s.loseEntries p).panel.comboCount = s.panel.comboCount ∧
    (s.loseEntries p).panel.resultHold = s.panel.resultHold ∧
    (s.loseEntries p).panel.runHold = s.panel.runHold ∧
    (s.loseEntries p).panel.divider = s.panel.divider ∧
    (s.loseEntries p).panel.toneDivider = s.panel.toneDivider ∧
    (s.loseEntries p).station.state = s.station.state ∧
    (s.loseEntries p).station.cause = s.station.cause ∧
    (s.loseEntries p).station.straps = s.station.straps ∧
    (s.loseEntries p).station.listenCount = s.station.listenCount ∧
    (s.loseEntries p).station.closedSpeaking = s.station.closedSpeaking ∧
    (s.loseEntries p).freeIndex = s.freeIndex ∧ (s.loseEntries p).pending = s.pending ∧
    (s.loseEntries p).number = s.number ∧ (s.loseEntries p).gates = s.gates ∧
    (s.loseEntries p).stationByte = s.stationByte ∧
    (s.loseEntries p).isGateStation = s.isGateStation ∧
    (s.loseEntries p).isAssigner = s.isAssigner ∧ (s.loseEntries p).isFinish = s.isFinish ∧
    (s.loseEntries p).receives = s.receives ∧ (s.loseEntries p).onCourse = s.onCourse ∧
    (s.loseEntries p).isActive = s.isActive ∧ (s.loseEntries p).running = s.running ∧
    (s.loseEntries p).speaking = s.speaking ∧ (s.loseEntries p).sending = s.sending ∧
    (s.loseEntries p).now = s.now := by
  unfold State.loseEntries
  first | (simp; done) | (and_intros <;> first | rfl | (simp; done) | (simp; rfl))

/-- What `State.bookBeacon` leaves as it was. -/
@[simp] theorem State.bookBeacon_frame (s : State) (p : Nat) (b : BeaconPayload) :
    (s.bookBeacon p b).clock = s.clock ∧ (s.bookBeacon p b).gate = s.gate ∧
    (s.bookBeacon p b).table = s.table ∧ (s.bookBeacon p b).assign.recEpoch = s.assign.recEpoch ∧
    (s.bookBeacon p b).assign.recHighest = s.assign.recHighest ∧
    (s.bookBeacon p b).assign.recOldest = s.assign.recOldest ∧ (s.bookBeacon p b).epoch = s.epoch ∧
    (s.bookBeacon p b).outbox.ring = s.outbox.ring ∧
    (s.bookBeacon p b).outbox.nextSeq = s.outbox.nextSeq ∧
    (s.bookBeacon p b).outbox.lastSent = s.outbox.lastSent ∧
    (s.bookBeacon p b).outbox.firstBeaconSent = s.outbox.firstBeaconSent ∧
    (s.bookBeacon p b).outbox.beaconDue = s.outbox.beaconDue ∧
    (s.bookBeacon p b).outbox.beaconTimer = s.outbox.beaconTimer ∧
    (s.bookBeacon p b).outbox.fresh = s.outbox.fresh ∧
    (s.bookBeacon p b).outbox.freshEnd = s.outbox.freshEnd ∧
    (s.bookBeacon p b).receiver.snapshot = s.receiver.snapshot ∧ (s.bookBeacon p b).line = s.line ∧
    (s.bookBeacon p b).port.phase = s.port.phase ∧ (s.bookBeacon p b).port.fill = s.port.fill ∧
    (s.bookBeacon p b).port.bits = s.port.bits ∧ (s.bookBeacon p b).port.command = s.port.command ∧
    (s.bookBeacon p b).port.latched = s.port.latched ∧
    (s.bookBeacon p b).port.latchedSeq = s.port.latchedSeq ∧
    (s.bookBeacon p b).port.xselLow = s.port.xselLow ∧
    (s.bookBeacon p b).port.shown = s.port.shown ∧
    (s.bookBeacon p b).port.xclkHigh = s.port.xclkHigh ∧
    (s.bookBeacon p b).panel.trip = s.panel.trip ∧ (s.bookBeacon p b).panel.void = s.panel.void ∧
    (s.bookBeacon p b).panel.dnf = s.panel.dnf ∧ (s.bookBeacon p b).panel.ack = s.panel.ack ∧
    (s.bookBeacon p b).panel.voidHold = s.panel.voidHold ∧
    (s.bookBeacon p b).panel.dnfHold = s.panel.dnfHold ∧
    (s.bookBeacon p b).panel.comboRunning = s.panel.comboRunning ∧
    (s.bookBeacon p b).panel.comboCount = s.panel.comboCount ∧
    (s.bookBeacon p b).panel.resultHold = s.panel.resultHold ∧
    (s.bookBeacon p b).panel.runHold = s.panel.runHold ∧
    (s.bookBeacon p b).panel.divider = s.panel.divider ∧
    (s.bookBeacon p b).panel.toneDivider = s.panel.toneDivider ∧
    (s.bookBeacon p b).station.state = s.station.state ∧
    (s.bookBeacon p b).station.cause = s.station.cause ∧
    (s.bookBeacon p b).station.straps = s.station.straps ∧
    (s.bookBeacon p b).station.listenCount = s.station.listenCount ∧
    (s.bookBeacon p b).station.closedSpeaking = s.station.closedSpeaking ∧
    (s.bookBeacon p b).freeIndex = s.freeIndex ∧ (s.bookBeacon p b).pending = s.pending ∧
    (s.bookBeacon p b).number = s.number ∧ (s.bookBeacon p b).gates = s.gates ∧
    (s.bookBeacon p b).stationByte = s.stationByte ∧
    (s.bookBeacon p b).isGateStation = s.isGateStation ∧
    (s.bookBeacon p b).isAssigner = s.isAssigner ∧ (s.bookBeacon p b).isFinish = s.isFinish ∧
    (s.bookBeacon p b).receives = s.receives ∧ (s.bookBeacon p b).onCourse = s.onCourse ∧
    (s.bookBeacon p b).isActive = s.isActive ∧ (s.bookBeacon p b).running = s.running ∧
    (s.bookBeacon p b).speaking = s.speaking ∧ (s.bookBeacon p b).sending = s.sending ∧
    (s.bookBeacon p b).now = s.now := by
  unfold State.bookBeacon
  try dsimp only
  repeat' split
  all_goals first | (simp; done) | (and_intros <;> first | rfl | (simp; done) | (simp; rfl))

/-- What `State.enterMismatch` leaves as it was. -/
@[simp] theorem State.enterMismatch_frame (s : State) (p : Nat) :
    (s.enterMismatch p).clock = s.clock ∧ (s.enterMismatch p).gate = s.gate ∧
    (s.enterMismatch p).table = s.table ∧ (s.enterMismatch p).assign = s.assign ∧
    (s.enterMismatch p).epoch = s.epoch ∧ (s.enterMismatch p).outbox.ring = s.outbox.ring ∧
    (s.enterMismatch p).outbox.nextSeq = s.outbox.nextSeq ∧
    (s.enterMismatch p).outbox.lastSent = s.outbox.lastSent ∧
    (s.enterMismatch p).outbox.firstBeaconSent = s.outbox.firstBeaconSent ∧
    (s.enterMismatch p).outbox.beaconDue = s.outbox.beaconDue ∧
    (s.enterMismatch p).outbox.beaconTimer = s.outbox.beaconTimer ∧
    (s.enterMismatch p).outbox.fresh = s.outbox.fresh ∧
    (s.enterMismatch p).outbox.freshEnd = s.outbox.freshEnd ∧ (s.enterMismatch p).line = s.line ∧
    (s.enterMismatch p).results = s.results ∧ (s.enterMismatch p).port = s.port ∧
    (s.enterMismatch p).panel.trip = s.panel.trip ∧ (s.enterMismatch p).panel.void = s.panel.void ∧
    (s.enterMismatch p).panel.dnf = s.panel.dnf ∧ (s.enterMismatch p).panel.ack = s.panel.ack ∧
    (s.enterMismatch p).panel.voidHold = s.panel.voidHold ∧
    (s.enterMismatch p).panel.dnfHold = s.panel.dnfHold ∧
    (s.enterMismatch p).panel.comboRunning = s.panel.comboRunning ∧
    (s.enterMismatch p).panel.comboCount = s.panel.comboCount ∧
    (s.enterMismatch p).panel.resultHold = s.panel.resultHold ∧
    (s.enterMismatch p).panel.runHold = s.panel.runHold ∧
    (s.enterMismatch p).panel.divider = s.panel.divider ∧
    (s.enterMismatch p).panel.toneDivider = s.panel.toneDivider ∧
    (s.enterMismatch p).station.state = s.station.state ∧
    (s.enterMismatch p).station.cause = s.station.cause ∧
    (s.enterMismatch p).station.straps = s.station.straps ∧
    (s.enterMismatch p).station.listenCount = s.station.listenCount ∧
    (s.enterMismatch p).station.closedSpeaking = s.station.closedSpeaking ∧
    (s.enterMismatch p).freeIndex = s.freeIndex ∧ (s.enterMismatch p).pending = s.pending ∧
    (s.enterMismatch p).number = s.number ∧ (s.enterMismatch p).gates = s.gates ∧
    (s.enterMismatch p).stationByte = s.stationByte ∧
    (s.enterMismatch p).isGateStation = s.isGateStation ∧
    (s.enterMismatch p).isAssigner = s.isAssigner ∧ (s.enterMismatch p).isFinish = s.isFinish ∧
    (s.enterMismatch p).receives = s.receives ∧ (s.enterMismatch p).onCourse = s.onCourse ∧
    (s.enterMismatch p).isActive = s.isActive ∧ (s.enterMismatch p).running = s.running ∧
    (s.enterMismatch p).speaking = s.speaking ∧ (s.enterMismatch p).sending = s.sending ∧
    (s.enterMismatch p).now = s.now := by
  unfold State.enterMismatch
  try dsimp only
  repeat' split
  all_goals first | (simp; done) | (and_intros <;> first | rfl | (simp; done) | (simp; rfl))

/-- What `State.retry` leaves as it was. -/
@[simp] theorem State.retry_frame (s : State) (p : Nat) (m : MissingEntry) :
    (s.retry p m).clock = s.clock ∧ (s.retry p m).gate = s.gate ∧ (s.retry p m).table = s.table ∧
    (s.retry p m).assign.recEpoch = s.assign.recEpoch ∧
    (s.retry p m).assign.recHighest = s.assign.recHighest ∧
    (s.retry p m).assign.recOldest = s.assign.recOldest ∧ (s.retry p m).epoch = s.epoch ∧
    (s.retry p m).outbox.ring = s.outbox.ring ∧ (s.retry p m).outbox.nextSeq = s.outbox.nextSeq ∧
    (s.retry p m).outbox.lastSent = s.outbox.lastSent ∧
    (s.retry p m).outbox.firstBeaconSent = s.outbox.firstBeaconSent ∧
    (s.retry p m).outbox.beaconDue = s.outbox.beaconDue ∧
    (s.retry p m).outbox.beaconTimer = s.outbox.beaconTimer ∧
    (s.retry p m).outbox.fresh = s.outbox.fresh ∧
    (s.retry p m).outbox.freshEnd = s.outbox.freshEnd ∧
    (s.retry p m).receiver.snapshot = s.receiver.snapshot ∧ (s.retry p m).line = s.line ∧
    (s.retry p m).port.phase = s.port.phase ∧ (s.retry p m).port.fill = s.port.fill ∧
    (s.retry p m).port.bits = s.port.bits ∧ (s.retry p m).port.command = s.port.command ∧
    (s.retry p m).port.latched = s.port.latched ∧
    (s.retry p m).port.latchedSeq = s.port.latchedSeq ∧
    (s.retry p m).port.xselLow = s.port.xselLow ∧ (s.retry p m).port.shown = s.port.shown ∧
    (s.retry p m).port.xclkHigh = s.port.xclkHigh ∧ (s.retry p m).panel.trip = s.panel.trip ∧
    (s.retry p m).panel.void = s.panel.void ∧ (s.retry p m).panel.dnf = s.panel.dnf ∧
    (s.retry p m).panel.ack = s.panel.ack ∧ (s.retry p m).panel.voidHold = s.panel.voidHold ∧
    (s.retry p m).panel.dnfHold = s.panel.dnfHold ∧
    (s.retry p m).panel.comboRunning = s.panel.comboRunning ∧
    (s.retry p m).panel.comboCount = s.panel.comboCount ∧
    (s.retry p m).panel.resultHold = s.panel.resultHold ∧
    (s.retry p m).panel.runHold = s.panel.runHold ∧ (s.retry p m).panel.divider = s.panel.divider ∧
    (s.retry p m).panel.toneDivider = s.panel.toneDivider ∧
    (s.retry p m).station.state = s.station.state ∧ (s.retry p m).station.cause = s.station.cause ∧
    (s.retry p m).station.straps = s.station.straps ∧
    (s.retry p m).station.listenCount = s.station.listenCount ∧
    (s.retry p m).station.closedSpeaking = s.station.closedSpeaking ∧
    (s.retry p m).freeIndex = s.freeIndex ∧ (s.retry p m).pending = s.pending ∧
    (s.retry p m).number = s.number ∧ (s.retry p m).gates = s.gates ∧
    (s.retry p m).stationByte = s.stationByte ∧ (s.retry p m).isGateStation = s.isGateStation ∧
    (s.retry p m).isAssigner = s.isAssigner ∧ (s.retry p m).isFinish = s.isFinish ∧
    (s.retry p m).receives = s.receives ∧ (s.retry p m).onCourse = s.onCourse ∧
    (s.retry p m).isActive = s.isActive ∧ (s.retry p m).running = s.running ∧
    (s.retry p m).speaking = s.speaking ∧ (s.retry p m).sending = s.sending ∧
    (s.retry p m).now = s.now := by
  unfold State.retry
  try dsimp only
  repeat' split
  all_goals first | (simp; done) | (and_intros <;> first | rfl | (simp; done) | (simp; rfl))

/-- What `State.retryOne` leaves as it was. -/
@[simp] theorem State.retryOne_frame (s : State) (p : Nat) (q : Byte) :
    (s.retryOne p q).clock = s.clock ∧ (s.retryOne p q).gate = s.gate ∧
    (s.retryOne p q).table = s.table ∧ (s.retryOne p q).assign.recEpoch = s.assign.recEpoch ∧
    (s.retryOne p q).assign.recHighest = s.assign.recHighest ∧
    (s.retryOne p q).assign.recOldest = s.assign.recOldest ∧ (s.retryOne p q).epoch = s.epoch ∧
    (s.retryOne p q).outbox.ring = s.outbox.ring ∧
    (s.retryOne p q).outbox.nextSeq = s.outbox.nextSeq ∧
    (s.retryOne p q).outbox.lastSent = s.outbox.lastSent ∧
    (s.retryOne p q).outbox.firstBeaconSent = s.outbox.firstBeaconSent ∧
    (s.retryOne p q).outbox.beaconDue = s.outbox.beaconDue ∧
    (s.retryOne p q).outbox.beaconTimer = s.outbox.beaconTimer ∧
    (s.retryOne p q).outbox.fresh = s.outbox.fresh ∧
    (s.retryOne p q).outbox.freshEnd = s.outbox.freshEnd ∧
    (s.retryOne p q).receiver.snapshot = s.receiver.snapshot ∧ (s.retryOne p q).line = s.line ∧
    (s.retryOne p q).port.phase = s.port.phase ∧ (s.retryOne p q).port.fill = s.port.fill ∧
    (s.retryOne p q).port.bits = s.port.bits ∧ (s.retryOne p q).port.command = s.port.command ∧
    (s.retryOne p q).port.latched = s.port.latched ∧
    (s.retryOne p q).port.latchedSeq = s.port.latchedSeq ∧
    (s.retryOne p q).port.xselLow = s.port.xselLow ∧ (s.retryOne p q).port.shown = s.port.shown ∧
    (s.retryOne p q).port.xclkHigh = s.port.xclkHigh ∧ (s.retryOne p q).panel.trip = s.panel.trip ∧
    (s.retryOne p q).panel.void = s.panel.void ∧ (s.retryOne p q).panel.dnf = s.panel.dnf ∧
    (s.retryOne p q).panel.ack = s.panel.ack ∧ (s.retryOne p q).panel.voidHold = s.panel.voidHold ∧
    (s.retryOne p q).panel.dnfHold = s.panel.dnfHold ∧
    (s.retryOne p q).panel.comboRunning = s.panel.comboRunning ∧
    (s.retryOne p q).panel.comboCount = s.panel.comboCount ∧
    (s.retryOne p q).panel.resultHold = s.panel.resultHold ∧
    (s.retryOne p q).panel.runHold = s.panel.runHold ∧
    (s.retryOne p q).panel.divider = s.panel.divider ∧
    (s.retryOne p q).panel.toneDivider = s.panel.toneDivider ∧
    (s.retryOne p q).station.state = s.station.state ∧
    (s.retryOne p q).station.cause = s.station.cause ∧
    (s.retryOne p q).station.straps = s.station.straps ∧
    (s.retryOne p q).station.listenCount = s.station.listenCount ∧
    (s.retryOne p q).station.closedSpeaking = s.station.closedSpeaking ∧
    (s.retryOne p q).freeIndex = s.freeIndex ∧ (s.retryOne p q).pending = s.pending ∧
    (s.retryOne p q).number = s.number ∧ (s.retryOne p q).gates = s.gates ∧
    (s.retryOne p q).stationByte = s.stationByte ∧
    (s.retryOne p q).isGateStation = s.isGateStation ∧ (s.retryOne p q).isAssigner = s.isAssigner ∧
    (s.retryOne p q).isFinish = s.isFinish ∧ (s.retryOne p q).receives = s.receives ∧
    (s.retryOne p q).onCourse = s.onCourse ∧ (s.retryOne p q).isActive = s.isActive ∧
    (s.retryOne p q).running = s.running ∧ (s.retryOne p q).speaking = s.speaking ∧
    (s.retryOne p q).sending = s.sending ∧ (s.retryOne p q).now = s.now := by
  unfold State.retryOne
  try dsimp only
  repeat' split
  all_goals first | (simp; done) | (and_intros <;> first | rfl | (simp; done) | (simp; rfl))

/-- What `State.retryAll` leaves as it was. -/
@[simp] theorem State.retryAll_frame (s : State) (l : List (Nat × Byte)) :
    (s.retryAll l).clock = s.clock ∧ (s.retryAll l).gate = s.gate ∧ (s.retryAll l).table = s.table ∧
    (s.retryAll l).assign.recEpoch = s.assign.recEpoch ∧
    (s.retryAll l).assign.recHighest = s.assign.recHighest ∧
    (s.retryAll l).assign.recOldest = s.assign.recOldest ∧ (s.retryAll l).epoch = s.epoch ∧
    (s.retryAll l).outbox.ring = s.outbox.ring ∧ (s.retryAll l).outbox.nextSeq = s.outbox.nextSeq ∧
    (s.retryAll l).outbox.lastSent = s.outbox.lastSent ∧
    (s.retryAll l).outbox.firstBeaconSent = s.outbox.firstBeaconSent ∧
    (s.retryAll l).outbox.beaconDue = s.outbox.beaconDue ∧
    (s.retryAll l).outbox.beaconTimer = s.outbox.beaconTimer ∧
    (s.retryAll l).outbox.fresh = s.outbox.fresh ∧
    (s.retryAll l).outbox.freshEnd = s.outbox.freshEnd ∧
    (s.retryAll l).receiver.snapshot = s.receiver.snapshot ∧ (s.retryAll l).line = s.line ∧
    (s.retryAll l).port.phase = s.port.phase ∧ (s.retryAll l).port.fill = s.port.fill ∧
    (s.retryAll l).port.bits = s.port.bits ∧ (s.retryAll l).port.command = s.port.command ∧
    (s.retryAll l).port.latched = s.port.latched ∧
    (s.retryAll l).port.latchedSeq = s.port.latchedSeq ∧
    (s.retryAll l).port.xselLow = s.port.xselLow ∧ (s.retryAll l).port.shown = s.port.shown ∧
    (s.retryAll l).port.xclkHigh = s.port.xclkHigh ∧ (s.retryAll l).panel.trip = s.panel.trip ∧
    (s.retryAll l).panel.void = s.panel.void ∧ (s.retryAll l).panel.dnf = s.panel.dnf ∧
    (s.retryAll l).panel.ack = s.panel.ack ∧ (s.retryAll l).panel.voidHold = s.panel.voidHold ∧
    (s.retryAll l).panel.dnfHold = s.panel.dnfHold ∧
    (s.retryAll l).panel.comboRunning = s.panel.comboRunning ∧
    (s.retryAll l).panel.comboCount = s.panel.comboCount ∧
    (s.retryAll l).panel.resultHold = s.panel.resultHold ∧
    (s.retryAll l).panel.runHold = s.panel.runHold ∧
    (s.retryAll l).panel.divider = s.panel.divider ∧
    (s.retryAll l).panel.toneDivider = s.panel.toneDivider ∧
    (s.retryAll l).station.state = s.station.state ∧
    (s.retryAll l).station.cause = s.station.cause ∧
    (s.retryAll l).station.straps = s.station.straps ∧
    (s.retryAll l).station.listenCount = s.station.listenCount ∧
    (s.retryAll l).station.closedSpeaking = s.station.closedSpeaking ∧
    (s.retryAll l).freeIndex = s.freeIndex ∧ (s.retryAll l).pending = s.pending ∧
    (s.retryAll l).number = s.number ∧ (s.retryAll l).gates = s.gates ∧
    (s.retryAll l).stationByte = s.stationByte ∧ (s.retryAll l).isGateStation = s.isGateStation ∧
    (s.retryAll l).isAssigner = s.isAssigner ∧ (s.retryAll l).isFinish = s.isFinish ∧
    (s.retryAll l).receives = s.receives ∧ (s.retryAll l).onCourse = s.onCourse ∧
    (s.retryAll l).isActive = s.isActive ∧ (s.retryAll l).running = s.running ∧
    (s.retryAll l).speaking = s.speaking ∧ (s.retryAll l).sending = s.sending ∧
    (s.retryAll l).now = s.now := by
  induction l generalizing s with
  | nil => simp [State.retryAll]
  | cons x xs ih => simp [State.retryAll, ih]

/-- What `State.takeGone` leaves as it was. -/
@[simp] theorem State.takeGone_frame (s : State) (p : Nat) (g : GonePayload) :
    (s.takeGone p g).clock = s.clock ∧ (s.takeGone p g).gate = s.gate ∧
    (s.takeGone p g).table = s.table ∧ (s.takeGone p g).assign.recEpoch = s.assign.recEpoch ∧
    (s.takeGone p g).assign.recHighest = s.assign.recHighest ∧
    (s.takeGone p g).assign.recOldest = s.assign.recOldest ∧ (s.takeGone p g).epoch = s.epoch ∧
    (s.takeGone p g).outbox.ring = s.outbox.ring ∧
    (s.takeGone p g).outbox.nextSeq = s.outbox.nextSeq ∧
    (s.takeGone p g).outbox.lastSent = s.outbox.lastSent ∧
    (s.takeGone p g).outbox.firstBeaconSent = s.outbox.firstBeaconSent ∧
    (s.takeGone p g).outbox.beaconDue = s.outbox.beaconDue ∧
    (s.takeGone p g).outbox.beaconTimer = s.outbox.beaconTimer ∧
    (s.takeGone p g).outbox.fresh = s.outbox.fresh ∧
    (s.takeGone p g).outbox.freshEnd = s.outbox.freshEnd ∧
    (s.takeGone p g).receiver.snapshot = s.receiver.snapshot ∧ (s.takeGone p g).line = s.line ∧
    (s.takeGone p g).port.phase = s.port.phase ∧ (s.takeGone p g).port.fill = s.port.fill ∧
    (s.takeGone p g).port.bits = s.port.bits ∧ (s.takeGone p g).port.command = s.port.command ∧
    (s.takeGone p g).port.latched = s.port.latched ∧
    (s.takeGone p g).port.latchedSeq = s.port.latchedSeq ∧
    (s.takeGone p g).port.xselLow = s.port.xselLow ∧ (s.takeGone p g).port.shown = s.port.shown ∧
    (s.takeGone p g).port.xclkHigh = s.port.xclkHigh ∧ (s.takeGone p g).panel.trip = s.panel.trip ∧
    (s.takeGone p g).panel.void = s.panel.void ∧ (s.takeGone p g).panel.dnf = s.panel.dnf ∧
    (s.takeGone p g).panel.ack = s.panel.ack ∧ (s.takeGone p g).panel.voidHold = s.panel.voidHold ∧
    (s.takeGone p g).panel.dnfHold = s.panel.dnfHold ∧
    (s.takeGone p g).panel.comboRunning = s.panel.comboRunning ∧
    (s.takeGone p g).panel.comboCount = s.panel.comboCount ∧
    (s.takeGone p g).panel.resultHold = s.panel.resultHold ∧
    (s.takeGone p g).panel.runHold = s.panel.runHold ∧
    (s.takeGone p g).panel.divider = s.panel.divider ∧
    (s.takeGone p g).panel.toneDivider = s.panel.toneDivider ∧
    (s.takeGone p g).station.state = s.station.state ∧
    (s.takeGone p g).station.cause = s.station.cause ∧
    (s.takeGone p g).station.straps = s.station.straps ∧
    (s.takeGone p g).station.listenCount = s.station.listenCount ∧
    (s.takeGone p g).station.closedSpeaking = s.station.closedSpeaking ∧
    (s.takeGone p g).freeIndex = s.freeIndex ∧ (s.takeGone p g).pending = s.pending ∧
    (s.takeGone p g).number = s.number ∧ (s.takeGone p g).gates = s.gates ∧
    (s.takeGone p g).stationByte = s.stationByte ∧
    (s.takeGone p g).isGateStation = s.isGateStation ∧ (s.takeGone p g).isAssigner = s.isAssigner ∧
    (s.takeGone p g).isFinish = s.isFinish ∧ (s.takeGone p g).receives = s.receives ∧
    (s.takeGone p g).onCourse = s.onCourse ∧ (s.takeGone p g).isActive = s.isActive ∧
    (s.takeGone p g).running = s.running ∧ (s.takeGone p g).speaking = s.speaking ∧
    (s.takeGone p g).sending = s.sending ∧ (s.takeGone p g).now = s.now := by
  unfold State.takeGone
  first | (simp; done) | (and_intros <;> first | rfl | (simp; done) | (simp; rfl))

/-- What `State.suppress` leaves as it was. -/
@[simp] theorem State.suppress_frame (s : State) (r : RepeatPayload) :
    (s.suppress r).clock = s.clock ∧ (s.suppress r).gate = s.gate ∧
    (s.suppress r).table = s.table ∧ (s.suppress r).assign = s.assign ∧
    (s.suppress r).epoch = s.epoch ∧ (s.suppress r).outbox.ring = s.outbox.ring ∧
    (s.suppress r).outbox.nextSeq = s.outbox.nextSeq ∧
    (s.suppress r).outbox.lastSent = s.outbox.lastSent ∧
    (s.suppress r).outbox.firstBeaconSent = s.outbox.firstBeaconSent ∧
    (s.suppress r).outbox.beaconDue = s.outbox.beaconDue ∧
    (s.suppress r).outbox.beaconTimer = s.outbox.beaconTimer ∧
    (s.suppress r).outbox.fresh = s.outbox.fresh ∧
    (s.suppress r).outbox.freshEnd = s.outbox.freshEnd ∧
    (s.suppress r).receiver.snapshot = s.receiver.snapshot ∧ (s.suppress r).line = s.line ∧
    (s.suppress r).results = s.results ∧ (s.suppress r).port = s.port ∧
    (s.suppress r).panel = s.panel ∧ (s.suppress r).station = s.station ∧
    (s.suppress r).freeIndex = s.freeIndex ∧ (s.suppress r).pending = s.pending ∧
    (s.suppress r).number = s.number ∧ (s.suppress r).gates = s.gates ∧
    (s.suppress r).stationByte = s.stationByte ∧ (s.suppress r).isGateStation = s.isGateStation ∧
    (s.suppress r).isAssigner = s.isAssigner ∧ (s.suppress r).isFinish = s.isFinish ∧
    (s.suppress r).receives = s.receives ∧ (s.suppress r).onCourse = s.onCourse ∧
    (s.suppress r).isActive = s.isActive ∧ (s.suppress r).running = s.running ∧
    (s.suppress r).speaking = s.speaking ∧ (s.suppress r).sending = s.sending ∧
    (s.suppress r).now = s.now := by
  unfold State.suppress
  try dsimp only
  repeat' split
  all_goals first | (simp; done) | (and_intros <;> first | rfl | (simp; done) | (simp; rfl))

/-- What `State.serve` leaves as it was. -/
@[simp] theorem State.serve_frame (s : State) (r q : Byte) :
    (s.serve r q).clock = s.clock ∧ (s.serve r q).gate = s.gate ∧ (s.serve r q).table = s.table ∧
    (s.serve r q).assign = s.assign ∧ (s.serve r q).epoch = s.epoch ∧
    (s.serve r q).outbox.ring = s.outbox.ring ∧ (s.serve r q).outbox.nextSeq = s.outbox.nextSeq ∧
    (s.serve r q).outbox.lastSent = s.outbox.lastSent ∧
    (s.serve r q).outbox.firstBeaconSent = s.outbox.firstBeaconSent ∧
    (s.serve r q).outbox.beaconDue = s.outbox.beaconDue ∧
    (s.serve r q).outbox.beaconTimer = s.outbox.beaconTimer ∧
    (s.serve r q).outbox.fresh = s.outbox.fresh ∧
    (s.serve r q).outbox.freshEnd = s.outbox.freshEnd ∧ (s.serve r q).receiver = s.receiver ∧
    (s.serve r q).line = s.line ∧ (s.serve r q).results = s.results ∧ (s.serve r q).port = s.port ∧
    (s.serve r q).panel = s.panel ∧ (s.serve r q).station = s.station ∧
    (s.serve r q).freeIndex = s.freeIndex ∧ (s.serve r q).pending = s.pending ∧
    (s.serve r q).number = s.number ∧ (s.serve r q).gates = s.gates ∧
    (s.serve r q).stationByte = s.stationByte ∧ (s.serve r q).isGateStation = s.isGateStation ∧
    (s.serve r q).isAssigner = s.isAssigner ∧ (s.serve r q).isFinish = s.isFinish ∧
    (s.serve r q).receives = s.receives ∧ (s.serve r q).onCourse = s.onCourse ∧
    (s.serve r q).isActive = s.isActive ∧ (s.serve r q).running = s.running ∧
    (s.serve r q).speaking = s.speaking ∧ (s.serve r q).sending = s.sending ∧
    (s.serve r q).now = s.now := by
  unfold State.serve
  try dsimp only
  repeat' split
  all_goals first | (simp; done) | (and_intros <;> first | rfl | (simp; done) | (simp; rfl))

/-- What `State.beaconTimerStep` leaves as it was. -/
@[simp] theorem State.beaconTimerStep_frame (s : State) :
    s.beaconTimerStep.clock = s.clock ∧ s.beaconTimerStep.gate = s.gate ∧
    s.beaconTimerStep.table = s.table ∧ s.beaconTimerStep.assign = s.assign ∧
    s.beaconTimerStep.epoch = s.epoch ∧ s.beaconTimerStep.outbox.ring = s.outbox.ring ∧
    s.beaconTimerStep.outbox.nextSeq = s.outbox.nextSeq ∧
    s.beaconTimerStep.outbox.lastSent = s.outbox.lastSent ∧
    s.beaconTimerStep.outbox.firstBeaconSent = s.outbox.firstBeaconSent ∧
    s.beaconTimerStep.outbox.control = s.outbox.control ∧
    s.beaconTimerStep.outbox.fresh = s.outbox.fresh ∧
    s.beaconTimerStep.outbox.freshEnd = s.outbox.freshEnd ∧
    s.beaconTimerStep.receiver = s.receiver ∧ s.beaconTimerStep.line = s.line ∧
    s.beaconTimerStep.results = s.results ∧ s.beaconTimerStep.port = s.port ∧
    s.beaconTimerStep.panel = s.panel ∧ s.beaconTimerStep.station = s.station ∧
    s.beaconTimerStep.freeIndex = s.freeIndex ∧ s.beaconTimerStep.pending = s.pending ∧
    s.beaconTimerStep.number = s.number ∧ s.beaconTimerStep.gates = s.gates ∧
    s.beaconTimerStep.stationByte = s.stationByte ∧
    s.beaconTimerStep.isGateStation = s.isGateStation ∧
    s.beaconTimerStep.isAssigner = s.isAssigner ∧ s.beaconTimerStep.isFinish = s.isFinish ∧
    s.beaconTimerStep.receives = s.receives ∧ s.beaconTimerStep.onCourse = s.onCourse ∧
    s.beaconTimerStep.isActive = s.isActive ∧ s.beaconTimerStep.running = s.running ∧
    s.beaconTimerStep.speaking = s.speaking ∧ s.beaconTimerStep.sending = s.sending ∧
    s.beaconTimerStep.now = s.now := by
  unfold State.beaconTimerStep
  try dsimp only
  repeat' split
  all_goals first | (simp; done) | (and_intros <;> first | rfl | (simp; done) | (simp; rfl))

/-- What `State.freshStep` leaves as it was. -/
@[simp] theorem State.freshStep_frame (s : State) :
    s.freshStep.clock = s.clock ∧ s.freshStep.gate = s.gate ∧ s.freshStep.table = s.table ∧
    s.freshStep.assign = s.assign ∧ s.freshStep.epoch = s.epoch ∧
    s.freshStep.outbox.ring = s.outbox.ring ∧ s.freshStep.outbox.nextSeq = s.outbox.nextSeq ∧
    s.freshStep.outbox.lastSent = s.outbox.lastSent ∧
    s.freshStep.outbox.firstBeaconSent = s.outbox.firstBeaconSent ∧
    s.freshStep.outbox.control = s.outbox.control ∧
    s.freshStep.outbox.beaconDue = s.outbox.beaconDue ∧
    s.freshStep.outbox.beaconTimer = s.outbox.beaconTimer ∧ s.freshStep.receiver = s.receiver ∧
    s.freshStep.line = s.line ∧ s.freshStep.results = s.results ∧ s.freshStep.port = s.port ∧
    s.freshStep.panel = s.panel ∧ s.freshStep.station = s.station ∧
    s.freshStep.freeIndex = s.freeIndex ∧ s.freshStep.pending = s.pending ∧
    s.freshStep.number = s.number ∧ s.freshStep.gates = s.gates ∧
    s.freshStep.stationByte = s.stationByte ∧ s.freshStep.isGateStation = s.isGateStation ∧
    s.freshStep.isAssigner = s.isAssigner ∧ s.freshStep.isFinish = s.isFinish ∧
    s.freshStep.receives = s.receives ∧ s.freshStep.onCourse = s.onCourse ∧
    s.freshStep.isActive = s.isActive ∧ s.freshStep.running = s.running ∧
    s.freshStep.speaking = s.speaking ∧ s.freshStep.sending = s.sending ∧ s.freshStep.now = s.now := by
  unfold State.freshStep
  try dsimp only
  repeat' split
  all_goals first | (simp; done) | (and_intros <;> first | rfl | (simp; done) | (simp; rfl))

/-- What `State.resultHoldStep` leaves as it was. -/
@[simp] theorem State.resultHoldStep_frame (s : State) :
    s.resultHoldStep.clock = s.clock ∧ s.resultHoldStep.gate = s.gate ∧
    s.resultHoldStep.table = s.table ∧ s.resultHoldStep.assign = s.assign ∧
    s.resultHoldStep.epoch = s.epoch ∧ s.resultHoldStep.outbox = s.outbox ∧
    s.resultHoldStep.receiver = s.receiver ∧ s.resultHoldStep.line = s.line ∧
    s.resultHoldStep.results = s.results ∧ s.resultHoldStep.port = s.port ∧
    s.resultHoldStep.panel.trip = s.panel.trip ∧ s.resultHoldStep.panel.void = s.panel.void ∧
    s.resultHoldStep.panel.dnf = s.panel.dnf ∧ s.resultHoldStep.panel.ack = s.panel.ack ∧
    s.resultHoldStep.panel.voidHold = s.panel.voidHold ∧
    s.resultHoldStep.panel.dnfHold = s.panel.dnfHold ∧
    s.resultHoldStep.panel.comboRunning = s.panel.comboRunning ∧
    s.resultHoldStep.panel.comboCount = s.panel.comboCount ∧
    s.resultHoldStep.panel.runHold = s.panel.runHold ∧ s.resultHoldStep.panel.tone = s.panel.tone ∧
    s.resultHoldStep.panel.divider = s.panel.divider ∧
    s.resultHoldStep.panel.toneDivider = s.panel.toneDivider ∧
    s.resultHoldStep.station = s.station ∧ s.resultHoldStep.freeIndex = s.freeIndex ∧
    s.resultHoldStep.pending = s.pending ∧ s.resultHoldStep.number = s.number ∧
    s.resultHoldStep.gates = s.gates ∧ s.resultHoldStep.stationByte = s.stationByte ∧
    s.resultHoldStep.isGateStation = s.isGateStation ∧ s.resultHoldStep.isAssigner = s.isAssigner ∧
    s.resultHoldStep.isFinish = s.isFinish ∧ s.resultHoldStep.receives = s.receives ∧
    s.resultHoldStep.onCourse = s.onCourse ∧ s.resultHoldStep.isActive = s.isActive ∧
    s.resultHoldStep.running = s.running ∧ s.resultHoldStep.speaking = s.speaking ∧
    s.resultHoldStep.sending = s.sending ∧ s.resultHoldStep.now = s.now := by
  unfold State.resultHoldStep
  try dsimp only
  repeat' split
  all_goals first | (simp; done) | (and_intros <;> first | rfl | (simp; done) | (simp; rfl))

/-- What `State.runHoldStep` leaves as it was. -/
@[simp] theorem State.runHoldStep_frame (s : State) :
    s.runHoldStep.clock = s.clock ∧ s.runHoldStep.gate = s.gate ∧ s.runHoldStep.table = s.table ∧
    s.runHoldStep.assign = s.assign ∧ s.runHoldStep.epoch = s.epoch ∧
    s.runHoldStep.outbox = s.outbox ∧ s.runHoldStep.receiver = s.receiver ∧
    s.runHoldStep.line = s.line ∧ s.runHoldStep.results = s.results ∧ s.runHoldStep.port = s.port ∧
    s.runHoldStep.panel.trip = s.panel.trip ∧ s.runHoldStep.panel.void = s.panel.void ∧
    s.runHoldStep.panel.dnf = s.panel.dnf ∧ s.runHoldStep.panel.ack = s.panel.ack ∧
    s.runHoldStep.panel.voidHold = s.panel.voidHold ∧
    s.runHoldStep.panel.dnfHold = s.panel.dnfHold ∧
    s.runHoldStep.panel.comboRunning = s.panel.comboRunning ∧
    s.runHoldStep.panel.comboCount = s.panel.comboCount ∧
    s.runHoldStep.panel.resultHold = s.panel.resultHold ∧ s.runHoldStep.panel.tone = s.panel.tone ∧
    s.runHoldStep.panel.divider = s.panel.divider ∧
    s.runHoldStep.panel.toneDivider = s.panel.toneDivider ∧ s.runHoldStep.station = s.station ∧
    s.runHoldStep.freeIndex = s.freeIndex ∧ s.runHoldStep.pending = s.pending ∧
    s.runHoldStep.number = s.number ∧ s.runHoldStep.gates = s.gates ∧
    s.runHoldStep.stationByte = s.stationByte ∧ s.runHoldStep.isGateStation = s.isGateStation ∧
    s.runHoldStep.isAssigner = s.isAssigner ∧ s.runHoldStep.isFinish = s.isFinish ∧
    s.runHoldStep.receives = s.receives ∧ s.runHoldStep.onCourse = s.onCourse ∧
    s.runHoldStep.isActive = s.isActive ∧ s.runHoldStep.running = s.running ∧
    s.runHoldStep.speaking = s.speaking ∧ s.runHoldStep.sending = s.sending ∧
    s.runHoldStep.now = s.now := by
  unfold State.runHoldStep
  try dsimp only
  repeat' split
  all_goals first | (simp; done) | (and_intros <;> first | rfl | (simp; done) | (simp; rfl))

/-- What `State.toneStep` leaves as it was. -/
@[simp] theorem State.toneStep_frame (s : State) :
    s.toneStep.clock = s.clock ∧ s.toneStep.gate = s.gate ∧ s.toneStep.table = s.table ∧
    s.toneStep.assign = s.assign ∧ s.toneStep.epoch = s.epoch ∧ s.toneStep.outbox = s.outbox ∧
    s.toneStep.receiver = s.receiver ∧ s.toneStep.line = s.line ∧ s.toneStep.results = s.results ∧
    s.toneStep.port = s.port ∧ s.toneStep.panel.trip = s.panel.trip ∧
    s.toneStep.panel.void = s.panel.void ∧ s.toneStep.panel.dnf = s.panel.dnf ∧
    s.toneStep.panel.ack = s.panel.ack ∧ s.toneStep.panel.voidHold = s.panel.voidHold ∧
    s.toneStep.panel.dnfHold = s.panel.dnfHold ∧
    s.toneStep.panel.comboRunning = s.panel.comboRunning ∧
    s.toneStep.panel.comboCount = s.panel.comboCount ∧
    s.toneStep.panel.resultHold = s.panel.resultHold ∧ s.toneStep.panel.runHold = s.panel.runHold ∧
    s.toneStep.panel.divider = s.panel.divider ∧
    s.toneStep.panel.toneDivider = s.panel.toneDivider ∧ s.toneStep.station = s.station ∧
    s.toneStep.freeIndex = s.freeIndex ∧ s.toneStep.pending = s.pending ∧
    s.toneStep.number = s.number ∧ s.toneStep.gates = s.gates ∧
    s.toneStep.stationByte = s.stationByte ∧ s.toneStep.isGateStation = s.isGateStation ∧
    s.toneStep.isAssigner = s.isAssigner ∧ s.toneStep.isFinish = s.isFinish ∧
    s.toneStep.receives = s.receives ∧ s.toneStep.onCourse = s.onCourse ∧
    s.toneStep.isActive = s.isActive ∧ s.toneStep.running = s.running ∧
    s.toneStep.speaking = s.speaking ∧ s.toneStep.sending = s.sending ∧ s.toneStep.now = s.now := by
  unfold State.toneStep
  try dsimp only
  repeat' split
  all_goals first | (simp; done) | (and_intros <;> first | rfl | (simp; done) | (simp; rfl))

/-- What `State.endTimers` leaves as it was. -/
@[simp] theorem State.endTimers_frame (s : State) :
    s.endTimers.clock = s.clock ∧ s.endTimers.gate = s.gate ∧ s.endTimers.table = s.table ∧
    s.endTimers.assign = s.assign ∧ s.endTimers.epoch = s.epoch ∧
    s.endTimers.outbox.ring = s.outbox.ring ∧ s.endTimers.outbox.nextSeq = s.outbox.nextSeq ∧
    s.endTimers.outbox.lastSent = s.outbox.lastSent ∧
    s.endTimers.outbox.firstBeaconSent = s.outbox.firstBeaconSent ∧
    s.endTimers.outbox.control = s.outbox.control ∧
    s.endTimers.receiver.snapshot = s.receiver.snapshot ∧ s.endTimers.line = s.line ∧
    s.endTimers.results = s.results ∧ s.endTimers.port = s.port ∧
    s.endTimers.panel.trip = s.panel.trip ∧ s.endTimers.panel.void = s.panel.void ∧
    s.endTimers.panel.dnf = s.panel.dnf ∧ s.endTimers.panel.ack = s.panel.ack ∧
    s.endTimers.panel.voidHold = s.panel.voidHold ∧ s.endTimers.panel.dnfHold = s.panel.dnfHold ∧
    s.endTimers.panel.comboRunning = s.panel.comboRunning ∧
    s.endTimers.panel.comboCount = s.panel.comboCount ∧
    s.endTimers.panel.divider = s.panel.divider ∧
    s.endTimers.panel.toneDivider = s.panel.toneDivider ∧ s.endTimers.station = s.station ∧
    s.endTimers.freeIndex = s.freeIndex ∧ s.endTimers.pending = s.pending ∧
    s.endTimers.number = s.number ∧ s.endTimers.gates = s.gates ∧
    s.endTimers.stationByte = s.stationByte ∧ s.endTimers.isGateStation = s.isGateStation ∧
    s.endTimers.isAssigner = s.isAssigner ∧ s.endTimers.isFinish = s.isFinish ∧
    s.endTimers.receives = s.receives ∧ s.endTimers.onCourse = s.onCourse ∧
    s.endTimers.isActive = s.isActive ∧ s.endTimers.running = s.running ∧
    s.endTimers.speaking = s.speaking ∧ s.endTimers.sending = s.sending ∧
    s.endTimers.now = s.now := by
  unfold State.endTimers
  first | (simp; done) | (and_intros <;> first | rfl | (simp; done) | (simp; rfl))

/-- What `State.takeTogether` leaves as it was. -/
@[simp] theorem State.takeTogether_frame (s : State) (x : Together) :
    (s.takeTogether x).clock = s.clock ∧ (s.takeTogether x).gate = s.gate ∧
    (s.takeTogether x).table = s.table ∧ (s.takeTogether x).assign.recEpoch = s.assign.recEpoch ∧
    (s.takeTogether x).assign.recHighest = s.assign.recHighest ∧
    (s.takeTogether x).assign.recOldest = s.assign.recOldest ∧ (s.takeTogether x).epoch = s.epoch ∧
    (s.takeTogether x).outbox.ring = s.outbox.ring ∧
    (s.takeTogether x).outbox.nextSeq = s.outbox.nextSeq ∧
    (s.takeTogether x).outbox.lastSent = s.outbox.lastSent ∧
    (s.takeTogether x).outbox.firstBeaconSent = s.outbox.firstBeaconSent ∧
    (s.takeTogether x).outbox.beaconDue = s.outbox.beaconDue ∧
    (s.takeTogether x).outbox.beaconTimer = s.outbox.beaconTimer ∧
    (s.takeTogether x).outbox.fresh = s.outbox.fresh ∧
    (s.takeTogether x).outbox.freshEnd = s.outbox.freshEnd ∧
    (s.takeTogether x).receiver.snapshot = s.receiver.snapshot ∧ (s.takeTogether x).line = s.line ∧
    (s.takeTogether x).port.phase = s.port.phase ∧ (s.takeTogether x).port.fill = s.port.fill ∧
    (s.takeTogether x).port.bits = s.port.bits ∧ (s.takeTogether x).port.command = s.port.command ∧
    (s.takeTogether x).port.latched = s.port.latched ∧
    (s.takeTogether x).port.latchedSeq = s.port.latchedSeq ∧
    (s.takeTogether x).port.xselLow = s.port.xselLow ∧
    (s.takeTogether x).port.shown = s.port.shown ∧
    (s.takeTogether x).port.xclkHigh = s.port.xclkHigh ∧
    (s.takeTogether x).panel.trip = s.panel.trip ∧ (s.takeTogether x).panel.void = s.panel.void ∧
    (s.takeTogether x).panel.dnf = s.panel.dnf ∧ (s.takeTogether x).panel.ack = s.panel.ack ∧
    (s.takeTogether x).panel.voidHold = s.panel.voidHold ∧
    (s.takeTogether x).panel.dnfHold = s.panel.dnfHold ∧
    (s.takeTogether x).panel.comboRunning = s.panel.comboRunning ∧
    (s.takeTogether x).panel.comboCount = s.panel.comboCount ∧
    (s.takeTogether x).panel.resultHold = s.panel.resultHold ∧
    (s.takeTogether x).panel.runHold = s.panel.runHold ∧
    (s.takeTogether x).panel.divider = s.panel.divider ∧
    (s.takeTogether x).panel.toneDivider = s.panel.toneDivider ∧
    (s.takeTogether x).station.cause = s.station.cause ∧
    (s.takeTogether x).station.straps = s.station.straps ∧
    (s.takeTogether x).station.listenCount = s.station.listenCount ∧
    (s.takeTogether x).freeIndex = s.freeIndex ∧ (s.takeTogether x).pending = s.pending ∧
    (s.takeTogether x).number = s.number ∧ (s.takeTogether x).gates = s.gates ∧
    (s.takeTogether x).stationByte = s.stationByte ∧
    (s.takeTogether x).isGateStation = s.isGateStation ∧
    (s.takeTogether x).isAssigner = s.isAssigner ∧ (s.takeTogether x).isFinish = s.isFinish ∧
    (s.takeTogether x).sending = s.sending ∧ (s.takeTogether x).now = s.now := by
  cases x <;> simp [State.takeTogether]

/-- What `State.takeAll` leaves as it was. -/
@[simp] theorem State.takeAll_frame (s : State) (l : List Together) :
    (s.takeAll l).clock = s.clock ∧ (s.takeAll l).gate = s.gate ∧ (s.takeAll l).table = s.table ∧
    (s.takeAll l).assign.recEpoch = s.assign.recEpoch ∧
    (s.takeAll l).assign.recHighest = s.assign.recHighest ∧
    (s.takeAll l).assign.recOldest = s.assign.recOldest ∧ (s.takeAll l).epoch = s.epoch ∧
    (s.takeAll l).outbox.ring = s.outbox.ring ∧ (s.takeAll l).outbox.nextSeq = s.outbox.nextSeq ∧
    (s.takeAll l).outbox.lastSent = s.outbox.lastSent ∧
    (s.takeAll l).outbox.firstBeaconSent = s.outbox.firstBeaconSent ∧
    (s.takeAll l).outbox.beaconDue = s.outbox.beaconDue ∧
    (s.takeAll l).outbox.beaconTimer = s.outbox.beaconTimer ∧
    (s.takeAll l).outbox.fresh = s.outbox.fresh ∧
    (s.takeAll l).outbox.freshEnd = s.outbox.freshEnd ∧
    (s.takeAll l).receiver.snapshot = s.receiver.snapshot ∧ (s.takeAll l).line = s.line ∧
    (s.takeAll l).port.phase = s.port.phase ∧ (s.takeAll l).port.fill = s.port.fill ∧
    (s.takeAll l).port.bits = s.port.bits ∧ (s.takeAll l).port.command = s.port.command ∧
    (s.takeAll l).port.latched = s.port.latched ∧
    (s.takeAll l).port.latchedSeq = s.port.latchedSeq ∧
    (s.takeAll l).port.xselLow = s.port.xselLow ∧ (s.takeAll l).port.shown = s.port.shown ∧
    (s.takeAll l).port.xclkHigh = s.port.xclkHigh ∧ (s.takeAll l).panel.trip = s.panel.trip ∧
    (s.takeAll l).panel.void = s.panel.void ∧ (s.takeAll l).panel.dnf = s.panel.dnf ∧
    (s.takeAll l).panel.ack = s.panel.ack ∧ (s.takeAll l).panel.voidHold = s.panel.voidHold ∧
    (s.takeAll l).panel.dnfHold = s.panel.dnfHold ∧
    (s.takeAll l).panel.comboRunning = s.panel.comboRunning ∧
    (s.takeAll l).panel.comboCount = s.panel.comboCount ∧
    (s.takeAll l).panel.resultHold = s.panel.resultHold ∧
    (s.takeAll l).panel.runHold = s.panel.runHold ∧ (s.takeAll l).panel.divider = s.panel.divider ∧
    (s.takeAll l).panel.toneDivider = s.panel.toneDivider ∧
    (s.takeAll l).station.cause = s.station.cause ∧
    (s.takeAll l).station.straps = s.station.straps ∧
    (s.takeAll l).station.listenCount = s.station.listenCount ∧
    (s.takeAll l).freeIndex = s.freeIndex ∧ (s.takeAll l).pending = s.pending ∧
    (s.takeAll l).number = s.number ∧ (s.takeAll l).gates = s.gates ∧
    (s.takeAll l).stationByte = s.stationByte ∧ (s.takeAll l).isGateStation = s.isGateStation ∧
    (s.takeAll l).isAssigner = s.isAssigner ∧ (s.takeAll l).isFinish = s.isFinish ∧
    (s.takeAll l).sending = s.sending ∧ (s.takeAll l).now = s.now := by
  induction l generalizing s with
  | nil => simp [State.takeAll]
  | cons x xs ih => simp [State.takeAll, ih]

/-- What `State.fallTogether` leaves as it was. -/
@[simp] theorem State.fallTogether_frame (s : State) (b : Bool) :
    (s.fallTogether b).clock = s.clock ∧ (s.fallTogether b).gate = s.gate ∧
    (s.fallTogether b).table = s.table ∧ (s.fallTogether b).assign.recEpoch = s.assign.recEpoch ∧
    (s.fallTogether b).assign.recHighest = s.assign.recHighest ∧
    (s.fallTogether b).assign.recOldest = s.assign.recOldest ∧ (s.fallTogether b).epoch = s.epoch ∧
    (s.fallTogether b).outbox.ring = s.outbox.ring ∧
    (s.fallTogether b).outbox.nextSeq = s.outbox.nextSeq ∧
    (s.fallTogether b).outbox.lastSent = s.outbox.lastSent ∧
    (s.fallTogether b).outbox.firstBeaconSent = s.outbox.firstBeaconSent ∧
    (s.fallTogether b).outbox.beaconDue = s.outbox.beaconDue ∧
    (s.fallTogether b).outbox.beaconTimer = s.outbox.beaconTimer ∧
    (s.fallTogether b).outbox.fresh = s.outbox.fresh ∧
    (s.fallTogether b).outbox.freshEnd = s.outbox.freshEnd ∧
    (s.fallTogether b).receiver.snapshot = s.receiver.snapshot ∧ (s.fallTogether b).line = s.line ∧
    (s.fallTogether b).port.phase = s.port.phase ∧ (s.fallTogether b).port.fill = s.port.fill ∧
    (s.fallTogether b).port.bits = s.port.bits ∧ (s.fallTogether b).port.command = s.port.command ∧
    (s.fallTogether b).port.latched = s.port.latched ∧
    (s.fallTogether b).port.latchedSeq = s.port.latchedSeq ∧
    (s.fallTogether b).port.xselLow = s.port.xselLow ∧
    (s.fallTogether b).port.shown = s.port.shown ∧
    (s.fallTogether b).port.xclkHigh = s.port.xclkHigh ∧
    (s.fallTogether b).panel.trip = s.panel.trip ∧ (s.fallTogether b).panel.void = s.panel.void ∧
    (s.fallTogether b).panel.dnf = s.panel.dnf ∧ (s.fallTogether b).panel.ack = s.panel.ack ∧
    (s.fallTogether b).panel.voidHold = s.panel.voidHold ∧
    (s.fallTogether b).panel.dnfHold = s.panel.dnfHold ∧
    (s.fallTogether b).panel.comboRunning = s.panel.comboRunning ∧
    (s.fallTogether b).panel.comboCount = s.panel.comboCount ∧
    (s.fallTogether b).panel.resultHold = s.panel.resultHold ∧
    (s.fallTogether b).panel.runHold = s.panel.runHold ∧
    (s.fallTogether b).panel.divider = s.panel.divider ∧
    (s.fallTogether b).panel.toneDivider = s.panel.toneDivider ∧
    (s.fallTogether b).station.cause = s.station.cause ∧
    (s.fallTogether b).station.straps = s.station.straps ∧
    (s.fallTogether b).station.listenCount = s.station.listenCount ∧
    (s.fallTogether b).pending = s.pending ∧ (s.fallTogether b).number = s.number ∧
    (s.fallTogether b).gates = s.gates ∧ (s.fallTogether b).stationByte = s.stationByte ∧
    (s.fallTogether b).isGateStation = s.isGateStation ∧
    (s.fallTogether b).isAssigner = s.isAssigner ∧ (s.fallTogether b).isFinish = s.isFinish ∧
    (s.fallTogether b).sending = s.sending ∧ (s.fallTogether b).now = s.now := by
  unfold State.fallTogether
  first | (simp; done) | (and_intros <;> first | rfl | (simp; done) | (simp; rfl))

/-- What `State.takeTime` leaves as it was. -/
@[simp] theorem State.takeTime_frame (s : State) (t : Nat) :
    (s.takeTime t).clock.stopTicks = s.clock.stopTicks ∧ (s.takeTime t).gate = s.gate ∧
    (s.takeTime t).table.floor = s.table.floor ∧ (s.takeTime t).table.nextRun = s.table.nextRun ∧
    (s.takeTime t).table.markEpoch = s.table.markEpoch ∧
    (s.takeTime t).table.markRun = s.table.markRun ∧
    (s.takeTime t).assign.recEpoch = s.assign.recEpoch ∧
    (s.takeTime t).assign.recHighest = s.assign.recHighest ∧
    (s.takeTime t).assign.recOldest = s.assign.recOldest ∧ (s.takeTime t).epoch = s.epoch ∧
    (s.takeTime t).outbox.ring = s.outbox.ring ∧ (s.takeTime t).outbox.nextSeq = s.outbox.nextSeq ∧
    (s.takeTime t).outbox.lastSent = s.outbox.lastSent ∧
    (s.takeTime t).outbox.firstBeaconSent = s.outbox.firstBeaconSent ∧
    (s.takeTime t).receiver.snapshot = s.receiver.snapshot ∧ (s.takeTime t).line = s.line ∧
    (s.takeTime t).port.phase = s.port.phase ∧ (s.takeTime t).port.fill = s.port.fill ∧
    (s.takeTime t).port.bits = s.port.bits ∧ (s.takeTime t).port.command = s.port.command ∧
    (s.takeTime t).port.latched = s.port.latched ∧
    (s.takeTime t).port.latchedSeq = s.port.latchedSeq ∧
    (s.takeTime t).port.xselLow = s.port.xselLow ∧ (s.takeTime t).port.shown = s.port.shown ∧
    (s.takeTime t).port.xclkHigh = s.port.xclkHigh ∧ (s.takeTime t).panel.trip = s.panel.trip ∧
    (s.takeTime t).panel.void = s.panel.void ∧ (s.takeTime t).panel.dnf = s.panel.dnf ∧
    (s.takeTime t).panel.ack = s.panel.ack ∧ (s.takeTime t).panel.voidHold = s.panel.voidHold ∧
    (s.takeTime t).panel.dnfHold = s.panel.dnfHold ∧
    (s.takeTime t).panel.comboRunning = s.panel.comboRunning ∧
    (s.takeTime t).panel.comboCount = s.panel.comboCount ∧
    (s.takeTime t).panel.divider = s.panel.divider ∧
    (s.takeTime t).panel.toneDivider = s.panel.toneDivider ∧
    (s.takeTime t).station.cause = s.station.cause ∧
    (s.takeTime t).station.straps = s.station.straps ∧
    (s.takeTime t).station.listenCount = s.station.listenCount ∧
    (s.takeTime t).pending = s.pending ∧ (s.takeTime t).number = s.number ∧
    (s.takeTime t).gates = s.gates ∧ (s.takeTime t).stationByte = s.stationByte ∧
    (s.takeTime t).isGateStation = s.isGateStation ∧ (s.takeTime t).isAssigner = s.isAssigner ∧
    (s.takeTime t).isFinish = s.isFinish ∧ (s.takeTime t).sending = s.sending := by
  unfold State.takeTime
  try dsimp only
  repeat' split
  all_goals first | (simp; done) | (and_intros <;> first | rfl | (simp; done) | (simp; rfl))

end Sys2Proof.Machine
end

