-- ==== Sys2Proof/Laws/PerInstr.lean ====
section
/-! SUPPORT. The per-command family LawfulOperands (LAWS.json): what a well-formed command's operands
are, one lemma for each constructor. -/

namespace Sys2Proof.Laws.LawfulOperands

/-- The frame a command brings, if it brings one (R187). -/
def frame : Instr → Option Frame
  | .receiveBeacon h p => some ⟨h, .beacon p⟩
  | .receiveStart h p => some ⟨h, .start p⟩
  | .receiveCross h p => some ⟨h, .cross p⟩
  | .receiveRuling h p => some ⟨h, .ruling p⟩
  | .receiveSession h p => some ⟨h, .session p⟩
  | .receiveRepeat h p => some ⟨h, .askRepeat p⟩
  | .receiveGone h p => some ⟨h, .gone p⟩
  | .resetAsserted _ | .powerFallDuringReset | .clockLoss | .resetReleased _ | .listenEnd
  | .millisecondTick | .beaconTimerEnd | .freshSpanEnd | .gateCandidateLatch
  | .gateActiveAtRelease | .candidateRejected | .crossingAccepted | .holdoffEnd _ | .gateCleared
  | .gateBlocked | .pendingEntryExpiry | .tripPress | .rulingKeyPress _ | .rulingKeyLong _
  | .rulingKeyRelease _ | .combinationFires | .ackPress | .resultHoldEnd | .runNumberHoldEnd
  | .toneStepEnd | .badFrameDropped | .frameAbandoned _ | .peerSilent _ | .retryDeadline _ _
  | .transmitStart | .lineDefer | .transmitComplete | .readbackMismatch | .restEnd | .xselFall
  | .next | .peek | .status | .unknownCommand _ | .replyShiftedOut | .transferComplete
  | .transferAbort | .keyCandidateLatch _ _ | .tripOrAckRelease _ | .byteTaken _
  | .waitingForAFrame | .lineBusy => none

/-- A well-formed command's frame comes from one of the sixteen stations, with sequence 0 where its kind
carries none (R97, R98); and an unknown command byte is none of the three commands (R165). -/
def Statement (i : Instr) : Prop :=
  i.wellFormed = true →
    (∀ f, frame i = some f →
      f.header.station.toNat < 16 ∧ (f.payload.sequenced = true ∨ f.header.seq = 0#8)) ∧
    ∀ b, i = .unknownCommand b → b ∉ commandBytes

/-- What the test of form says of a frame's header. -/
theorem header_of_wellFormed (f : Frame) (h : f.wellFormed = true) :
    f.header.station.toNat < 16 ∧ (f.payload.sequenced = true ∨ f.header.seq = 0#8) := by
  unfold Frame.wellFormed at h
  simp only [Bool.and_eq_true, decide_eq_true_eq, Bool.or_eq_true, beq_iff_eq] at h
  exact h.1

/-- A command without operands to test. -/
theorem statement_of_plain (i : Instr) (h : frame i = none) (h' : ∀ b, i ≠ .unknownCommand b) :
    Statement i := by
  intro _
  refine ⟨fun f hf => ?_, fun b hb => (h' b hb).elim⟩
  rw [h] at hf
  exact nomatch hf

/-- A command that brings a frame. -/
theorem statement_of_frame (i : Instr) (f : Frame) (h : frame i = some f)
    (hw : i.wellFormed = f.wellFormed) (h' : ∀ b, i ≠ .unknownCommand b) : Statement i := by
  intro hi
  refine ⟨fun g hg => ?_, fun b hb => (h' b hb).elim⟩
  rw [h] at hg
  cases hg
  exact header_of_wellFormed f (hw ▸ hi)

theorem resetAsserted (cause : ResetInput) : Statement (.resetAsserted cause) :=
  statement_of_plain _ rfl (fun _ e => nomatch e)

theorem powerFallDuringReset : Statement .powerFallDuringReset :=
  statement_of_plain _ rfl (fun _ e => nomatch e)

theorem clockLoss : Statement .clockLoss :=
  statement_of_plain _ rfl (fun _ e => nomatch e)

theorem resetReleased (straps : Straps) : Statement (.resetReleased straps) :=
  statement_of_plain _ rfl (fun _ e => nomatch e)

theorem listenEnd : Statement .listenEnd :=
  statement_of_plain _ rfl (fun _ e => nomatch e)

theorem millisecondTick : Statement .millisecondTick :=
  statement_of_plain _ rfl (fun _ e => nomatch e)

theorem beaconTimerEnd : Statement .beaconTimerEnd :=
  statement_of_plain _ rfl (fun _ e => nomatch e)

theorem freshSpanEnd : Statement .freshSpanEnd :=
  statement_of_plain _ rfl (fun _ e => nomatch e)

theorem gateCandidateLatch : Statement .gateCandidateLatch :=
  statement_of_plain _ rfl (fun _ e => nomatch e)

theorem gateActiveAtRelease : Statement .gateActiveAtRelease :=
  statement_of_plain _ rfl (fun _ e => nomatch e)

theorem candidateRejected : Statement .candidateRejected :=
  statement_of_plain _ rfl (fun _ e => nomatch e)

theorem crossingAccepted : Statement .crossingAccepted :=
  statement_of_plain _ rfl (fun _ e => nomatch e)

theorem holdoffEnd (active : Bool) : Statement (.holdoffEnd active) :=
  statement_of_plain _ rfl (fun _ e => nomatch e)

theorem gateCleared : Statement .gateCleared :=
  statement_of_plain _ rfl (fun _ e => nomatch e)

theorem gateBlocked : Statement .gateBlocked :=
  statement_of_plain _ rfl (fun _ e => nomatch e)

theorem pendingEntryExpiry : Statement .pendingEntryExpiry :=
  statement_of_plain _ rfl (fun _ e => nomatch e)

theorem tripPress : Statement .tripPress :=
  statement_of_plain _ rfl (fun _ e => nomatch e)

theorem rulingKeyPress (key : RulingKey) : Statement (.rulingKeyPress key) :=
  statement_of_plain _ rfl (fun _ e => nomatch e)

theorem rulingKeyLong (key : RulingKey) : Statement (.rulingKeyLong key) :=
  statement_of_plain _ rfl (fun _ e => nomatch e)

theorem rulingKeyRelease (key : RulingKey) : Statement (.rulingKeyRelease key) :=
  statement_of_plain _ rfl (fun _ e => nomatch e)

theorem combinationFires : Statement .combinationFires :=
  statement_of_plain _ rfl (fun _ e => nomatch e)

theorem ackPress : Statement .ackPress :=
  statement_of_plain _ rfl (fun _ e => nomatch e)

theorem resultHoldEnd : Statement .resultHoldEnd :=
  statement_of_plain _ rfl (fun _ e => nomatch e)

theorem runNumberHoldEnd : Statement .runNumberHoldEnd :=
  statement_of_plain _ rfl (fun _ e => nomatch e)

theorem toneStepEnd : Statement .toneStepEnd :=
  statement_of_plain _ rfl (fun _ e => nomatch e)

theorem receiveBeacon (h : Header) (p : BeaconPayload) : Statement (.receiveBeacon h p) :=
  statement_of_frame _ _ rfl rfl (fun _ e => nomatch e)

theorem receiveStart (h : Header) (p : StartPayload) : Statement (.receiveStart h p) :=
  statement_of_frame _ _ rfl rfl (fun _ e => nomatch e)

theorem receiveCross (h : Header) (p : CrossPayload) : Statement (.receiveCross h p) :=
  statement_of_frame _ _ rfl rfl (fun _ e => nomatch e)

theorem receiveRuling (h : Header) (p : RulingPayload) : Statement (.receiveRuling h p) :=
  statement_of_frame _ _ rfl rfl (fun _ e => nomatch e)

theorem receiveSession (h : Header) (p : SessionPayload) : Statement (.receiveSession h p) :=
  statement_of_frame _ _ rfl rfl (fun _ e => nomatch e)

theorem receiveRepeat (h : Header) (p : RepeatPayload) : Statement (.receiveRepeat h p) :=
  statement_of_frame _ _ rfl rfl (fun _ e => nomatch e)

theorem receiveGone (h : Header) (p : GonePayload) : Statement (.receiveGone h p) :=
  statement_of_frame _ _ rfl rfl (fun _ e => nomatch e)

theorem badFrameDropped : Statement .badFrameDropped :=
  statement_of_plain _ rfl (fun _ e => nomatch e)

theorem frameAbandoned (cause : AbandonCause) : Statement (.frameAbandoned cause) :=
  statement_of_plain _ rfl (fun _ e => nomatch e)

theorem peerSilent (peer : Fin 16) : Statement (.peerSilent peer) :=
  statement_of_plain _ rfl (fun _ e => nomatch e)

theorem retryDeadline (peer : Fin 16) (seq : Byte) : Statement (.retryDeadline peer seq) :=
  statement_of_plain _ rfl (fun _ e => nomatch e)

theorem transmitStart : Statement .transmitStart :=
  statement_of_plain _ rfl (fun _ e => nomatch e)

theorem lineDefer : Statement .lineDefer :=
  statement_of_plain _ rfl (fun _ e => nomatch e)

theorem transmitComplete : Statement .transmitComplete :=
  statement_of_plain _ rfl (fun _ e => nomatch e)

theorem readbackMismatch : Statement .readbackMismatch :=
  statement_of_plain _ rfl (fun _ e => nomatch e)

theorem restEnd : Statement .restEnd :=
  statement_of_plain _ rfl (fun _ e => nomatch e)

theorem xselFall : Statement .xselFall :=
  statement_of_plain _ rfl (fun _ e => nomatch e)

theorem next : Statement .next :=
  statement_of_plain _ rfl (fun _ e => nomatch e)

theorem peek : Statement .peek :=
  statement_of_plain _ rfl (fun _ e => nomatch e)

theorem status : Statement .status :=
  statement_of_plain _ rfl (fun _ e => nomatch e)

theorem unknownCommand (b : Byte) : Statement (.unknownCommand b) := by
  intro h
  refine ⟨fun f hf => (nomatch hf), fun x e => ?_⟩
  cases e
  simpa [Instr.wellFormed] using h

theorem replyShiftedOut : Statement .replyShiftedOut :=
  statement_of_plain _ rfl (fun _ e => nomatch e)

theorem transferComplete : Statement .transferComplete :=
  statement_of_plain _ rfl (fun _ e => nomatch e)

theorem transferAbort : Statement .transferAbort :=
  statement_of_plain _ rfl (fun _ e => nomatch e)

theorem keyCandidateLatch (key : Key) (down : Bool) : Statement (.keyCandidateLatch key down) :=
  statement_of_plain _ rfl (fun _ e => nomatch e)

theorem tripOrAckRelease (key : PlainKey) : Statement (.tripOrAckRelease key) :=
  statement_of_plain _ rfl (fun _ e => nomatch e)

theorem byteTaken (ended : ByteEnd) : Statement (.byteTaken ended) :=
  statement_of_plain _ rfl (fun _ e => nomatch e)

theorem waitingForAFrame : Statement .waitingForAFrame :=
  statement_of_plain _ rfl (fun _ e => nomatch e)

theorem lineBusy : Statement .lineBusy :=
  statement_of_plain _ rfl (fun _ e => nomatch e)

end Sys2Proof.Laws.LawfulOperands
end

