-- ==== Sys2Proof/Laws/Receive.lean ====
section
/-! SUPPORT. What the steps of taking a frame leave as it was. -/

set_option linter.unusedTactic false
set_option linter.unreachableTactic false
namespace Sys2Proof.Machine

/-- What `State.ownNumber` leaves as it was. -/
@[simp] theorem State.ownNumber_frame (s : State) :
    s.ownNumber.clock = s.clock ∧ s.ownNumber.table = s.table ∧
    s.ownNumber.assign.held = s.assign.held ∧ s.ownNumber.assign.boundary = s.assign.boundary ∧
    s.ownNumber.assign.recEpoch = s.assign.recEpoch ∧
    s.ownNumber.assign.recHighest = s.assign.recHighest ∧
    s.ownNumber.assign.recOldest = s.assign.recOldest ∧ s.ownNumber.outbox.ring = s.outbox.ring ∧
    s.ownNumber.outbox.nextSeq = s.outbox.nextSeq ∧
    s.ownNumber.outbox.lastSent = s.outbox.lastSent ∧
    s.ownNumber.outbox.firstBeaconSent = s.outbox.firstBeaconSent ∧
    s.ownNumber.outbox.fresh = s.outbox.fresh ∧ s.ownNumber.outbox.freshEnd = s.outbox.freshEnd ∧
    s.ownNumber.receiver = s.receiver ∧ s.ownNumber.line.rest = s.line.rest ∧
    s.ownNumber.line.restPeriods = s.line.restPeriods ∧ s.ownNumber.line.failed = s.line.failed ∧
    s.ownNumber.line.idlePeriods = s.line.idlePeriods ∧ s.ownNumber.line.restDue = s.line.restDue ∧
    s.ownNumber.line.dominant = s.line.dominant ∧ s.ownNumber.line.reading = s.line.reading ∧
    s.ownNumber.line.rx = s.line.rx ∧ s.ownNumber.line.complete = s.line.complete ∧
    s.ownNumber.port.phase = s.port.phase ∧ s.ownNumber.port.fill = s.port.fill ∧
    s.ownNumber.port.bits = s.port.bits ∧ s.ownNumber.port.command = s.port.command ∧
    s.ownNumber.port.latched = s.port.latched ∧ s.ownNumber.port.latchedSeq = s.port.latchedSeq ∧
    s.ownNumber.port.xselLow = s.port.xselLow ∧ s.ownNumber.port.shown = s.port.shown ∧
    s.ownNumber.port.xclkHigh = s.port.xclkHigh ∧ s.ownNumber.panel.trip = s.panel.trip ∧
    s.ownNumber.panel.void = s.panel.void ∧ s.ownNumber.panel.dnf = s.panel.dnf ∧
    s.ownNumber.panel.ack = s.panel.ack ∧ s.ownNumber.panel.voidHold = s.panel.voidHold ∧
    s.ownNumber.panel.dnfHold = s.panel.dnfHold ∧
    s.ownNumber.panel.comboRunning = s.panel.comboRunning ∧
    s.ownNumber.panel.comboCount = s.panel.comboCount ∧
    s.ownNumber.panel.resultHold = s.panel.resultHold ∧
    s.ownNumber.panel.runHold = s.panel.runHold ∧ s.ownNumber.panel.divider = s.panel.divider ∧
    s.ownNumber.panel.toneDivider = s.panel.toneDivider ∧
    s.ownNumber.station.cause = s.station.cause ∧ s.ownNumber.station.straps = s.station.straps ∧
    s.ownNumber.station.listenCount = s.station.listenCount ∧ s.ownNumber.freeIndex = s.freeIndex ∧
    s.ownNumber.pending = s.pending ∧ s.ownNumber.number = s.number ∧ s.ownNumber.gates = s.gates ∧
    s.ownNumber.stationByte = s.stationByte ∧ s.ownNumber.isGateStation = s.isGateStation ∧
    s.ownNumber.isAssigner = s.isAssigner ∧ s.ownNumber.isFinish = s.isFinish ∧
    s.ownNumber.now = s.now := by
  unfold State.ownNumber
  try dsimp only
  repeat' split
  all_goals first | (simp; done) | (and_intros <;> first | rfl | (simp; done) | (simp; rfl))

/-- What `State.book` leaves as it was. -/
@[simp] theorem State.book_frame (s : State) (p : Nat) (f : Frame) :
    (s.book p f).1.clock = s.clock ∧ (s.book p f).1.gate = s.gate ∧ (s.book p f).1.table = s.table ∧
    (s.book p f).1.assign.recEpoch = s.assign.recEpoch ∧
    (s.book p f).1.assign.recHighest = s.assign.recHighest ∧
    (s.book p f).1.assign.recOldest = s.assign.recOldest ∧ (s.book p f).1.epoch = s.epoch ∧
    (s.book p f).1.outbox.ring = s.outbox.ring ∧ (s.book p f).1.outbox.nextSeq = s.outbox.nextSeq ∧
    (s.book p f).1.outbox.lastSent = s.outbox.lastSent ∧
    (s.book p f).1.outbox.firstBeaconSent = s.outbox.firstBeaconSent ∧
    (s.book p f).1.outbox.beaconDue = s.outbox.beaconDue ∧
    (s.book p f).1.outbox.beaconTimer = s.outbox.beaconTimer ∧
    (s.book p f).1.outbox.fresh = s.outbox.fresh ∧
    (s.book p f).1.outbox.freshEnd = s.outbox.freshEnd ∧
    (s.book p f).1.receiver.snapshot = s.receiver.snapshot ∧ (s.book p f).1.line = s.line ∧
    (s.book p f).1.port.phase = s.port.phase ∧ (s.book p f).1.port.fill = s.port.fill ∧
    (s.book p f).1.port.bits = s.port.bits ∧ (s.book p f).1.port.command = s.port.command ∧
    (s.book p f).1.port.latched = s.port.latched ∧
    (s.book p f).1.port.latchedSeq = s.port.latchedSeq ∧
    (s.book p f).1.port.xselLow = s.port.xselLow ∧ (s.book p f).1.port.shown = s.port.shown ∧
    (s.book p f).1.port.xclkHigh = s.port.xclkHigh ∧ (s.book p f).1.panel.trip = s.panel.trip ∧
    (s.book p f).1.panel.void = s.panel.void ∧ (s.book p f).1.panel.dnf = s.panel.dnf ∧
    (s.book p f).1.panel.ack = s.panel.ack ∧ (s.book p f).1.panel.voidHold = s.panel.voidHold ∧
    (s.book p f).1.panel.dnfHold = s.panel.dnfHold ∧
    (s.book p f).1.panel.comboRunning = s.panel.comboRunning ∧
    (s.book p f).1.panel.comboCount = s.panel.comboCount ∧
    (s.book p f).1.panel.resultHold = s.panel.resultHold ∧
    (s.book p f).1.panel.runHold = s.panel.runHold ∧
    (s.book p f).1.panel.divider = s.panel.divider ∧
    (s.book p f).1.panel.toneDivider = s.panel.toneDivider ∧
    (s.book p f).1.station.state = s.station.state ∧
    (s.book p f).1.station.cause = s.station.cause ∧
    (s.book p f).1.station.straps = s.station.straps ∧
    (s.book p f).1.station.listenCount = s.station.listenCount ∧
    (s.book p f).1.station.closedSpeaking = s.station.closedSpeaking ∧
    (s.book p f).1.freeIndex = s.freeIndex ∧ (s.book p f).1.pending = s.pending ∧
    (s.book p f).1.number = s.number ∧ (s.book p f).1.gates = s.gates ∧
    (s.book p f).1.stationByte = s.stationByte ∧ (s.book p f).1.isGateStation = s.isGateStation ∧
    (s.book p f).1.isAssigner = s.isAssigner ∧ (s.book p f).1.isFinish = s.isFinish ∧
    (s.book p f).1.receives = s.receives ∧ (s.book p f).1.onCourse = s.onCourse ∧
    (s.book p f).1.isActive = s.isActive ∧ (s.book p f).1.running = s.running ∧
    (s.book p f).1.speaking = s.speaking ∧ (s.book p f).1.sending = s.sending ∧
    (s.book p f).1.now = s.now := by
  unfold State.book
  try dsimp only
  repeat' split
  all_goals first | (simp; done) | (and_intros <;> first | rfl | (simp; done) | (simp; rfl))

/-- What `State.updateMark` leaves as it was. -/
@[simp] theorem State.updateMark_frame (s : State) (f : Frame) :
    (s.updateMark f).clock = s.clock ∧ (s.updateMark f).gate = s.gate ∧
    (s.updateMark f).table.records = s.table.records ∧
    (s.updateMark f).table.floor = s.table.floor ∧
    (s.updateMark f).table.nextRun = s.table.nextRun ∧ (s.updateMark f).assign = s.assign ∧
    (s.updateMark f).epoch = s.epoch ∧ (s.updateMark f).outbox = s.outbox ∧
    (s.updateMark f).receiver = s.receiver ∧ (s.updateMark f).line = s.line ∧
    (s.updateMark f).results = s.results ∧ (s.updateMark f).port = s.port ∧
    (s.updateMark f).panel = s.panel ∧ (s.updateMark f).station = s.station ∧
    (s.updateMark f).freeIndex = s.freeIndex ∧ (s.updateMark f).pending = s.pending ∧
    (s.updateMark f).number = s.number ∧ (s.updateMark f).gates = s.gates ∧
    (s.updateMark f).stationByte = s.stationByte ∧
    (s.updateMark f).isGateStation = s.isGateStation ∧ (s.updateMark f).isAssigner = s.isAssigner ∧
    (s.updateMark f).isFinish = s.isFinish ∧ (s.updateMark f).receives = s.receives ∧
    (s.updateMark f).onCourse = s.onCourse ∧ (s.updateMark f).isActive = s.isActive ∧
    (s.updateMark f).running = s.running ∧ (s.updateMark f).speaking = s.speaking ∧
    (s.updateMark f).sending = s.sending ∧ (s.updateMark f).now = s.now := by
  unfold State.updateMark
  try dsimp only
  repeat' split
  all_goals first | (simp; done) | (and_intros <;> first | rfl | (simp; done) | (simp; rfl))

/-- What `State.updateRecord` leaves as it was. -/
@[simp] theorem State.updateRecord_frame (s : State) (f : Frame) :
    (s.updateRecord f).clock = s.clock ∧ (s.updateRecord f).gate = s.gate ∧
    (s.updateRecord f).table = s.table ∧ (s.updateRecord f).assign.entries = s.assign.entries ∧
    (s.updateRecord f).assign.held = s.assign.held ∧
    (s.updateRecord f).assign.boundary = s.assign.boundary ∧ (s.updateRecord f).epoch = s.epoch ∧
    (s.updateRecord f).outbox = s.outbox ∧ (s.updateRecord f).receiver = s.receiver ∧
    (s.updateRecord f).line = s.line ∧ (s.updateRecord f).results = s.results ∧
    (s.updateRecord f).port = s.port ∧ (s.updateRecord f).panel = s.panel ∧
    (s.updateRecord f).station = s.station ∧ (s.updateRecord f).freeIndex = s.freeIndex ∧
    (s.updateRecord f).pending = s.pending ∧ (s.updateRecord f).number = s.number ∧
    (s.updateRecord f).gates = s.gates ∧ (s.updateRecord f).stationByte = s.stationByte ∧
    (s.updateRecord f).isGateStation = s.isGateStation ∧
    (s.updateRecord f).isAssigner = s.isAssigner ∧ (s.updateRecord f).isFinish = s.isFinish ∧
    (s.updateRecord f).receives = s.receives ∧ (s.updateRecord f).onCourse = s.onCourse ∧
    (s.updateRecord f).isActive = s.isActive ∧ (s.updateRecord f).running = s.running ∧
    (s.updateRecord f).speaking = s.speaking ∧ (s.updateRecord f).sending = s.sending ∧
    (s.updateRecord f).now = s.now := by
  unfold State.updateRecord
  try dsimp only
  repeat' split
  all_goals first | (simp; done) | (and_intros <;> first | rfl | (simp; done) | (simp; rfl))

/-- What `State.epochStep` leaves as it was. -/
@[simp] theorem State.epochStep_frame (s : State) (f : Frame) :
    (s.epochStep f).1.clock = s.clock ∧ (s.epochStep f).1.gate = s.gate ∧
    (s.epochStep f).1.outbox = s.outbox ∧ (s.epochStep f).1.receiver = s.receiver ∧
    (s.epochStep f).1.line = s.line ∧ (s.epochStep f).1.port.phase = s.port.phase ∧
    (s.epochStep f).1.port.fill = s.port.fill ∧ (s.epochStep f).1.port.bits = s.port.bits ∧
    (s.epochStep f).1.port.command = s.port.command ∧
    (s.epochStep f).1.port.latched = s.port.latched ∧
    (s.epochStep f).1.port.latchedSeq = s.port.latchedSeq ∧
    (s.epochStep f).1.port.xselLow = s.port.xselLow ∧ (s.epochStep f).1.port.shown = s.port.shown ∧
    (s.epochStep f).1.port.xclkHigh = s.port.xclkHigh ∧ (s.epochStep f).1.panel = s.panel ∧
    (s.epochStep f).1.station = s.station ∧ (s.epochStep f).1.freeIndex = s.freeIndex ∧
    (s.epochStep f).1.pending = s.pending ∧ (s.epochStep f).1.number = s.number ∧
    (s.epochStep f).1.gates = s.gates ∧ (s.epochStep f).1.stationByte = s.stationByte ∧
    (s.epochStep f).1.isGateStation = s.isGateStation ∧
    (s.epochStep f).1.isAssigner = s.isAssigner ∧ (s.epochStep f).1.isFinish = s.isFinish ∧
    (s.epochStep f).1.receives = s.receives ∧ (s.epochStep f).1.onCourse = s.onCourse ∧
    (s.epochStep f).1.isActive = s.isActive ∧ (s.epochStep f).1.running = s.running ∧
    (s.epochStep f).1.speaking = s.speaking ∧ (s.epochStep f).1.sending = s.sending ∧
    (s.epochStep f).1.now = s.now := by
  unfold State.epochStep
  try dsimp only
  repeat' split
  all_goals first | (simp; done) | (and_intros <;> first | rfl | (simp; done) | (simp; rfl))

/-- What `State.beaconContent` leaves as it was. -/
@[simp] theorem State.beaconContent_frame (s : State) (f : Frame) (b : BeaconPayload) (o : Bool) :
    (s.beaconContent f b o).clock.stopTicks = s.clock.stopTicks ∧
    (s.beaconContent f b o).gate = s.gate ∧ (s.beaconContent f b o).table.floor = s.table.floor ∧
    (s.beaconContent f b o).table.nextRun = s.table.nextRun ∧
    (s.beaconContent f b o).table.markEpoch = s.table.markEpoch ∧
    (s.beaconContent f b o).table.markRun = s.table.markRun ∧
    (s.beaconContent f b o).assign.recEpoch = s.assign.recEpoch ∧
    (s.beaconContent f b o).assign.recHighest = s.assign.recHighest ∧
    (s.beaconContent f b o).assign.recOldest = s.assign.recOldest ∧
    (s.beaconContent f b o).epoch = s.epoch ∧ (s.beaconContent f b o).outbox.ring = s.outbox.ring ∧
    (s.beaconContent f b o).outbox.nextSeq = s.outbox.nextSeq ∧
    (s.beaconContent f b o).outbox.lastSent = s.outbox.lastSent ∧
    (s.beaconContent f b o).outbox.firstBeaconSent = s.outbox.firstBeaconSent ∧
    (s.beaconContent f b o).line = s.line ∧ (s.beaconContent f b o).port.phase = s.port.phase ∧
    (s.beaconContent f b o).port.fill = s.port.fill ∧
    (s.beaconContent f b o).port.bits = s.port.bits ∧
    (s.beaconContent f b o).port.command = s.port.command ∧
    (s.beaconContent f b o).port.latched = s.port.latched ∧
    (s.beaconContent f b o).port.latchedSeq = s.port.latchedSeq ∧
    (s.beaconContent f b o).port.xselLow = s.port.xselLow ∧
    (s.beaconContent f b o).port.shown = s.port.shown ∧
    (s.beaconContent f b o).port.xclkHigh = s.port.xclkHigh ∧
    (s.beaconContent f b o).panel.trip = s.panel.trip ∧
    (s.beaconContent f b o).panel.void = s.panel.void ∧
    (s.beaconContent f b o).panel.dnf = s.panel.dnf ∧
    (s.beaconContent f b o).panel.ack = s.panel.ack ∧
    (s.beaconContent f b o).panel.voidHold = s.panel.voidHold ∧
    (s.beaconContent f b o).panel.dnfHold = s.panel.dnfHold ∧
    (s.beaconContent f b o).panel.comboRunning = s.panel.comboRunning ∧
    (s.beaconContent f b o).panel.comboCount = s.panel.comboCount ∧
    (s.beaconContent f b o).panel.divider = s.panel.divider ∧
    (s.beaconContent f b o).panel.toneDivider = s.panel.toneDivider ∧
    (s.beaconContent f b o).station.cause = s.station.cause ∧
    (s.beaconContent f b o).station.straps = s.station.straps ∧
    (s.beaconContent f b o).station.listenCount = s.station.listenCount ∧
    (s.beaconContent f b o).pending = s.pending ∧ (s.beaconContent f b o).number = s.number ∧
    (s.beaconContent f b o).gates = s.gates ∧ (s.beaconContent f b o).stationByte = s.stationByte ∧
    (s.beaconContent f b o).isGateStation = s.isGateStation ∧
    (s.beaconContent f b o).isAssigner = s.isAssigner ∧
    (s.beaconContent f b o).isFinish = s.isFinish ∧
    (s.beaconContent f b o).sending = s.sending := by
  unfold State.beaconContent
  try dsimp only
  repeat' split
  all_goals first | (simp; done) | (and_intros <;> first | rfl | (simp; done) | (simp; rfl))

/-- What `State.content` leaves as it was. -/
@[simp] theorem State.content_frame (s : State) (f : Frame) (a o : Bool) :
    (s.content f a o).clock.stopTicks = s.clock.stopTicks ∧ (s.content f a o).gate = s.gate ∧
    (s.content f a o).outbox.lastSent = s.outbox.lastSent ∧
    (s.content f a o).outbox.firstBeaconSent = s.outbox.firstBeaconSent ∧
    (s.content f a o).line = s.line ∧ (s.content f a o).port.phase = s.port.phase ∧
    (s.content f a o).port.fill = s.port.fill ∧ (s.content f a o).port.bits = s.port.bits ∧
    (s.content f a o).port.command = s.port.command ∧
    (s.content f a o).port.latched = s.port.latched ∧
    (s.content f a o).port.latchedSeq = s.port.latchedSeq ∧
    (s.content f a o).port.xselLow = s.port.xselLow ∧ (s.content f a o).port.shown = s.port.shown ∧
    (s.content f a o).port.xclkHigh = s.port.xclkHigh ∧
    (s.content f a o).panel.trip = s.panel.trip ∧ (s.content f a o).panel.void = s.panel.void ∧
    (s.content f a o).panel.dnf = s.panel.dnf ∧ (s.content f a o).panel.ack = s.panel.ack ∧
    (s.content f a o).panel.voidHold = s.panel.voidHold ∧
    (s.content f a o).panel.dnfHold = s.panel.dnfHold ∧
    (s.content f a o).panel.comboRunning = s.panel.comboRunning ∧
    (s.content f a o).panel.comboCount = s.panel.comboCount ∧
    (s.content f a o).panel.divider = s.panel.divider ∧
    (s.content f a o).panel.toneDivider = s.panel.toneDivider ∧
    (s.content f a o).station.cause = s.station.cause ∧
    (s.content f a o).station.straps = s.station.straps ∧
    (s.content f a o).station.listenCount = s.station.listenCount ∧
    (s.content f a o).pending = s.pending ∧ (s.content f a o).number = s.number ∧
    (s.content f a o).gates = s.gates ∧ (s.content f a o).stationByte = s.stationByte ∧
    (s.content f a o).isGateStation = s.isGateStation ∧
    (s.content f a o).isAssigner = s.isAssigner ∧ (s.content f a o).isFinish = s.isFinish ∧
    (s.content f a o).sending = s.sending := by
  unfold State.content
  try dsimp only
  repeat' split
  all_goals first | (simp; done) | (and_intros <;> first | rfl | (simp; done) | (simp; rfl))

/-- What `State.leaveMismatch` leaves as it was. -/
@[simp] theorem State.leaveMismatch_frame (s : State) (p : Nat) :
    (s.leaveMismatch p).clock = s.clock ∧ (s.leaveMismatch p).gate = s.gate ∧
    (s.leaveMismatch p).table = s.table ∧ (s.leaveMismatch p).assign = s.assign ∧
    (s.leaveMismatch p).epoch = s.epoch ∧ (s.leaveMismatch p).outbox = s.outbox ∧
    (s.leaveMismatch p).receiver.snapshot = s.receiver.snapshot ∧
    (s.leaveMismatch p).line = s.line ∧ (s.leaveMismatch p).results = s.results ∧
    (s.leaveMismatch p).port = s.port ∧ (s.leaveMismatch p).panel = s.panel ∧
    (s.leaveMismatch p).station = s.station ∧ (s.leaveMismatch p).freeIndex = s.freeIndex ∧
    (s.leaveMismatch p).pending = s.pending ∧ (s.leaveMismatch p).number = s.number ∧
    (s.leaveMismatch p).gates = s.gates ∧ (s.leaveMismatch p).stationByte = s.stationByte ∧
    (s.leaveMismatch p).isGateStation = s.isGateStation ∧
    (s.leaveMismatch p).isAssigner = s.isAssigner ∧ (s.leaveMismatch p).isFinish = s.isFinish ∧
    (s.leaveMismatch p).receives = s.receives ∧ (s.leaveMismatch p).onCourse = s.onCourse ∧
    (s.leaveMismatch p).isActive = s.isActive ∧ (s.leaveMismatch p).running = s.running ∧
    (s.leaveMismatch p).speaking = s.speaking ∧ (s.leaveMismatch p).sending = s.sending ∧
    (s.leaveMismatch p).now = s.now := by
  unfold State.leaveMismatch
  try dsimp only
  repeat' split
  all_goals first | (simp; done) | (and_intros <;> first | rfl | (simp; done) | (simp; rfl))

/-- What `State.accept` leaves as it was. -/
@[simp] theorem State.accept_frame (s : State) (f : Frame) :
    (s.accept f).clock.stopTicks = s.clock.stopTicks ∧ (s.accept f).gate = s.gate ∧
    (s.accept f).outbox.lastSent = s.outbox.lastSent ∧
    (s.accept f).outbox.firstBeaconSent = s.outbox.firstBeaconSent ∧ (s.accept f).line = s.line ∧
    (s.accept f).port.phase = s.port.phase ∧ (s.accept f).port.fill = s.port.fill ∧
    (s.accept f).port.bits = s.port.bits ∧ (s.accept f).port.command = s.port.command ∧
    (s.accept f).port.latched = s.port.latched ∧ (s.accept f).port.latchedSeq = s.port.latchedSeq ∧
    (s.accept f).port.xselLow = s.port.xselLow ∧ (s.accept f).port.shown = s.port.shown ∧
    (s.accept f).port.xclkHigh = s.port.xclkHigh ∧ (s.accept f).panel.trip = s.panel.trip ∧
    (s.accept f).panel.void = s.panel.void ∧ (s.accept f).panel.dnf = s.panel.dnf ∧
    (s.accept f).panel.ack = s.panel.ack ∧ (s.accept f).panel.voidHold = s.panel.voidHold ∧
    (s.accept f).panel.dnfHold = s.panel.dnfHold ∧
    (s.accept f).panel.comboRunning = s.panel.comboRunning ∧
    (s.accept f).panel.comboCount = s.panel.comboCount ∧
    (s.accept f).panel.divider = s.panel.divider ∧
    (s.accept f).panel.toneDivider = s.panel.toneDivider ∧
    (s.accept f).station.cause = s.station.cause ∧ (s.accept f).station.straps = s.station.straps ∧
    (s.accept f).station.listenCount = s.station.listenCount ∧ (s.accept f).pending = s.pending ∧
    (s.accept f).number = s.number ∧ (s.accept f).gates = s.gates ∧
    (s.accept f).stationByte = s.stationByte ∧ (s.accept f).isGateStation = s.isGateStation ∧
    (s.accept f).isAssigner = s.isAssigner ∧ (s.accept f).isFinish = s.isFinish ∧
    (s.accept f).sending = s.sending := by
  unfold State.accept
  first | (simp; done) | (and_intros <;> first | rfl | (simp; done) | (simp; rfl))

/-- What `State.receive` leaves as it was. -/
@[simp] theorem State.receive_frame (s : State) (f : Frame) :
    (s.receive f).clock.stopTicks = s.clock.stopTicks ∧
    (s.receive f).outbox.lastSent = s.outbox.lastSent ∧
    (s.receive f).outbox.firstBeaconSent = s.outbox.firstBeaconSent ∧
    (s.receive f).port.phase = s.port.phase ∧ (s.receive f).port.fill = s.port.fill ∧
    (s.receive f).port.bits = s.port.bits ∧ (s.receive f).port.command = s.port.command ∧
    (s.receive f).port.latched = s.port.latched ∧
    (s.receive f).port.latchedSeq = s.port.latchedSeq ∧
    (s.receive f).port.xselLow = s.port.xselLow ∧ (s.receive f).port.shown = s.port.shown ∧
    (s.receive f).port.xclkHigh = s.port.xclkHigh ∧ (s.receive f).panel.trip = s.panel.trip ∧
    (s.receive f).panel.void = s.panel.void ∧ (s.receive f).panel.dnf = s.panel.dnf ∧
    (s.receive f).panel.ack = s.panel.ack ∧ (s.receive f).panel.voidHold = s.panel.voidHold ∧
    (s.receive f).panel.dnfHold = s.panel.dnfHold ∧
    (s.receive f).panel.comboRunning = s.panel.comboRunning ∧
    (s.receive f).panel.comboCount = s.panel.comboCount ∧
    (s.receive f).panel.divider = s.panel.divider ∧
    (s.receive f).panel.toneDivider = s.panel.toneDivider ∧
    (s.receive f).station.cause = s.station.cause ∧
    (s.receive f).station.straps = s.station.straps ∧
    (s.receive f).station.listenCount = s.station.listenCount ∧ (s.receive f).pending = s.pending ∧
    (s.receive f).number = s.number ∧ (s.receive f).gates = s.gates ∧
    (s.receive f).stationByte = s.stationByte ∧ (s.receive f).isGateStation = s.isGateStation ∧
    (s.receive f).isAssigner = s.isAssigner ∧ (s.receive f).isFinish = s.isFinish := by
  unfold State.receive
  try dsimp only
  repeat' split
  all_goals first | (simp; done) | (and_intros <;> first | rfl | (simp; done) | (simp; rfl))

/-- What `State.setCounter` leaves as it was. -/
@[simp] theorem State.setCounter_frame (s : State) (b : Bool) :
    (s.setCounter b).clock = s.clock ∧ (s.setCounter b).gate = s.gate ∧
    (s.setCounter b).table.records = s.table.records ∧
    (s.setCounter b).table.floor = s.table.floor ∧
    (s.setCounter b).table.markEpoch = s.table.markEpoch ∧
    (s.setCounter b).table.markRun = s.table.markRun ∧ (s.setCounter b).assign = s.assign ∧
    (s.setCounter b).epoch = s.epoch ∧ (s.setCounter b).outbox = s.outbox ∧
    (s.setCounter b).receiver = s.receiver ∧ (s.setCounter b).line = s.line ∧
    (s.setCounter b).results = s.results ∧ (s.setCounter b).port = s.port ∧
    (s.setCounter b).panel = s.panel ∧ (s.setCounter b).station = s.station ∧
    (s.setCounter b).freeIndex = s.freeIndex ∧ (s.setCounter b).pending = s.pending ∧
    (s.setCounter b).number = s.number ∧ (s.setCounter b).gates = s.gates ∧
    (s.setCounter b).stationByte = s.stationByte ∧
    (s.setCounter b).isGateStation = s.isGateStation ∧ (s.setCounter b).isAssigner = s.isAssigner ∧
    (s.setCounter b).isFinish = s.isFinish ∧ (s.setCounter b).receives = s.receives ∧
    (s.setCounter b).onCourse = s.onCourse ∧ (s.setCounter b).isActive = s.isActive ∧
    (s.setCounter b).running = s.running ∧ (s.setCounter b).speaking = s.speaking ∧
    (s.setCounter b).sending = s.sending ∧ (s.setCounter b).now = s.now := by
  unfold State.setCounter
  try dsimp only
  repeat' split
  all_goals first | (simp; done) | (and_intros <;> first | rfl | (simp; done) | (simp; rfl))

/-- What `State.becomeActive` leaves as it was. -/
@[simp] theorem State.becomeActive_frame (s : State) :
    s.becomeActive.clock = s.clock ∧ s.becomeActive.table = s.table ∧
    s.becomeActive.assign = s.assign ∧ s.becomeActive.epoch = s.epoch ∧
    s.becomeActive.outbox.ring = s.outbox.ring ∧ s.becomeActive.outbox.nextSeq = s.outbox.nextSeq ∧
    s.becomeActive.outbox.lastSent = s.outbox.lastSent ∧
    s.becomeActive.outbox.firstBeaconSent = s.outbox.firstBeaconSent ∧
    s.becomeActive.outbox.control = s.outbox.control ∧ s.becomeActive.receiver = s.receiver ∧
    s.becomeActive.line.rest = s.line.rest ∧ s.becomeActive.line.restPeriods = s.line.restPeriods ∧
    s.becomeActive.line.failed = s.line.failed ∧
    s.becomeActive.line.idlePeriods = s.line.idlePeriods ∧ s.becomeActive.line.restDue = s.line.restDue ∧
    s.becomeActive.line.dominant = s.line.dominant ∧ s.becomeActive.line.reading = s.line.reading ∧
    s.becomeActive.line.rx = s.line.rx ∧ s.becomeActive.line.complete = s.line.complete ∧
    s.becomeActive.results = s.results ∧ s.becomeActive.port = s.port ∧
    s.becomeActive.panel = s.panel ∧ s.becomeActive.station.cause = s.station.cause ∧
    s.becomeActive.station.straps = s.station.straps ∧
    s.becomeActive.station.errors = s.station.errors ∧
    s.becomeActive.station.listenCount = s.station.listenCount ∧
    s.becomeActive.station.closedSpeaking = s.station.closedSpeaking ∧
    s.becomeActive.freeIndex = s.freeIndex ∧ s.becomeActive.pending = s.pending ∧
    s.becomeActive.number = s.number ∧ s.becomeActive.gates = s.gates ∧
    s.becomeActive.stationByte = s.stationByte ∧ s.becomeActive.isGateStation = s.isGateStation ∧
    s.becomeActive.isAssigner = s.isAssigner ∧ s.becomeActive.isFinish = s.isFinish ∧
    s.becomeActive.now = s.now := by
  unfold State.becomeActive
  first | (simp; done) | (and_intros <;> first | rfl | (simp; done) | (simp; rfl))

end Sys2Proof.Machine
end

