-- ==== Sys2Proof/Laws/Specs.lean ====
section
/-! SUPPORT. What each shared operation can do, said once: one equation or one case distinction for an
operation, which proofs cite instead of unfolding it. -/

namespace Sys2Proof.Machine

/-! ### Appending, tones, errors, the line -/

/-- Appending changes the Result Queue and the port's overtaken mark alone. -/
theorem State.append_eq (s : State) (c : ResultContents) : s.append c = s.appended c := by
  unfold State.appended State.append
  dsimp only
  split <;> rfl

/-- A STRAY result is an append (R158). -/
theorem State.stray_eq (s : State) (reason : StrayReason) (time : Nat) (manual : Bool) :
    s.stray reason time manual = s.appended (strayContents reason time manual) :=
  s.append_eq _

/-- A request changes the tone player alone. -/
theorem State.requestTone_eq (s : State) (p : Pattern) :
    s.requestTone p =
      { s with panel := { s.panel with tone := (s.requestTone p).panel.tone } } := by
  unfold State.requestTone State.playTone
  split <;> (try split) <;> rfl

/-- The ALARM is always taken (R184). -/
theorem State.requestTone_alarm (s : State) :
    s.requestTone .alarm =
      { s with panel := { s.panel with tone := some ⟨.alarm, 0, s.now + 500⟩ } } := by
  unfold State.requestTone State.playTone
  split <;> simp [Pattern.steps]

/-- The tone after a request depends on the tone before it and on the timers' clock alone. -/
theorem State.requestTone_tone (s t : State) (p : Pattern) (h : s.panel.tone = t.panel.tone)
    (hn : s.now = t.now) : (s.requestTone p).panel.tone = (t.requestTone p).panel.tone := by
  unfold State.requestTone State.playTone
  rw [h, hn]
  split <;> (try split) <;> simp_all

/-- A pending code is put into the set without effect. -/
theorem ErrorSet.put_has (e : ErrorSet) (c : ErrorCode) (h : e.has c = true) : e.put true c = e := by
  obtain ⟨_, _, _, _, _, _, _, _, _, _, _⟩ := e
  cases c <;> simp_all [ErrorSet.has, ErrorSet.put]

/-- Raising a code changes the pending set and the tone alone (R155). -/
theorem State.raise_eq (s : State) (c : ErrorCode) :
    s.raise c =
      { s with
        station := { s.station with errors := s.station.errors.put true c }
        panel := { s.panel with tone := s.alarmed c } } := by
  unfold State.raise State.alarmed
  split
  · rename_i h
    simp [h, ErrorSet.put_has]
  · rename_i h
    rw [State.requestTone_alarm]
    simp [State.now]

/-- The unit goes from IDLE to WAITING where a frame is ready (R131), and nothing else changes. -/
theorem State.settleLine_eq (s : State) :
    s.settleLine = { s with line := { s.line with tx := s.waitIf s.frameReady } } := by
  unfold State.settleLine State.waitIf
  split <;> rfl

/-- A settled unit stays as it is. -/
theorem State.settleLine_settled (s : State) (h : s.LineSettled) : s.settleLine = s := by
  unfold State.settleLine
  split
  · rename_i h'
    have := h h'.1
    simp_all
  · rfl

/-! ### The Outbox -/

/-- A ring that has a place takes the frame, a full one giving up its oldest SENT entry (R99, R100). -/
theorem State.place_room (s : State) (epoch : Word16) (p : Payload) (h : s.HasPlace) :
    s.place epoch p = some { s with outbox := s.addedFrame epoch p } := by
  unfold State.place ringRoom
  by_cases hl : s.outbox.ring.length < 32
  · simp [Config.ringCapacity, hl, State.addedFrame]
  · have hs : s.outbox.ring.any (fun e => e.sent) = true := by
      rcases h with h | ⟨e, he, hs⟩
      · exact absurd h hl
      · exact List.any_eq_true.2 ⟨e, he, hs⟩
    simp only [Config.ringCapacity, hl, if_false, hs, if_true, State.addedFrame]

/-- A ring full of unsent frames takes none (R100). -/
theorem State.place_full (s : State) (epoch : Word16) (p : Payload) (h : 32 ≤ s.outbox.ring.length)
    (hu : ∀ e ∈ s.outbox.ring, e.sent = false) : s.place epoch p = none := by
  have h1 : ¬ s.outbox.ring.length < 32 := by omega
  have h2 : s.outbox.ring.any (fun e => e.sent) = false := by
    rw [List.any_eq_false]
    intro e he
    simp [hu e he]
  unfold State.place ringRoom
  simp [Config.ringCapacity, h1, h2]

/-! ### The Run Table -/

/-- A record above every record of a list is inserted at its end. -/
theorem insertRecord_last (r : RunRecord) :
    ∀ l : List RunRecord, (∀ x ∈ l, x.run < r.run) → insertRecord r l = l ++ [r]
  | [], _ => rfl
  | x :: xs, h => by
    have h1 := h x (by simp)
    have h2 : ¬ r.run < x.run := by omega
    simp [insertRecord, h2, insertRecord_last r xs (fun y hy => h y (by simp [hy]))]

/-- The record inserted is one of the list. -/
theorem mem_insertRecord (r x : RunRecord) :
    ∀ l : List RunRecord, x ∈ insertRecord r l ↔ x = r ∨ x ∈ l
  | [] => by simp [insertRecord]
  | y :: ys => by
    unfold insertRecord
    split
    · simp
    · simp [mem_insertRecord r x ys]
      tauto

/-- The insertion adds one record. -/
theorem insertRecord_length (r : RunRecord) :
    ∀ l : List RunRecord, (insertRecord r l).length = l.length + 1
  | [] => rfl
  | y :: ys => by
    unfold insertRecord
    split
    · simp
    · simp [insertRecord_length r ys]

/-- Inserting a record whose run the list does not hold keeps the order of run numbers. -/
theorem insertRecord_sorted (r : RunRecord) :
    ∀ l : List RunRecord, (l.map (fun x => x.run)).Pairwise (· < ·) → (∀ x ∈ l, x.run ≠ r.run) →
      ((insertRecord r l).map (fun x => x.run)).Pairwise (· < ·)
  | [], _, _ => by simp [insertRecord]
  | y :: ys, hs, hn => by
    have hy := hn y (by simp)
    simp only [List.map_cons, List.pairwise_cons] at hs
    unfold insertRecord
    split
    · rename_i hlt
      simp only [List.map_cons, List.pairwise_cons]
      refine ⟨?_, hs.1, hs.2⟩
      intro a ha
      simp only [List.mem_cons] at ha
      rcases ha with rfl | ha
      · exact hlt
      · exact lt_trans hlt (hs.1 a ha)
    · rename_i hlt
      simp only [List.map_cons, List.pairwise_cons]
      refine ⟨?_, insertRecord_sorted r ys hs.2 (fun x hx => hn x (by simp [hx]))⟩
      intro a ha
      simp only [List.mem_map] at ha
      obtain ⟨x, hx, rfl⟩ := ha
      rcases (mem_insertRecord r x ys).1 hx with rfl | hx
      · omega
      · exact hs.1 _ (List.mem_map_of_mem hx)

/-- The inserted record is the one found for its run. -/
theorem find_insertRecord (r : RunRecord) :
    ∀ l : List RunRecord, (∀ x ∈ l, x.run ≠ r.run) →
      (insertRecord r l).find? (fun x => x.run == r.run) = some r
  | [], _ => by simp [insertRecord]
  | y :: ys, h => by
    have hy := h y (by simp)
    unfold insertRecord
    split
    · simp
    · simp [hy, find_insertRecord r ys (fun x hx => h x (by simp [hx]))]

/-- The record found for another run is the one found before. -/
theorem find_insertRecord_other (r : RunRecord) (n : Nat) (hn : r.run ≠ n) :
    ∀ l : List RunRecord,
      (insertRecord r l).find? (fun x => x.run == n) = l.find? (fun x => x.run == n)
  | [] => by simp [insertRecord, hn]
  | y :: ys => by
    unfold insertRecord
    split
    · simp [hn]
    · by_cases h : y.run = n
      · simp [h]
      · simp [h, find_insertRecord_other r n hn ys]

/-- Replacing keeps the run numbers. -/
theorem replaceRecord_runs (r : RunRecord) (l : List RunRecord) :
    (replaceRecord r l).map (fun x => x.run) = l.map (fun x => x.run) := by
  simp only [replaceRecord, List.map_map]
  apply List.map_congr_left
  intro x _
  simp only [Function.comp]
  split <;> simp_all

/-- Replacing keeps the number of records. -/
theorem replaceRecord_length (r : RunRecord) (l : List RunRecord) :
    (replaceRecord r l).length = l.length := by
  simp [replaceRecord]

/-- Replacing a run that the list does not hold changes nothing. -/
theorem replaceRecord_absent (r : RunRecord) (l : List RunRecord) (h : ∀ x ∈ l, x.run ≠ r.run) :
    replaceRecord r l = l := by
  conv_rhs => rw [← List.map_id l]
  apply List.map_congr_left
  intro x hx
  simp [h x hx]

/-- The record just inserted is the one replaced. -/
theorem replaceRecord_inserted (r r' : RunRecord) (hr : r'.run = r.run) :
    ∀ l : List RunRecord, (∀ x ∈ l, x.run ≠ r.run) →
      replaceRecord r' (insertRecord r l) = insertRecord r' l
  | [], _ => by simp [insertRecord, replaceRecord, hr]
  | y :: ys, h => by
    have hy := h y (by simp)
    have h' : ∀ x ∈ ys, x.run ≠ r.run := fun x hx => h x (by simp [hx])
    have ih := replaceRecord_inserted r r' hr ys h'
    have ha := replaceRecord_absent r' (y :: ys) (by rw [hr]; exact h)
    unfold insertRecord
    rw [hr]
    by_cases hlt : r.run < y.run
    · simp only [hlt, if_true]
      have : replaceRecord r' (r :: y :: ys) = r' :: replaceRecord r' (y :: ys) := by
        simp [replaceRecord, hr]
      rw [this, ha]
    · simp only [hlt, if_false]
      have : replaceRecord r' (y :: insertRecord r ys) = y :: replaceRecord r' (insertRecord r ys) := by
        simp [replaceRecord, hr, hy]
      rw [this, ih]

/-- A fact leaves the run number of its record. -/
@[simp] theorem RunRecord.take_run (r : RunRecord) (f : Fact) : (r.take f).run = r.run := by
  cases f with
  | start _ _ _ => rfl
  | cross _ _ _ _ _ _ _ => rfl
  | ruling _ v => cases v <;> rfl

/-- Filling the start time leaves everything else (R10, R11, R1). -/
@[simp] theorem RunRecord.fillStart_frame (r : RunRecord) (st : Option Nat) :
    (r.fillStart st).run = r.run ∧ (r.fillStart st).splits = r.splits ∧
    (r.fillStart st).voided = r.voided ∧ (r.fillStart st).dnfed = r.dnfed ∧
    (r.fillStart st).manualStart = r.manualStart ∧ (r.fillStart st).learned = r.learned ∧
    (r.fillStart st).corrected = r.corrected ∧ (r.fillStart st).reported = r.reported ∧
    (r.fillStart st).stepped = r.stepped ∧ (r.fillStart st).carriesStepped = r.carriesStepped :=
  ⟨rfl, rfl, rfl, rfl, rfl, rfl, rfl, rfl, rfl, rfl⟩

/-- A record that has its start time keeps it (R10). -/
theorem RunRecord.fillStart_started (r : RunRecord) (st : Option Nat) (h : r.start ≠ none) :
    r.fillStart st = r := by
  obtain ⟨_, start, _, _, _, _, _, _, _, _, _⟩ := r
  cases start with
  | none => exact absurd rfl h
  | some _ => simp [RunRecord.fillStart]

/-- A fact leaves the marks and the reported state that are not its own (R10 to R12). -/
@[simp] theorem RunRecord.take_frame (r : RunRecord) (f : Fact) :
    (r.take f).reported = r.reported ∧ (r.take f).corrected = r.corrected ∧
    (r.take f).learned = r.learned ∧ (r.take f).stepped = r.stepped ∧
    (r.take f).carriesStepped = r.carriesStepped ∧
    (r.take f).splits.length = r.splits.length := by
  cases f with
  | start _ _ _ => simp [RunRecord.take, RunRecord.takeStart]
  | cross _ g _ _ _ _ _ =>
    simp only [RunRecord.take, RunRecord.takeCross]
    split <;> simp
  | ruling _ v => cases v <;> simp [RunRecord.take, RunRecord.takeRuling]

/-- A step marks a record, which carries the mark to the Assignment Unit where its start time is known, and
changes nothing else of it (R13). -/
@[simp] theorem RunRecord.step_frame (r : RunRecord) :
    r.step.run = r.run ∧ r.step.start = r.start ∧ r.step.splits = r.splits ∧
    r.step.voided = r.voided ∧ r.step.dnfed = r.dnfed ∧ r.step.manualStart = r.manualStart ∧
    r.step.learned = r.learned ∧ r.step.corrected = r.corrected ∧ r.step.reported = r.reported ∧
    r.step.stepped = true ∧ r.step.carriesStepped = (r.carriesStepped || r.start.isSome) :=
  ⟨rfl, rfl, rfl, rfl, rfl, rfl, rfl, rfl, rfl, rfl, rfl⟩

/-- A record that has its start time keeps it through every fact (R10). -/
theorem RunRecord.take_started (r : RunRecord) (f : Fact) (h : r.start ≠ none) :
    (r.take f).start = r.start := by
  cases f with
  | start _ _ _ => simp [RunRecord.take, RunRecord.takeStart, r.fillStart_started _ h]
  | cross _ _ _ _ _ _ _ => simp [RunRecord.take, RunRecord.takeCross, r.fillStart_started _ h]
  | ruling _ v => cases v <;> simp [RunRecord.take, RunRecord.takeRuling]

/-- A START leaves the derived state as it is (R3). -/
@[simp] theorem RunRecord.takeStart_state (r : RunRecord) (t : Nat) (m : Bool) :
    (r.takeStart t m).state = r.state := rfl

/-- A new record holds no finish split. -/
@[simp] theorem newRecord_finish (gates run : Nat) (learned : Bool) :
    (newRecord gates run learned).finish = none := by
  simp only [newRecord, RunRecord.finish]
  cases h : gates - 1 with
  | zero => rfl
  | succ n => simp [List.getLast?_replicate]

/-- A new record is on course (R7). -/
@[simp] theorem newRecord_state (gates run : Nat) (learned : Bool) :
    (newRecord gates run learned).state = .onCourse := by
  simp only [RunRecord.state, newRecord_finish]
  rfl

/-- Storing a record whose derived state is on course, or is the one reported, appends nothing (R19). -/
theorem State.settle_quiet (s : State) (r : RunRecord)
    (h : r.state = .onCourse ∨ r.reported = some r.state) :
    s.settle r = s.withRecords (replaceRecord r s.table.records) := by
  unfold State.settle
  rw [if_pos h]

/-- The first settlement of a record appends its result (R19, R20). -/
theorem State.settle_first (s : State) (r : RunRecord) (h : r.state ≠ .onCourse)
    (hr : r.reported = none) :
    s.settle r =
      ((s.withRecords
        (replaceRecord { r with reported := some r.state } s.table.records)).append
          ((RunRecord.contents { r with reported := some r.state } r.state.kind .empty))).handFinished
        { r with reported := some r.state } := by
  unfold State.settle
  rw [if_neg (by simp [h, hr])]
  simp [hr]

/-- A settled record whose state changes appends a CORRECTION and is CORRECTED (R19). -/
theorem State.settle_again (s : State) (r : RunRecord) (old : RunState) (h : r.state ≠ .onCourse)
    (hr : r.reported = some old) (hd : old ≠ r.state) :
    s.settle r =
      ((s.withRecords
        (replaceRecord { r with reported := some r.state, corrected := true }
          s.table.records)).append
          (RunRecord.contents { r with reported := some r.state, corrected := true } .correction
            (.newState r.state))).handFinished
        { r with reported := some r.state, corrected := true } := by
  unfold State.settle
  rw [if_neg (by simp [h, hr, hd])]
  simp [hr]

/-- A fact that names a run in the table, at or below station 0's counter: the record takes it (R7). -/
theorem State.takeFact_known (s : State) (f : Fact) (r : RunRecord) (h : s.lookup f.run = some r)
    (hc : s.number = 0 → f.run < s.table.nextRun) :
    s.takeFact f = (s.settle (r.take f), noticeDue r (r.take f)) := by
  have h1 : s.raiseCounter f.run = s := by
    unfold State.raiseCounter
    split
    · rename_i h'
      have := hc h'.1
      omega
    · rfl
  have h2 : s.enrol f.run f.learns = (s, true) := by
    unfold State.enrol
    simp [h]
  unfold State.takeFact
  simp only [h1, h2, h, Option.isSome_some, Bool.not_true, Bool.false_or, if_true]

/-- A fact that names an absent run at or below the floor is discarded (R7). -/
theorem State.takeFact_floor (s : State) (f : Fact) (h : s.lookup f.run = none)
    (hf : f.run ≤ s.table.floor) : s.takeFact f = (s.raiseCounter f.run, false) := by
  have h0 : (s.raiseCounter f.run).table.records = s.table.records ∧
      (s.raiseCounter f.run).table.floor = s.table.floor := by
    unfold State.raiseCounter State.withNextRun
    split <;> exact ⟨rfl, rfl⟩
  have h1 : (s.raiseCounter f.run).lookup f.run = none := by
    unfold State.lookup at *
    rw [h0.1]
    exact h
  have h2 : (s.raiseCounter f.run).enrol f.run f.learns = (s.raiseCounter f.run, false) := by
    unfold State.enrol
    simp [h1, hf]
  unfold State.takeFact
  simp [h2]

/-- A fact that names an absent run above the floor, where the table has room: a record is made and takes
it, and the result due is appended (R7, R19). -/
theorem State.takeFact_new (s : State) (f : Fact) (h : s.lookup f.run = none)
    (hf : s.table.floor < f.run) (hl : s.table.records.length < 48) :
    s.takeFact f =
      (((s.raiseCounter f.run).create f.run f.learns).settle
        ((newRecord s.gates f.run f.learns).take f), true) := by
  have h0 : (s.raiseCounter f.run).table.records = s.table.records ∧
      (s.raiseCounter f.run).table.floor = s.table.floor ∧
      (s.raiseCounter f.run).gates = s.gates := by
    unfold State.raiseCounter State.withNextRun
    split <;> exact ⟨rfl, rfl, rfl⟩
  have h1 : (s.raiseCounter f.run).lookup f.run = none := by
    unfold State.lookup at *
    rw [h0.1]
    exact h
  have h2 : (s.raiseCounter f.run).enrol f.run f.learns =
      ((s.raiseCounter f.run).create f.run f.learns, true) := by
    have hf' : ¬ f.run ≤ s.table.floor := by omega
    unfold State.enrol
    simp [h1, hf', Config.tableCapacity, hl]
  have h3 : ((s.raiseCounter f.run).create f.run f.learns).lookup f.run =
      some (newRecord s.gates f.run f.learns) := by
    have hn : ∀ x ∈ s.table.records, x.run ≠ (newRecord s.gates f.run f.learns).run := by
      intro x hx
      unfold State.lookup at h
      rw [List.find?_eq_none] at h
      simpa [newRecord] using h x hx
    have := find_insertRecord (newRecord s.gates f.run f.learns) s.table.records hn
    unfold State.lookup State.create State.withRecords
    simp only [h0.1, h0.2.2]
    simpa [newRecord] using this
  unfold State.takeFact
  simp [h1, h2, h3]

/-! ### The Pending Crossing List -/

/-- An entry no earlier than those before it and earlier than those after it is inserted between. -/
theorem insertEntry_between (e : PendingEntry) (later : List PendingEntry)
    (hl : ∀ x ∈ later, e.time < x.time) :
    ∀ earlier : List PendingEntry, (∀ x ∈ earlier, x.time ≤ e.time) →
      insertEntry e (earlier ++ later) = earlier ++ e :: later
  | [], _ => by
    cases later with
    | nil => rfl
    | cons x xs => simp [insertEntry, hl x (by simp)]
  | y :: ys, h => by
    have hy := h y (by simp)
    have h1 : ¬ e.time < y.time := by omega
    simp [insertEntry, h1, insertEntry_between e later hl ys (fun x hx => h x (by simp [hx]))]

/-- A walk over entries none of which has a run leaves the state and the entries as they are. -/
theorem State.walkEntries_none (s : State) :
    ∀ l : List PendingEntry, (∀ e ∈ l, s.candidateRun e = none) → s.walkEntries l = (s, l)
  | [], _ => rfl
  | e :: es, h => by
    simp [State.walkEntries, h e (by simp),
      State.walkEntries_none s es (fun x hx => h x (by simp [hx]))]

/-- A walk over an empty list does nothing. -/
theorem State.walk_empty (s : State) (h : s.assign.entries = []) : s.walk = s := by
  have h1 : s.withEntries [] = s := by
    unfold State.withEntries
    rw [← h]
  unfold State.walk
  simp [h, State.walkEntries, h1]

/-- No STRAYs for no entries. -/
@[simp] theorem State.strays_nil (s : State) (r : StrayReason) : s.strays r [] = s := rfl

/-! ### The Peer Table -/

/-- The peer just written is the one read. -/
theorem State.peer_withPeer (s : State) (p : Nat) (x : Peer) (h : p < s.receiver.peers.length) :
    (s.withPeer p x).peer p = x := by
  simp [State.peer, State.withPeer, h]

/-- The second of two writes of one peer's entry stands. -/
theorem State.withPeer_withPeer (s : State) (p : Nat) (x y : Peer) :
    (s.withPeer p x).withPeer p y = s.withPeer p y := by
  simp [State.withPeer]

/-- No losses for no sequences. -/
@[simp] theorem State.loseAll_nil (s : State) (p : Nat) : s.loseAll p [] = s := rfl

/-- No retries for no entries. -/
@[simp] theorem State.retryAll_nil (s : State) : s.retryAll [] = s := rfl

/-! ### The timing line and the crystal's counts -/

/-- A line is busy while others hold it dominant, while the station drives it dominant, and while a byte is
being received whose start bit was found, and at no other time (R126, R127). -/
theorem LineUnit.busy_false (l : LineUnit) :
    l.busy = false ↔
      l.dominant = false ∧ l.drives = false ∧ ∀ r, l.reading = some r → r.periods < 16 := by
  unfold LineUnit.busy LineUnit.level LineUnit.inByte
  cases l.reading with
  | none => simp
  | some r =>
    simp only [Bool.or_eq_false_iff, and_assoc, Option.any_some,
      Option.some.injEq, forall_eq', decide_eq_false_iff_not, Nat.not_le]
    exact Iff.rfl

/-- The rest comes into force where it is due and no stop bit is on the line; nothing else changes (R134). -/
theorem LineUnit.settleRest_cases (l : LineUnit) :
    (l.restDue = true ∧ l.inStopBit = false ∧
        l.settleRest = { l with rest := true, restPeriods := 0, restDue := false }) ∨
      ((l.restDue = false ∨ l.inStopBit = true) ∧ l.settleRest = l) := by
  unfold LineUnit.settleRest
  cases l.restDue <;> cases l.inStopBit <;> simp

/-- A rest that comes into force leaves the rest of the unit as it was. -/
@[simp] theorem LineUnit.settleRest_frame (l : LineUnit) :
    l.settleRest.tx = l.tx ∧ l.settleRest.failed = l.failed ∧
    l.settleRest.idlePeriods = l.idlePeriods ∧ l.settleRest.dominant = l.dominant ∧
    l.settleRest.reading = l.reading ∧ l.settleRest.rx = l.rx ∧
    l.settleRest.complete = l.complete := by
  unfold LineUnit.settleRest
  split <;> exact ⟨rfl, rfl, rfl, rfl, rfl, rfl, rfl⟩

/-- A line made busy keeps its receiver, its rest and its failed attempts. -/
@[simp] theorem LineUnit.madeBusy_frame (l : LineUnit) :
    l.madeBusy.rest = l.rest ∧ l.madeBusy.restDue = l.restDue ∧ l.madeBusy.failed = l.failed ∧ l.madeBusy.dominant = l.dominant ∧
    l.madeBusy.reading = l.reading ∧ l.madeBusy.rx = l.rx ∧ l.madeBusy.complete = l.complete ∧
    l.madeBusy.idlePeriods = 0 :=
  ⟨rfl, rfl, rfl, rfl, rfl, rfl, rfl, rfl⟩

/-- Outside WAITING a busy line changes no transmit state (R133). -/
theorem LineUnit.madeBusy_tx (l : LineUnit) (h : ∀ gap slot, l.tx ≠ .waiting gap slot) :
    l.madeBusy.tx = l.tx := by
  unfold LineUnit.madeBusy TxState.giveUpCount
  cases hx : l.tx with
  | waiting gap slot => exact absurd hx (h gap slot)
  | off => rfl
  | idle => rfl
  | sending _ _ _ => rfl

/-- A bit read back reaches the receiver alone: the transmit state, the rest and the counts stay (R137). -/
@[simp] theorem LineUnit.readBack_frame (l : LineUnit) (d : Bool) :
    (l.readBack d).tx = l.tx ∧ (l.readBack d).rest = l.rest ∧ (l.readBack d).restDue = l.restDue ∧
    (l.readBack d).restPeriods = l.restPeriods ∧ (l.readBack d).failed = l.failed ∧
    (l.readBack d).idlePeriods = l.idlePeriods ∧ (l.readBack d).complete = l.complete := by
  unfold LineUnit.readBack
  split
  · split
    · exact ⟨rfl, rfl, rfl, rfl, rfl, rfl, rfl⟩
    · split <;> exact ⟨rfl, rfl, rfl, rfl, rfl, rfl, rfl⟩
  · exact ⟨rfl, rfl, rfl, rfl, rfl, rfl, rfl⟩

/-- A data bit read back is the last level of the byte being received, whatever was sent (R137). -/
theorem Reading.readBit_level (r : Reading) (d : Bool) (h : 32 ≤ r.periods) :
    ∃ n, r.readBit d = some ⟨n, r.levels.take (r.periods / 32) ++ [d]⟩ ∧ r.periods ≤ n := by
  have hb : ¬ (r.periods / Config.periodsPerBit = 0 ∧ d = false) := by
    intro hd
    have h0 := hd.1
    unfold Config.periodsPerBit at h0
    omega
  exact ⟨_, if_neg hb, Nat.le_max_left _ _⟩

/-- One period of a byte being received gives no command, or, at the middle of the stop bit, the byte that
its levels spell or a framing error (R127). -/
theorem Reading.count_commands (r : Reading) (level : Bool) :
    (r.count level).2 = [] ∨
      r.periods + 1 = 304 ∧
        (r.count level).2 =
          [.byteTaken (if level then .framingError else .byte (levelsByte r.levels))] := by
  unfold Reading.count
  dsimp only
  split
  · rename_i h
    exact .inr ⟨h, rfl⟩
  · split
    · exact .inl rfl
    · split
      · split <;> exact .inl rfl
      · exact .inl rfl

/-- The line's counts change the line alone. -/
theorem State.countLine_frame (s : State) :
    s.countIdle.1 = s.withLine s.countIdle.1.line ∧
    s.countReading.1 = s.withLine s.countReading.1.line ∧
    s.countSending.1 = s.withLine s.countSending.1.line ∧ s.endLevel = s.withLine s.endLevel.line := by
  refine ⟨?_, ?_, ?_, rfl⟩
  · unfold State.countIdle
    split <;> rfl
  · unfold State.countReading
    split <;> rfl
  · unfold State.countSending
    split <;> rfl

/-- TONE's divider changes the panel alone, and the readout port's clock the port alone. -/
theorem State.countPort_frame (s : State) :
    s.countTone.1 = s.withPanel s.countTone.1.panel ∧ s.countPort.1 = s.withPort s.countPort.1.port := by
  refine ⟨rfl, ?_⟩
  unfold State.countPort State.clockRise State.clockFall
  dsimp only
  repeat' split
  all_goals rfl

/-- An order picks every happening once: it is a permutation of the list. -/
theorem pickOrder_perm {α : Type} (fuel index : Nat) (l : List α) (h : l.length ≤ fuel) :
    (pickOrder fuel index l).Perm l := by
  induction fuel generalizing index l with
  | zero => exact List.Perm.refl _
  | succ n ih =>
    match l with
    | [] => exact List.Perm.refl _
    | [a] => exact List.Perm.refl _
    | a :: b :: rest =>
      have hk : Config.freeOrder index % (a :: b :: rest).length < (a :: b :: rest).length :=
        Nat.mod_lt _ (Nat.succ_pos _)
      have hl : ((a :: b :: rest).eraseIdx (Config.freeOrder index % (a :: b :: rest).length)).length ≤ n := by
        rw [List.length_eraseIdx_of_lt hk]
        simp only [List.length_cons] at h ⊢
        omega
      simp only [pickOrder, List.take_one_drop_eq_of_lt_length hk]
      exact ((ih _ _ hl).cons _).trans (List.getElem_cons_eraseIdx_perm hk)
/-- The commands that fall due with one crystal period wait, each once (R27, R42; assumption log 5). -/
theorem State.crystalPeriod_pending (s : State) :
    s.crystalPeriod.pending.Perm
      (s.counts
        [State.countPhase, State.countListening, State.countGate, State.countKeys, State.countLine,
          State.countTone, State.countPort]).2 :=
  pickOrder_perm _ _ _ (Nat.le_refl _)

end Sys2Proof.Machine
end

