-- ==== Sys2Proof/Tests/Slice0.lean ====
section
/-! SUPPORT. Tests of this model: the refusals of WellFormed, the data sheet's worked bytes and examples,
and for every statement of Sys2Proof/Certificates/Slice0/Obligations.lean a state and operands that meet
the hypotheses of each of its clauses, at the boundaries of their ranges. -/

set_option synthInstance.maxSize 8192

namespace Sys2Proof.Tests

open Sys2Proof.Machine

/-! ### WellFormed: one ill-formed command for each check -/

/-- A header of epoch 1 from a station. -/
def header (station seq : Byte) : Header := ⟨station, 1#16, seq⟩

/-- A beacon's payload at N = 4. -/
def beacon (time : Word32) (oldest : Option Word16) : BeaconPayload :=
  ⟨time, 8#8, 4#8, 0#8, 3#16, oldest⟩

theorem test_refuses_station_16 :
    (Instr.receiveStart (header 16#8 0#8) ⟨1#16, 0#32, 0#8⟩).wellFormed = false := by decide

theorem test_refuses_sequence_in_beacon :
    (Instr.receiveBeacon (header 3#8 1#8) (beacon 0#32 none)).wellFormed = false := by decide

theorem test_refuses_long_beacon_of_station_3 :
    (Instr.receiveBeacon (header 3#8 0#8) (beacon 0#32 (some 0#16))).wellFormed = false := by decide

theorem test_refuses_short_beacon_of_station_0 :
    (Instr.receiveBeacon (header 0#8 0#8) (beacon 0#32 none)).wellFormed = false := by decide

theorem test_refuses_session_from_0 :
    (Instr.receiveSession (header 3#8 5#8) ⟨0#16⟩).wellFormed = false := by decide

theorem test_refuses_session_from_65535 :
    (Instr.receiveSession ⟨3#8, 0#16, 5#8⟩ ⟨65535#16⟩).wellFormed = false := by decide

theorem test_refuses_session_two_up :
    (Instr.receiveSession ⟨3#8, 9#16, 5#8⟩ ⟨7#16⟩).wellFormed = false := by decide

theorem test_refuses_repeat_of_16 :
    (Instr.receiveRepeat (header 3#8 0#8) ⟨16#8, 5#8⟩).wellFormed = false := by decide

theorem test_refuses_repeat_of_itself :
    (Instr.receiveRepeat (header 3#8 0#8) ⟨3#8, 5#8⟩).wellFormed = false := by decide

theorem test_refuses_gone_to_16 :
    (Instr.receiveGone (header 3#8 0#8) ⟨16#8, 5#8, 6#8⟩).wellFormed = false := by decide

theorem test_refuses_gone_to_itself :
    (Instr.receiveGone (header 3#8 0#8) ⟨3#8, 5#8, 6#8⟩).wellFormed = false := by decide

theorem test_refuses_next_as_unknown : (Instr.unknownCommand 0x4E#8).wellFormed = false := by decide

theorem test_takes_session_to_65535 :
    (Instr.receiveSession ⟨3#8, 65535#16, 5#8⟩ ⟨65534#16⟩).wellFormed = true := by decide

/-! ### Bytes the data sheet gives -/

/-- R188: the check of the bytes 31h to 39h is 29B1h. -/
theorem test_check_of_digits :
    crc [0x31#8, 0x32#8, 0x33#8, 0x34#8, 0x35#8, 0x36#8, 0x37#8, 0x38#8, 0x39#8] = 0x29B1#16 := by
  decide +kernel

/-- The payload bytes of a START (R187), written out from its table. -/
theorem test_start_payload :
    Payload.bytes (.start ⟨7#16, 0x01020304#32, 1#8⟩) =
      [0x00#8, 0x07#8, 0x01#8, 0x02#8, 0x03#8, 0x04#8, 0x01#8] := by decide

/-- The record of section 11.5, as it leaves the port. -/
theorem test_record_of_example :
    ResultRecord.bytes
        ⟨.correction, .newState .finished, 3, some 62480, 672503,
          ⟨false, false, false, true, false, true, false⟩, 2, 0, 37#8⟩ =
      [0x04#8, 0x01#8, 0x00#8, 0x03#8, 0x00#8, 0x00#8, 0xF4#8, 0x10#8, 0x00#8, 0x0A#8, 0x42#8,
        0xF7#8, 0x28#8, 0x02#8, 0x00#8, 0x25#8] := by decide

/-- The beacon of ACTIVE that has sent nothing bears flags FRESH and NONE SENT, and 255 (R187). -/
theorem test_beacon_flags :
    State.beaconFlags
        { State.reset with
          outbox := { Outbox.reset with fresh := true }
          station := { StationControl.reset with state := .active } } = 0x0A#8 := by decide

/-- Section 12.4: an elapsed time of 60,470 shows as 1.00.47. -/
theorem test_display_of_60470 :
    (DisplayContent.result (some 60470)).digits =
      ([.blank, .figure 1, .figure 0, .figure 0, .figure 4, .figure 7], true) := by decide

/-- Section 12.3: a matched run 2 shows as "r    2". -/
theorem test_display_of_run_2 :
    (DisplayContent.runNumber 2).digits =
      ([.letterR, .blank, .blank, .blank, .blank, .figure 2], false) := by decide

/-- Section 12.4, run 3 on course at gate 2: the RULING before the CROSS makes DNF, and the CROSS then
FINISHED, with the elapsed time 60,470. -/
theorem test_ruling_then_finish :
    let r : RunRecord :=
      { newRecord 4 3 false with
        start := some 108000
        splits := [some ⟨128060, false, false, false⟩, some ⟨148300, false, false, false⟩, none] }
    let d := r.take (.ruling 3 .dnf)
    let f := d.take (.cross 3 3 168470 (some 108000) false false false)
    d.state = .dnf ∧ d.gatesPassed = 2 ∧ f.state = .finished ∧ f.elapsed = some 60470 ∧
      f.gatesPassed = 3 := by decide

/-! ### States to test on -/

/-- A station n of a course with GCT code g, in a mode, at course time 5000 in epoch 1, waiting for the
line. -/
def station (n g : Nat) (mode : StationState) : State :=
  { State.reset with
    clock := ⟨5000, 0, 0⟩
    epoch := 1#16
    line := { LineUnit.reset with tx := .waiting 12 none, rx := .waiting }
    station :=
      { StationControl.reset with
        state := mode
        straps := some ⟨BitVec.ofNat 4 n, BitVec.ofNat 3 g, 0#2, 0#2, true⟩ } }

/-- A station with a crossing at 4990 about to be accepted. -/
def crossing (s : State) : State :=
  { s with gate := { s.gate with capture := .confirming, candidate := some 4990 } }

/-- A station with a TRIP press at 4990 about to be accepted. -/
def tripping (s : State) : State :=
  { s with panel := { s.panel with trip := ⟨false, 19, some 4990, true⟩ } }

/-- A record on course from a start time. -/
def onCourseFrom (gates run start : Nat) : RunRecord :=
  { newRecord gates run false with start := some start }

/-- A station with other records and its counter above them. -/
def withRuns (s : State) (l : List RunRecord) (next : Nat) : State :=
  { s with table := { s.table with records := l, nextRun := next } }

/-- A full table on course: runs 1 to 48. -/
def fullTable (gates : Nat) : List RunRecord :=
  (List.range 48).map (fun i => onCourseFrom gates (i + 1) 1000)

/-- A ring full of unsent frames. -/
def fullRing : List RingEntry :=
  (List.range 32).map (fun i => ⟨⟨⟨1#8, 1#16, BitVec.ofNat 8 i⟩, .ruling ⟨1#16, 1#8⟩⟩, false⟩)

/-- A full ring whose oldest frame is SENT. -/
def sentRing : List RingEntry :=
  ⟨⟨⟨1#8, 1#16, 0#8⟩, .ruling ⟨1#16, 1#8⟩⟩, true⟩ :: fullRing.drop 1

/-- A station with another ring. -/
def withRing (s : State) (l : List RingEntry) : State :=
  { s with outbox := { s.outbox with ring := l } }

/-- A station whose peer has an entry. -/
def withPeerEntry (s : State) (p : Nat) (x : Peer) : State :=
  { s with receiver := { s.receiver with peers := s.receiver.peers.set p x } }

/-- A PRESENT peer that expects a sequence and misses some. -/
def heardPeer (expected : Option Byte) (missing : List MissingEntry) : Peer :=
  ⟨.present, 4000, some 5000, expected, missing⟩

/-- The next state of a command. -/
def after (c : Instr) (s : State) : State :=
  match exec c s with
  | .next t => t
  | .fault _ => s
  | .refused _ => s

/-! ### The hypotheses of the statements can be met -/

theorem test_meets_AnIdleStepIsOneCrystalPeriod :
    (State.reset.pending = [] ∧ State.reset.running = false) ∧
    (let s := station 2 2 .listening
     s.pending = [] ∧ s.running = true ∧ s.dueCommands = [] ∧ s.clock.phase < 4095) ∧
    (let s := { station 2 2 .listening with clock := ⟨5000, 4095, 0⟩ }
     s.pending = [] ∧ s.running = true ∧ s.dueCommands = [] ∧ s.clock.phase = 4095) ∧
    (let s := { station 2 2 .active with panel := { Panel.reset with runHold := some ⟨5000, 7⟩ } }
     s.pending = [] ∧ s.running = true ∧ s.dueCommands ≠ []) := by
  decide

/-- What is due: the slot of station 1 at its 128th period and not one before, a timer at its end, a frame once
its stop bit is over, and of two retries the lowest peer's. -/
theorem test_meets_AnIdleStepIsOneCrystalPeriod_due :
    let s := station 1 2 .active
    let slot (n : Nat) : State := { s with line := { s.line with tx := .waiting 12 (some n) } }
    let frame (n : Nat) : State :=
      { s with line := { s.line with complete := some [0xA6#8], reading := some ⟨n, []⟩ } }
    let peers (p q : Nat) : State :=
      withPeerEntry (withPeerEntry s p { heardPeer none [⟨7#8, 1, 5000⟩] with silenceEnd := none }) q
        { heardPeer none [⟨8#8, 1, 5001⟩, ⟨9#8, 1, 5000⟩, ⟨5#8, 1, 5000⟩] with silenceEnd := none }
    s.receiver.peers.length = 16 ∧ (slot 127).dueCommands = [] ∧
      (slot 128).dueCommands = [.transmitStart] ∧ (frame 304).dueCommands = [] ∧
      { s with line := { s.line with complete := some [0xA6#8] } }.dueCommands = [.badFrameDropped] ∧
      (peers 3 5).dueCommands = [.retryDeadline 3 7#8] ∧
      (peers 5 3).dueCommands = [.retryDeadline 3 9#8] := by decide

theorem test_meets_ResetIsAssertedAndReleased :
    (station 0 0 .active).station.state ≠ .reset ∧ State.reset.station.state = .reset ∧
    (⟨0#4, 6#3, 0#2, 0#2, true⟩ : Straps).gct ≠ 7#3 ∧
    ((⟨15#4, 7#3, 3#2, 3#2, false⟩ : Straps).gct = 7#3 ∧
      State.reset.station.errors.e03 = false ∧ State.reset.panel.tone = none) := by decide

theorem test_meets_ListenEndEntersActive :
    let off (time : Nat) : State :=
      { station 1 0 .listening with clock := ⟨time, 0, 0⟩, line := LineUnit.reset }
    ((off 86399999).station.state = .listening ∧ (off 86399999).SpeakingSound ∧
      (off 86399999).clock.courseTime ≠ Config.timeLimit) ∧
    ((off 86400000).station.state = .listening ∧ (off 86400000).SpeakingSound ∧
      (off 86400000).clock.courseTime = Config.timeLimit ∧ (off 86400000).assign.entries = []) := by
  unfold State.SpeakingSound
  decide

theorem test_meets_TickRaisesCourseTimeUntilTheLimit :
    (let s := { station 1 0 .active with clock := ⟨86399998, 4095, 0⟩ }
     s.running = true ∧ s.clock.courseTime + 1 < Config.timeLimit) ∧
    (let s := { station 1 0 .closed with clock := ⟨86400000, 4095, 0⟩ }
     s.running = true ∧ s.clock.courseTime = Config.timeLimit) ∧
    (let s := { station 1 0 .listening with clock := ⟨86399999, 4095, 0⟩ }
     s.running = true ∧ s.clock.courseTime + 1 = Config.timeLimit ∧
       s.station.state = .listening) := by decide

theorem test_meets_TickAtTheLimitCloses :
    let s := { station 1 0 .active with clock := ⟨86399999, 4095, 0⟩ }
    s.clock.courseTime + 1 = Config.timeLimit ∧ s.station.state = .active ∧
      s.assign.entries = [] ∧ ∀ p ∈ s.receiver.peers, p.missing = [] := by decide

/-- Every timer of `TimersEndWhereTheirEndsAreReached` at its end, and one ms short of it. -/
theorem test_meets_TimersEndWhereTheirEndsAreReached :
    let s := station 3 2 .active
    let o := { s with outbox := { s.outbox with beaconTimer := some 5000, freshEnd := some 5000 } }
    let l := { s with outbox := { s.outbox with beaconTimer := some 5001, freshEnd := some 5001 } }
    let q :=
      { s with
        panel :=
          { s.panel with
            resultHold := some ⟨5001, none⟩, runHold := some ⟨5001, 7⟩
            tone := some ⟨.double, 1, 5001⟩ } }
    let p :=
      { s with
        panel :=
          { s.panel with
            resultHold := some ⟨5000, none⟩, runHold := some ⟨5000, 7⟩
            tone := some ⟨.double, 1, 5000⟩ } }
    let x := withPeerEntry s 4 (heardPeer none [])
    let y := withPeerEntry s 4 { heardPeer none [] with silenceEnd := some 5001 }
    let e : PendingEntry := ⟨3000, false, 5000, false⟩
    let f : PendingEntry := ⟨3001, false, 5001, false⟩
    (o.outbox.beaconTimer = some 5000 ∧ 5000 ≤ o.clock.courseTime + o.clock.stopTicks) ∧
    (o.outbox.freshEnd = some 5000 ∧ 5000 ≤ o.clock.courseTime + o.clock.stopTicks) ∧
    (l.outbox.freshEnd = some 5001 ∧ l.outbox.beaconTimer = some 5001 ∧
      l.clock.courseTime + l.clock.stopTicks < 5001) ∧
    (q.panel.resultHold = some ⟨5001, none⟩ ∧ q.panel.runHold = some ⟨5001, 7⟩ ∧
      q.panel.tone = some ⟨.double, 1, 5001⟩ ∧ q.clock.courseTime + q.clock.stopTicks < 5001 ∧
      s.line.tx ≠ .idle) ∧
    (p.panel.resultHold = some ⟨5000, none⟩ ∧ p.panel.runHold = some ⟨5000, 7⟩ ∧
      p.panel.tone = some ⟨.double, 1, 5000⟩ ∧ 5000 ≤ p.clock.courseTime + p.clock.stopTicks) ∧
    ((x.peer 4).silenceEnd = some 5000 ∧ (x.peer 4).presence = .present ∧ 5000 ≤ x.now) ∧
    ((y.peer 4).silenceEnd = some 5001 ∧ y.now < 5001) ∧
    ({ s with assign := { s.assign with entries := [e] } }.assign.entries = [e] ∧
      e.deadline ≤ s.clock.courseTime + s.clock.stopTicks) ∧
    s.clock.courseTime + s.clock.stopTicks < f.deadline := by decide

theorem test_meets_GateSamplesMoveTheCaptureState :
    let s := station 3 2 .active
    let h := { s with gate := { s.gate with capture := .holdoff } }
    let w := { s with gate := { s.gate with capture := .awaitClear, blocked := 99999 } }
    let b := { s with gate := { s.gate with capture := .awaitClear, blocked := 100000 } }
    (s.gateReleased = true ∧ s.gate.capture = .armed ∧ s.gate.firstSample = true) ∧
    ((crossing s).gateReleased = true ∧ (crossing s).gate.capture = .confirming) ∧
    (h.gateReleased = true ∧ h.gate.capture = .holdoff) ∧
    (w.gateReleased = true ∧ w.gate.capture = .awaitClear ∧ w.gate.blocked < 100000 ∧
      w.station.errors.e11 = false) ∧
    (b.gateReleased = true ∧ b.gate.capture = .awaitClear ∧ b.gate.blocked = 100000) := by decide

/-- A start with room at the last run number, by a TRIP, and one in a full table, by the sensor. -/
theorem test_meets_AStartIssuesARun :
    (let s := tripping (withRuns (station 0 2 .active) [onCourseFrom 4 998 1000] 999)
     s.CrossingTaken .tripPress 4990 true s.tripAccepted ∧ s.number = 0 ∧ s.isActive = true ∧
       s.CounterSound ∧ s.table.nextRun ≤ 999 ∧ s.HasPlace ∧ s.table.records.length < 48) ∧
    (let old := { newRecord 4 3 false with voided := true, reported := some .void }
     let s :=
       withRing (crossing (withRuns (station 0 2 .active) ((fullTable 4).set 2 old) 49)) sentRing
     s.CrossingTaken .crossingAccepted 4990 false { s with gate := s.acceptedGate } ∧
       s.CounterSound ∧ s.HasPlace ∧ s.outbox.ring.length = 32 ∧ 48 ≤ s.table.records.length ∧
       s.table.records.find? (fun r => r.settled) = some old) := by
  unfold State.CrossingTaken State.CounterSound State.HasPlace
  decide

theorem test_meets_ARefusedStartIsAStray :
    (let s := crossing (withRuns (station 0 2 .active) [] 1000)
     s.CrossingTaken .crossingAccepted 4990 false { s with gate := s.acceptedGate } ∧
       s.number = 0 ∧ s.isActive = true ∧ s.LineSettled ∧ 999 < s.table.nextRun) ∧
    (let s := tripping (withRuns (station 0 2 .active) (fullTable 4) 999)
     s.CrossingTaken .tripPress 4990 true s.tripAccepted ∧ s.LineSettled ∧
       s.table.nextRun ≤ 999 ∧ 48 ≤ s.table.records.length ∧
       ∀ r ∈ s.table.records, r.state = .onCourse) ∧
    (let s0 := crossing (station 0 2 .active)
     let s := { s0 with outbox := { s0.outbox with ring := fullRing } }
     s.CrossingTaken .crossingAccepted 4990 false { s with gate := s.acceptedGate } ∧
       s.LineSettled ∧ s.table.nextRun ≤ 999 ∧ s.table.records.length < 48 ∧
       32 ≤ s.outbox.ring.length ∧ ∀ e ∈ s.outbox.ring, e.sent = false) ∧
    (let settled := { newRecord 4 1 false with voided := true, reported := some .void }
     let s0 := crossing (withRuns (station 0 2 .active) (settled :: (fullTable 4).drop 1) 999)
     let s := { s0 with outbox := { s0.outbox with ring := fullRing } }
     s.CrossingTaken .crossingAccepted 4990 false { s with gate := s.acceptedGate } ∧
       s.LineSettled ∧ s.table.nextRun ≤ 999 ∧ s.table.records.length = 48 ∧
       (∃ r ∈ s.table.records, r.state ≠ .onCourse) ∧ 32 ≤ s.outbox.ring.length) := by
  unfold State.CrossingTaken State.LineSettled
  decide

theorem test_meets_CrossingsOutsideActiveAreStrays :
    let m := crossing (station 0 2 .mute)
    let c := crossing (station 3 2 .closed)
    (m.gateReleased = true ∧ m.gate.capture = .confirming ∧ m.gate.candidate = some 4990 ∧
      m.LineSettled ∧ m.station.state = .mute) ∧
    (c.gateReleased = true ∧ c.gate.capture = .confirming ∧ c.gate.candidate = some 4990 ∧
      c.LineSettled ∧ c.station.state = .closed) := by
  unfold State.LineSettled
  decide

/-- A HELD crossing; one that joins between an equal and a later entry; and one that displaces the oldest
of eight. -/
theorem test_meets_ACrossingWithNoRunWaits :
    let e (t : Nat) : PendingEntry := ⟨t, false, t + 2000, false⟩
    let s := crossing (station 2 2 .active)
    let listed (l : List PendingEntry) : State := { s with assign := { s.assign with entries := l } }
    let h := { s with assign := { s.assign with held := true, boundary := 4 } }
    let w := listed [e 4990, e 4991]
    let d := listed (e 4980 :: ([e 4981, e 4982, e 4990] ++ [e 4991, e 4992, e 4993, e 4994]))
    (h.CrossingTaken .crossingAccepted 4990 false { h with gate := h.acceptedGate } ∧
      h.isAssigner = true ∧ h.isActive = true ∧ h.LineSettled ∧ h.assign.held = true) ∧
    (w.CrossingTaken .crossingAccepted 4990 false { w with gate := w.acceptedGate } ∧
      w.assign.held = false ∧ w.AssignSound ∧ w.now < 4990 + 2000 ∧
      (∀ x ∈ [e 4990], x.time ≤ 4990) ∧ (∀ x ∈ [e 4991], 4990 < x.time) ∧
      (∀ r ∈ w.table.records, ∀ x ∈ ⟨4990, false, 6990, true⟩ :: ([e 4990] ++ [e 4991]),
        ¬ (r.eligible w.number = true ∧ r.precedes x.time = true)) ∧
      w.assign.entries = [e 4990] ++ [e 4991] ∧ w.assign.entries.length < 8) ∧
    (d.CrossingTaken .crossingAccepted 4990 false { d with gate := d.acceptedGate } ∧
      d.assign.held = false ∧ d.AssignSound ∧ d.assign.entries.length = 8) ∧
    (let s := { s with gate := { s.gate with candidate := some 3000 } }
     let x := { s with assign := { s.assign with entries := [e 3000, e 3001] } }
     x.CrossingTaken .crossingAccepted 3000 false { x with gate := x.acceptedGate } ∧ x.AssignSound ∧
       3000 + 2000 ≤ x.now ∧ (∀ y ∈ [e 3000], y.time ≤ 3000) ∧ (∀ y ∈ [e 3001], 3000 < y.time) ∧
       x.assign.entries = [e 3000] ++ [e 3001]) := by
  unfold State.CrossingTaken State.LineSettled State.AssignSound
  decide

/-- A match at an intermediate gate, by TRIP, one at the finish, by the sensor, with a SENT frame to give
up, and one that the Outbox refuses. -/
theorem test_meets_ACrossingIsMatchedToItsRun :
    let r := onCourseFrom 4 7 4989
    let i := tripping (withRuns (station 1 2 .active) [onCourseFrom 4 6 4990, r] 1)
    let f :=
      withRing (crossing (withRuns (station 3 2 .active) [onCourseFrom 4 6 4990, r] 1)) sentRing
    let u := withRing i fullRing
    (u.CrossingTaken .tripPress 4990 true u.tripAccepted ∧ u.isAssigner = true ∧
      u.isActive = true ∧ u.assign.held = false ∧ u.assign.entries = [] ∧ u.TableSound ∧
      u.table.records.find? (fun r => r.eligible u.number && r.precedes 4990) = some r ∧
      32 ≤ u.outbox.ring.length ∧ (∀ e ∈ u.outbox.ring, e.sent = false) ∧ u.line.tx ≠ .idle) ∧
    (i.CrossingTaken .tripPress 4990 true i.tripAccepted ∧ i.isAssigner = true ∧
      i.isActive = true ∧ i.assign.held = false ∧ i.assign.entries = [] ∧ i.TableSound ∧
      i.HasPlace ∧
      i.table.records.find? (fun r => r.eligible i.number && r.precedes 4990) = some r ∧
      r.start = some 4989 ∧ i.number + 1 ≠ i.gates) ∧
    (f.CrossingTaken .crossingAccepted 4990 false { f with gate := f.acceptedGate } ∧
      f.isAssigner = true ∧ f.TableSound ∧ f.HasPlace ∧
      f.table.records.find? (fun r => r.eligible f.number && r.precedes 4990) = some r ∧
      f.number + 1 = f.gates) := by
  unfold State.CrossingTaken State.TableSound RunRecord.Sound State.HasPlace
  decide

theorem test_meets_KeysAreFilteredAndTripRefused :
    let s := station 3 2 .active
    let ack (f : KeyFilter) : State := { s with panel := { s.panel with ack := f } }
    let p := { s with panel := { s.panel with trip := ⟨true, 19, some 4990, false⟩ } }
    (State.reset.running = false) ∧
    (s.running = true ∧ false = (s.panel.filter .ack).pressed) ∧
    (true ≠ (s.panel.filter .ack).pressed ∧ (s.panel.filter .ack).change = 0) ∧
    (let t := ack ⟨false, 18, some 4990, true⟩
     t.running = true ∧ true ≠ (t.panel.filter .ack).pressed ∧ 0 < (t.panel.filter .ack).change ∧
       (t.panel.filter .ack).change < 19) ∧
    (p.running = true ∧ p.panel.trip.pressed = true ∧ p.panel.trip.change ≠ 0) ∧
    (let t := ack ⟨true, 19, some 4990, false⟩
     t.panel.ack.pressed = true ∧ t.panel.ack.change ≠ 0) ∧
    (let t := tripping (station 4 2 .active)
     t.running = true ∧ t.panel.trip.pressed = false ∧ t.panel.trip.change ≠ 0 ∧
       t.isGateStation = false) ∧
    (tripping (station 0 2 .mute)).isActive = false := by decide

/-- E04 and E09 as the lowest code, a code below and one above them, and none. -/
theorem test_meets_AckRemovesTheLowestCode :
    let acking (e : ErrorSet) : State :=
      { station 3 2 .active with
        panel := { Panel.reset with ack := ⟨false, 19, some 4990, true⟩ }
        station := { (station 3 2 .active).station with errors := e } }
    let lowest (e : ErrorSet) (c : ErrorCode) : Prop :=
      (acking e).running = true ∧ (acking e).panel.ack.pressed = false ∧
        (acking e).panel.ack.change ≠ 0 ∧ (acking e).station.errors.has c = true ∧
        ∀ d ∈ ErrorCode.all, (acking e).station.errors.has d = true → c.number ≤ d.number
    (lowest { ErrorSet.none with e04 := true, e05 := true } .e04 ∧ 4 ≤ ErrorCode.number .e04) ∧
    (lowest { ErrorSet.none with e09 := true } .e09 ∧ ErrorCode.number .e09 ≤ 9) ∧
    (lowest { ErrorSet.none with e02 := true, e05 := true } .e02 ∧ ErrorCode.number .e02 < 4) ∧
    (lowest { ErrorSet.none with e11 := true } .e11 ∧ 9 < ErrorCode.number .e11) ∧
    ∀ d ∈ ErrorCode.all, (acking ErrorSet.none).station.errors.has d = false := by decide

/-- A ruling key about to be pressed, alone and beside the other, and one that has been held 999. -/
theorem test_meets_RulingKeysArePressedAndHeld :
    let keys (mode : StationState) (v d : KeyFilter) : State :=
      { station 3 2 mode with panel := { Panel.reset with void := v, dnf := d } }
    let rising : KeyFilter := ⟨false, 19, some 4990, true⟩
    let down : KeyFilter := ⟨true, 0, some 4000, true⟩
    let alone := keys .active rising KeyFilter.reset
    let both := keys .active rising down
    let long :=
      { both with panel := { both.panel with dnfHold := ⟨999, false⟩ } }
    (alone.running = true ∧ (alone.panel.filter .void).pressed = false ∧
      (alone.panel.filter .void).change ≠ 0 ∧ alone.held .dnf = false ∧ alone.isActive = true) ∧
    ((keys .mute rising KeyFilter.reset).held .dnf = false ∧
      (keys .mute rising KeyFilter.reset).isActive = false) ∧
    ((both.panel.filter .void).pressed = false ∧ (both.panel.filter .void).change ≠ 0 ∧
      both.held .dnf = true ∧ both.isActive = true) ∧
    ((keys .mute rising down).held .dnf = true ∧ (keys .mute rising down).isActive = false) ∧
    (long.running = true ∧ (long.panel.filter .dnf).pressed = true ∧
      (long.panel.hold .dnf).count < 1000) := by decide

theorem test_meets_RulingReleasesThatMakeNoRuling :
    let releasing (s : State) (spoiled : Bool) : State :=
      { s with
        panel :=
          { Panel.reset with void := ⟨true, 19, some 4990, false⟩, voidHold := ⟨999, spoiled⟩ } }
    let ready (s : State) : Prop :=
      s.running = true ∧ s.LineSettled ∧ (s.panel.filter .void).pressed = true ∧
        (s.panel.filter .void).change ≠ 0
    let s := station 3 2 .active
    let full := releasing (withRuns { s with outbox := { s.outbox with ring := fullRing } }
      [onCourseFrom 4 7 1000] 1) false
    (ready (releasing s true) ∧ ((releasing s true).panel.hold .void).spoiled = true) ∧
    (ready (releasing s false) ∧ ((releasing s false).panel.hold .void).spoiled = false ∧
      ∀ r ∈ (releasing s false).table.records, r.state ≠ .onCourse) ∧
    (ready (releasing (station 3 2 .closed) false) ∧
      (releasing (station 3 2 .closed) false).isActive = false) ∧
    (ready full ∧ (full.panel.hold .void).spoiled = false ∧ full.isActive = true ∧
      (∃ r ∈ full.table.records, r.state = .onCourse) ∧ full.TableSound ∧
      32 ≤ full.outbox.ring.length ∧ ∀ e ∈ full.outbox.ring, e.sent = false) := by
  unfold State.LineSettled State.TableSound RunRecord.Sound
  decide

/-- VOID on the newest and DNF on the oldest of two runs on course. -/
theorem test_meets_ARulingSettlesItsTarget :
    let s0 := withRuns (station 0 2 .active) [onCourseFrom 4 7 1000, onCourseFrom 4 8 2000] 9
    let f : KeyFilter := ⟨true, 19, some 4990, false⟩
    let s := withRing { s0 with panel := { Panel.reset with void := f, dnf := f } } sentRing
    let g0 := withRuns (station 1 2 .active) [onCourseFrom 4 7 1000, onCourseFrom 4 8 2000] 1
    let g := { g0 with assign := { g0.assign with entries := [⟨1000, false, 3000, false⟩] } }
    (s.isActive = true ∧ s.TableSound ∧ s.CounterSound ∧ s.assign.entries = [] ∧ s.HasPlace) ∧
    (g.TableSound ∧ g.CounterSound ∧ ∀ e ∈ g.assign.entries, ∀ x ∈ g.table.records,
      ¬ (x.eligible g.number = true ∧ x.precedes e.time = true)) ∧
    ((s.panel.filter .void).pressed = true ∧ (s.panel.filter .void).change ≠ 0 ∧
      (s.panel.hold .void).spoiled = false ∧ onCourseFrom 4 8 2000 ∈ s.table.records ∧
      (onCourseFrom 4 8 2000).state = .onCourse ∧
      ∀ x ∈ s.table.records, x.state = .onCourse → x.run ≤ 8) ∧
    ((s.panel.filter .dnf).pressed = true ∧ (s.panel.filter .dnf).change ≠ 0 ∧
      (s.panel.hold .dnf).spoiled = false ∧ onCourseFrom 4 7 1000 ∈ s.table.records ∧
      ∀ x ∈ s.table.records, x.state = .onCourse → 7 ≤ x.run) := by
  unfold State.TableSound RunRecord.Sound State.CounterSound State.HasPlace
  decide

theorem test_meets_TheCombinationAsksForASession :
    let combining (mode : StationState) (epoch : Word16) (ring : List RingEntry) : State :=
      { station 3 2 mode with
        epoch := epoch
        panel := { Panel.reset with comboRunning := true, comboCount := 2999 }
        outbox := { Outbox.reset with ring := ring } }
    (let s := combining .active 65534#16 sentRing
     s.isActive = true ∧ s.panel.comboRunning = true ∧ s.epoch.toNat ≠ 65535 ∧ s.HasPlace) ∧
    (let s := combining .mute 1#16 []
     s.running = true ∧ s.panel.comboRunning = true ∧ s.LineSettled ∧ s.isActive = false) ∧
    (let s := combining .active 65535#16 []
     s.running = true ∧ s.LineSettled ∧ s.isActive = true ∧ s.epoch.toNat = 65535) ∧
    (let s := combining .active 65534#16 fullRing
     s.running = true ∧ s.LineSettled ∧ s.isActive = true ∧ s.epoch.toNat ≠ 65535 ∧
       32 ≤ s.outbox.ring.length ∧ ∀ e ∈ s.outbox.ring, e.sent = false) := by
  unfold State.LineSettled State.HasPlace
  decide

/-- A fact that leaves the state, one that settles a run, and one that corrects a settled run. -/
theorem test_meets_AHeldRecordTakesAFact :
    let dnf := { onCourseFrom 4 7 1000 with dnfed := true, reported := some .dnf }
    let s := withRuns (station 9 2 .active) [onCourseFrom 4 5 900, dnf] 1
    let finish (run : Nat) : Fact := .cross run 3 4990 none false false false
    (s.TableSound ∧ s.CounterSound) ∧
    (onCourseFrom 4 5 900 ∈ s.table.records ∧ (onCourseFrom 4 5 900).run = (Fact.start 5 1 true).run ∧
      ((onCourseFrom 4 5 900).take (.start 5 1 true)).state = (onCourseFrom 4 5 900).state) ∧
    ((onCourseFrom 4 5 900).run = (finish 5).run ∧
      ((onCourseFrom 4 5 900).take (finish 5)).state ≠ (onCourseFrom 4 5 900).state ∧
      (onCourseFrom 4 5 900).state = .onCourse) ∧
    (dnf ∈ s.table.records ∧ dnf.run = (finish 7).run ∧ (dnf.take (finish 7)).state ≠ dnf.state ∧
      dnf.state ≠ .onCourse) := by
  unfold State.TableSound RunRecord.Sound State.CounterSound
  decide

/-- A run at the floor, one above it with room, one that evicts a settled record, and with 48 runs on
course at station 0, below and above the lowest. -/
theorem test_meets_AnAbsentRunIsAdmittedOrDropped :
    let floored (s : State) (l : List RunRecord) (floor : Nat) : State :=
      { s with table := { s.table with records := l, floor := floor } }
    let old := { newRecord 4 3 false with voided := true, reported := some .void }
    let shifted := (fullTable 4).map (fun r => { r with run := r.run + 2 })
    (let s := floored (station 9 2 .active) [onCourseFrom 4 7 1000] 5
     s.TableSound ∧ (∀ r ∈ s.table.records, r.run ≠ 5) ∧ 5 ≤ s.table.floor ∧
       (∀ r ∈ s.table.records, r.run ≠ 6) ∧ s.table.floor < 6 ∧ s.table.records.length < 48) ∧
    (let s := floored (station 9 2 .active) ((fullTable 4).set 2 old) 0
     s.TableSound ∧ (∀ r ∈ s.table.records, r.run ≠ 49) ∧ s.table.floor < 49 ∧
       s.table.records.length = 48 ∧
       s.table.records.find? (fun r => r.state != .onCourse) = some old) ∧
    (let s := floored (station 0 2 .active) (fullTable 4) 0
     s.TableSound ∧ (∀ r ∈ s.table.records, r.run ≠ 49) ∧ s.table.floor < 49 ∧
       s.table.records.length = 48 ∧ (∀ r ∈ s.table.records, r.state = .onCourse) ∧
       s.number = 0) ∧
    (let s := floored (station 9 2 .active) shifted 1
     s.TableSound ∧ (∀ r ∈ s.table.records, r.run ≠ 2 ∧ r.run ≠ 51) ∧ s.table.floor < 2 ∧
       s.table.records.length = 48 ∧ (∀ r ∈ s.table.records, r.state = .onCourse) ∧
       s.number ≠ 0 ∧ s.table.records.head? = some { onCourseFrom 4 3 1000 with run := 3 } ∧
       2 < 3 ∧ 3 < 51) ∧
    (let s := floored (station 0 2 .active) [] 5
     let t := { s with table := { s.table with nextRun := 6 } }
     s.number = 0 ∧ s.table.nextRun ≤ (Fact.ruling 5 .void).run ∧
       (t.enrol (Fact.ruling 5 .void).run true).2 = false) := by
  unfold State.TableSound RunRecord.Sound
  decide +kernel

/-- The first frame of a peer and the next of one; facts at the bounds of their checks, and beyond. -/
theorem test_meets_ReceivedFactsAreTaken :
    let s := withPeerEntry (station 9 2 .closed) 3 (heardPeer (some 255#8) [])
    let h := header 3#8 255#8
    let g := header 4#8 7#8
    let o : Header := ⟨3#8, 0#16, 255#8⟩
    (s.Hears h ∧ s.InOrder h ∧ s.onCourse = true ∧ h.epoch = s.epoch ∧ s.assign.entries = [] ∧
      s.LineSettled) ∧
    (s.Hears g ∧ s.InOrder g ∧ g.epoch = s.epoch) ∧ (s.Hears o ∧ s.InOrder o ∧ o.epoch < s.epoch) ∧
    (let u : Header := ⟨3#8, 2#16, 255#8⟩
     s.Hears u ∧ s.InOrder u ∧ s.epoch < u.epoch) ∧
    (1 ≤ (999#16 : Word16).toNat ∧ (999#16 : Word16).toNat ≤ 999 ∧
      (86400000#32 : Word32).toNat ≤ 86400000) ∧
    ¬ ((1000#16 : Word16).toNat ≤ 999) ∧ ¬ (1 ≤ (0#16 : Word16).toNat) ∧
    ¬ ((86400001#32 : Word32).toNat ≤ 86400000) ∧
    (1 ≤ (3#8 : Byte).toNat ∧ (3#8 : Byte).toNat < s.gates ∧ ¬ (4#8 : Byte).toNat < s.gates) ∧
    ((0x03#8 : Byte) ≠ 1#8 ∧ (0x03#8 : Byte) ≠ 2#8) := by
  unfold State.Hears State.InOrder State.LineSettled
  decide

theorem test_meets_AStartHeardMatchesAWaitingCrossing :
    let e : PendingEntry := ⟨4500, true, 6500, false⟩
    let s0 := station 1 2 .active
    let s := { s0 with assign := { s0.assign with entries := [e] } }
    let p : StartPayload := ⟨1#16, 4499#32, 0#8⟩
    s.Hears (header 0#8 0#8) ∧ s.InOrder (header 0#8 0#8) ∧ s.isActive = true ∧
      s.isAssigner = true ∧ (header 0#8 0#8).epoch = s.epoch ∧ s.TableSound ∧
      s.assign.entries = [e] ∧ e.joining = false ∧ s.table.records = [] ∧
      s.table.floor < p.run.toNat ∧ 1 ≤ p.run.toNat ∧ p.run.toNat ≤ 999 ∧
      p.startTime.toNat < e.time ∧ p.startTime.toNat ≤ 86400000 ∧ s.HasPlace ∧
      s.number + 1 ≠ s.gates := by
  unfold State.HasPlace State.Hears State.InOrder State.TableSound RunRecord.Sound
  decide

/-- A START that makes a record gives a notice, and a second START of the run none. The walk of station 1 with
a crossing that the run cannot take and one that it can, of the finish station, and of one whose ring is full
of unsent frames; and a walk that finds no run. -/
theorem test_meets_AStartHeardMatchesAWaitingCrossing_walk :
    let entries : List PendingEntry := [⟨1000, false, 3000, false⟩, ⟨1001, true, 3001, true⟩]
    let s (n : Nat) (ring : List RingEntry) : State :=
      withRing
        { withRuns (station n 2 .active) [onCourseFrom 4 7 1000] 1 with
          assign := { Assign.reset with entries := entries } } ring
    let taker (s : State) (x : PendingEntry) : Option RunRecord :=
      s.table.records.find? (fun r => r.eligible s.number && r.precedes x.time)
    ((s 1 []).TableSound ∧ ((s 1 []).takeFact (.start 8 5 true)).2 = true ∧
      ((s 1 []).takeFact (.start 7 5 true)).2 = false) ∧
    ((s 1 sentRing).isAssigner = true ∧ (s 1 sentRing).isActive = true ∧
      (s 1 sentRing).assign.entries = [entries.head (by decide)] ++ ⟨1001, true, 3001, true⟩ :: [] ∧
      taker (s 1 sentRing) ⟨1000, false, 3000, false⟩ = none ∧
      taker (s 1 sentRing) ⟨1001, true, 3001, true⟩ = some (onCourseFrom 4 7 1000) ∧
      (s 1 sentRing).HasPlace ∧ (s 1 sentRing).number + 1 ≠ (s 1 sentRing).gates) ∧
    ((s 3 []).HasPlace ∧ (s 3 []).number + 1 = (s 3 []).gates ∧
      taker (s 3 []) ⟨1001, true, 3001, true⟩ = some (onCourseFrom 4 7 1000)) ∧
    (32 ≤ (s 1 fullRing).outbox.ring.length ∧ ∀ e ∈ (s 1 fullRing).outbox.ring, e.sent = false) ∧
    (∀ x ∈ entries, taker { s 1 [] with table := RunTable.reset } x = none) := by
  unfold State.HasPlace State.TableSound RunRecord.Sound
  decide

/-- A repair with a REPEAT that waits, a first hearing, a frame in order, those 8, 9 and 127 ahead, and one
128 ahead, which is stale. -/
theorem test_meets_SequencesAreBooked :
    let s := station 9 2 .active
    let m0 := withPeerEntry s 3 (heardPeer (some 9#8) [⟨5#8, 1, 6000⟩])
    let m := { m0 with outbox := { m0.outbox with control := [.askRepeat 3#8 5#8] } }
    let n := withPeerEntry s 3 (heardPeer none [])
    let i := withPeerEntry s 3 (heardPeer (some 250#8) [])
    (3 < m.receiver.peers.length ∧ ∃ x ∈ (m.peer 3).missing, x.seq = 5#8) ∧
    ((n.peer 3).expected = none ∧ (n.peer 3).missing = []) ∧
    ((i.peer 3).expected = some 250#8 ∧ (i.peer 3).missing = [] ∧
      (250#8 - 250#8 : Byte).toNat ≤ 8 ∧ (2#8 - 250#8 : Byte).toNat ≤ 8 ∧
      8 < (3#8 - 250#8 : Byte).toNat ∧ (121#8 - 250#8 : Byte).toNat = 127) ∧
    ((∀ x ∈ (m.peer 3).missing, x.seq ≠ 137#8) ∧ 128 ≤ (137#8 - 9#8 : Byte).toNat) := by decide

/-- R114, R115: a peer that misses sequences 5 and 9 sends 12, and 9 is expected: 10 and 11 join. It then
sends 139: 13 to 16 join, 5, 9, 10 and 11 fall out of the range of 128, and 17 to 138 find no room. -/
theorem test_a_second_gap :
    let s := withPeerEntry (station 9 2 .active) 3 (heardPeer (some 9#8) [⟨5#8, 1, 6000⟩, ⟨9#8, 1, 6000⟩])
    let t := (s.bookSequence 3 12#8).1
    let u := (t.bookSequence 3 139#8).1
    (∀ m ∈ (s.peer 3).missing, m.seq ≠ 12#8) ∧ (12#8 - 9#8 : Byte).toNat < 128 ∧
      (t.peer 3).missing.map (fun m => m.seq) = [5#8, 9#8, 10#8, 11#8] ∧
      (t.peer 3).expected = some 13#8 ∧
      (u.peer 3).missing.map (fun m => m.seq) = [13#8, 14#8, 15#8, 16#8] ∧
      u.results.counter = 126#8 ∧ u.results.records.map (fun r => r.value) =
        (List.range 24).map (fun i => some (115 + i)) := by decide +kernel

theorem test_meets_ASessionFrameChangesTheSession :
    let h : Header := ⟨3#8, 2#16, 7#8⟩
    let p : SessionPayload := ⟨1#16⟩
    let a := station 9 2 .mute
    let b := { station 9 2 .mute with epoch := 2#16 }
    let l := station 9 2 .listening
    (a.Hears h ∧ a.InOrder h ∧ 1 ≤ p.previous.toNat ∧ p.previous.toNat ≤ 65534 ∧
      h.epoch.toNat = p.previous.toNat + 1 ∧ a.LineSettled ∧ a.onCourse = true ∧
      a.epoch < h.epoch) ∧
    (b.Hears h ∧ b.InOrder h ∧ b.LineSettled ∧ b.onCourse = true ∧ h.epoch ≤ b.epoch) ∧
    (l.Hears h ∧ l.InOrder h ∧ l.LineSettled ∧ l.station.state = .listening ∧ l.number ≠ 0) := by
  unfold State.Hears State.InOrder State.LineSettled
  decide

theorem test_meets_AnAcceptedFrameRaisesTheEpoch :
    let s := station 9 2 .active
    let f : Frame := ⟨header 3#8 0#8, .beacon (beacon 7000#32 none)⟩
    let g : Frame := ⟨⟨15#8, 0#16, 255#8⟩, .ruling ⟨1#16, 1#8⟩⟩
    s.Hears f.header ∧ f.wellFormed = true ∧ (beacon 7000#32 none).gateCount.toNat = s.gates ∧
      s.Hears g.header ∧ g.wellFormed = true := by
  unfold State.Hears
  decide

/-- Station 0's mark, and the record at station 1, from the first START heard, runs 999 and 1000, and from a
beacon. -/
theorem test_meets_ListeningKeepsWhatAStartSays :
    let z := station 0 2 .listening
    let a := station 1 2 .listening
    let p : StartPayload := ⟨999#16, 5#32, 0#8⟩
    (z.Hears (header 3#8 7#8) ∧ z.InOrder (header 3#8 7#8) ∧ z.station.state = .listening ∧
      z.LineSettled ∧ p.run.toNat = 999 ∧ z.number = 0 ∧
      z.table.markEpoch < (header 3#8 7#8).epoch) ∧
    (a.Hears (header 0#8 7#8) ∧ a.InOrder (header 0#8 7#8) ∧ a.LineSettled ∧ a.isAssigner = true ∧
      a.assign.recEpoch < (header 0#8 7#8).epoch ∧ 999 < (1000#16 : Word16).toNat) ∧
    (let s := withPeerEntry a 0 (heardPeer (some 9#8) [])
     let b := beacon 4999#32 (some 999#16)
     s.Hears (header 0#8 0#8) ∧ s.station.state = .listening ∧ s.LineSettled ∧
       b.gateCount.toNat = s.gates ∧ b.oldest.isSome = ((0#8 : Byte) == 0#8) ∧
       b.courseTime.toNat + 1 ≤ s.clock.courseTime ∧ (s.peer 0).missing = [] ∧
       b.flags.getLsbD 1 = false ∧ b.flags.getLsbD 3 = false ∧
       (s.peer 0).expected = some (b.lastSeq + 1) ∧ s.isAssigner = true ∧
       s.assign.recEpoch ≤ (header 0#8 0#8).epoch) ∧
    (z.InOrder ⟨3#8, 65535#16, 7#8⟩ ∧ (65534#16 : Word16).toNat + 1 = 65535 ∧
      z.table.markEpoch < (65535#16 : Word16)) ∧
    (z.Hears (header 3#8 0#8) ∧ (z.peer 3).missing = [] ∧ (15#8 : Byte).toNat < 16 ∧
      15#8 ≠ (header 3#8 0#8).station ∧ ∀ m ∈ (z.peer 15).missing, m.seq ≠ 8#8) := by
  unfold State.Hears State.InOrder State.LineSettled
  decide

/-- A beacon whose time is one short of this station's, from station 3, and one with no time from station
0, whose oldest run stands at the boundary. -/
theorem test_meets_ABeaconInStep :
    let s3 := withPeerEntry (station 9 2 .active) 3 (heardPeer (some 9#8) [])
    let b3 := beacon 4999#32 none
    let s0 := withPeerEntry (station 1 2 .active) 0 (heardPeer (some 9#8) [])
    let s := { s0 with assign := { s0.assign with held := true, boundary := 999 } }
    let b0 := beacon 0xFFFFFFFF#32 (some 999#16)
    (s3.Hears (header 3#8 0#8) ∧ s3.onCourse = true ∧ (header 3#8 0#8).epoch = s3.epoch ∧
      b3.gateCount.toNat = s3.gates ∧ b3.oldest.isSome = ((3#8 : Byte) == 0#8) ∧
      s3.LineSettled ∧ b3.courseTime.toNat + 1 ≤ s3.clock.courseTime ∧ (s3.peer 3).missing = [] ∧
      b3.flags.getLsbD 1 = false ∧ b3.flags.getLsbD 3 = false ∧
      (s3.peer 3).expected = some (b3.lastSeq + 1)) ∧
    (s.Hears (header 0#8 0#8) ∧ s.LineSettled ∧ 86400000 < b0.courseTime.toNat ∧
      b0.oldest = some 999#16 ∧ (s.peer 0).expected = some (b0.lastSeq + 1) ∧
      s.isAssigner = true ∧ s.assign.held = true ∧ s.assign.boundary ≤ (999#16 : Word16).toNat) := by
  unfold State.Hears State.LineSettled
  decide

/-- The rows of the bookkeeping at follower 9: a restart of one that misses a sequence, late joins, beacons
0, 127 and 128 sequences ahead, and one with nothing sent; and a late join of station 0 at station 1. -/
theorem test_meets_ABeaconInStep_books :
    let s (e : Option Byte) (l : List MissingEntry) : State :=
      withPeerEntry (station 9 2 .active) 3 (heardPeer e l)
    let b (last flags : Byte) : BeaconPayload := { beacon 4999#32 none with lastSeq := last, flags := flags }
    let z := withPeerEntry (station 1 2 .active) 0 (heardPeer none [])
    ((s none []).Hears (header 3#8 0#8) ∧ (s none []).onCourse = true ∧
      (header 3#8 0#8).epoch = (s none []).epoch ∧ (b 0#8 0#8).gateCount.toNat = (s none []).gates ∧
      (b 0#8 0#8).courseTime.toNat + 1 ≤ (s none []).clock.courseTime ∧
      ((s none []).peer 3).expected = none ∧ ((s none []).peer 3).missing = []) ∧
    ((b 255#8 10#8).flags.getLsbD 1 = true ∧ (b 255#8 10#8).flags.getLsbD 3 = true) ∧
    ((b 255#8 8#8).flags.getLsbD 1 = false ∧ (b 255#8 8#8).flags.getLsbD 3 = true) ∧
    ((b 255#8 2#8).flags.getLsbD 1 = true ∧ (b 255#8 2#8).flags.getLsbD 3 = false ∧
      ((s (some 9#8) [⟨5#8, 1, 6000⟩]).peer 3).expected ≠ some (255#8 + 1)) ∧
    (((s (some 9#8) []).peer 3).expected = some 9#8 ∧ (9#8 - 9#8 : Byte).toNat + 1 ≤ 128 ∧
      (136#8 - 9#8 : Byte).toNat + 1 ≤ 128 ∧ 128 < (137#8 - 9#8 : Byte).toNat + 1) ∧
    (z.Hears (header 0#8 0#8) ∧ (z.peer 0).expected = none ∧ (z.peer 0).missing = [] ∧
      z.isAssigner = true ∧ z.assign.held = false ∧ 1 ≤ (999#16 : Word16).toNat ∧
      (999#16 : Word16).toNat ≤ 999) := by
  unfold State.Hears
  decide

/-- The same rows for station 0 at station 1, with HELD clear and a crossing waiting, and with HELD set; and an
oldest run at the boundary of a loss, which the same beacon releases. -/
theorem test_meets_ABeaconInStep_station_zero :
    let z (held : Bool) : State :=
      { withPeerEntry (station 1 2 .active) 0 (heardPeer (some 9#8) [⟨5#8, 1, 6000⟩]) with
        assign :=
          { Assign.reset with
            held := held, boundary := if held then 4 else 0
            entries := if held then [] else [⟨4500, true, 6500, false⟩] } }
    let b (flags : Byte) (oldest : Word16) : BeaconPayload :=
      { beacon 4999#32 (some oldest) with lastSeq := 255#8, flags := flags }
    let t (held : Bool) (oldest : Word16) : State :=
      after (.receiveBeacon (header 0#8 0#8) (b 10#8 oldest)) (z held)
    ((z false).Hears (header 0#8 0#8) ∧ (z false).onCourse = true ∧
      (header 0#8 0#8).epoch = (z false).epoch ∧ (b 10#8 1#16).gateCount.toNat = (z false).gates ∧
      (b 10#8 1#16).courseTime.toNat + 1 ≤ (z false).clock.courseTime ∧
      (b 10#8 1#16).flags.getLsbD 1 = true ∧ (b 10#8 1#16).flags.getLsbD 3 = true) ∧
    ((z true).Hears (header 0#8 0#8) ∧ ((z true).peer 0).expected ≠ some (255#8 + 1)) ∧
    ((t false 1000#16).assign.held = true ∧ (t false 1000#16).assign.boundary = 1 ∧
      (t false 1000#16).results.records.map (fun r => r.kind) = [.linkLoss, .stray] ∧
      (t false 1#16).assign.held = false ∧ (t false 1#16).assign.boundary = 0) ∧
    ((t true 3#16).assign.boundary = 4 ∧ (t true 4#16).assign.held = false) := by
  unfold State.Hears
  decide +kernel

/-- An adoption that reaches a crossing and no limit, and a step to the limit, at an ACTIVE station 1. -/
theorem test_meets_ABeaconPullsCourseTimeForward_timers :
    let e (t : Nat) : PendingEntry := ⟨t, false, t + 2000, false⟩
    let s0 := withPeerEntry (station 1 2 .active) 3 (heardPeer (some 9#8) [])
    let s := { s0 with assign := { s0.assign with entries := [e 3001, e 4000] } }
    let h := header 3#8 0#8
    s.Hears h ∧ h.station ≠ 0#8 ∧ s.isActive = true ∧ h.epoch = s.epoch ∧
      (∀ p ∈ s.receiver.peers, p.missing = []) ∧
      (s.peer 3).expected = some ((beacon 5000#32 none).lastSeq + 1) ∧
      s.clock.courseTime < (beacon 5000#32 none).courseTime.toNat + 1 ∧
      min ((beacon 5000#32 none).courseTime.toNat + 1) 86400000 < 86400000 ∧
      (beacon 86400000#32 none).courseTime.toNat ≤ 86400000 ∧
      min ((beacon 86399999#32 none).courseTime.toNat + 1) 86400000 = 86400000 ∧
      (let o := withPeerEntry s 5 (heardPeer (some 9#8) [⟨7#8, 3, 5001⟩, ⟨8#8, 2, 5001⟩, ⟨6#8, 0, 5002⟩])
       let t (timer : Nat) : State :=
         { o with
           outbox := { o.outbox with beaconTimer := some timer, freshEnd := some timer }
           panel :=
             { o.panel with
               resultHold := some ⟨timer, none⟩, runHold := some ⟨timer, 7⟩
               tone := some ⟨.double, 0, timer⟩ } }
       ∀ timer ∈ [5001, 5002],
         (t timer).Hears h ∧ (t timer).outbox.beaconTimer = some timer ∧
           (t timer).outbox.freshEnd = some timer ∧
           (t timer).panel.resultHold = some ⟨timer, none⟩ ∧
           (t timer).panel.runHold = some ⟨timer, 7⟩ ∧ ((t timer).peer 5).silenceEnd ≠ none ∧
           ((t timer).peer 5).presence = .present ∧
           (((t timer).peer 5).missing.map (fun m => m.seq)).Nodup) := by
  unfold State.Hears
  decide

/-- A time not ahead, a trim of 2, and a step of 3 with a run on course. -/
theorem test_meets_ABeaconPullsCourseTimeForward :
    let s := withRuns (station 9 2 .active) [onCourseFrom 4 7 1000] 1
    let h := header 3#8 0#8
    (s.Hears h ∧ h.seq = 0#8 ∧ (beacon 4999#32 none).gateCount.toNat = s.gates ∧
      (beacon 4999#32 none).oldest.isSome = (h.station == 0#8) ∧ h.epoch ≤ s.epoch ∧
      s.onCourse = true) ∧
    ((beacon 4999#32 none).courseTime.toNat + 1 ≤ s.clock.courseTime) ∧
    (s.clock.courseTime < (beacon 5001#32 none).courseTime.toNat + 1 ∧
      ¬ s.clock.courseTime + 3 ≤ (beacon 5001#32 none).courseTime.toNat + 1) ∧
    s.clock.courseTime + 3 ≤ (beacon 5002#32 none).courseTime.toNat + 1 := by
  unfold State.Hears
  decide

/-- A REPEAT for a SENT, an UNSENT and an absent sequence of station 9, and one for station 5's. -/
theorem test_meets_RepeatsAreServedOrSuppress :
    let e (q : Byte) (sent : Bool) : RingEntry := ⟨⟨⟨9#8, 1#16, q⟩, .ruling ⟨1#16, 1#8⟩⟩, sent⟩
    let s0 := station 9 2 .active
    let s :=
      { s0 with outbox := { s0.outbox with ring := [e 0#8 true, e 1#8 false], nextSeq := 2#8 } }
    let h := header 3#8 0#8
    let o := withPeerEntry (station 9 2 .active) 5 (heardPeer (some 9#8) [⟨8#8, 1, 6000⟩])
    let find (q : Byte) := s.outbox.ring.find? (fun e => e.frame.header.seq == q)
    (s.Hears h ∧ h.seq = 0#8 ∧ s.speaking = true ∧ h.epoch = s.epoch ∧ s.onCourse = true ∧
      (9#8 : Byte) = s.stationByte ∧ s.outbox.control = [] ∧ s.LineSettled) ∧
    (find 0#8 = some (e 0#8 true) ∧ find 1#8 = some (e 1#8 false) ∧ find 2#8 = none) ∧
    (o.Hears h ∧ (5#8 : Byte).toNat < 16 ∧ 5#8 ≠ h.station ∧ 5#8 ≠ o.stationByte ∧
      o.sending = false ∧ o.LineSettled ∧ ∃ m ∈ (o.peer 5).missing, m.seq = 8#8) ∧
    (let n := { o with epoch := 2#16 }
     n.Hears h ∧ h.epoch < n.epoch ∧ n.onCourse = true ∧ n.LineSettled) ∧
    (let holds (l : List ControlEntry) : State := { s with outbox := { s.outbox with control := l } }
     let six := (List.range 6).map (fun i => ControlEntry.askRepeat 5#8 (BitVec.ofNat 8 i))
     let taken (l : List ControlEntry) (q : Byte) : List ControlEntry :=
       (after (.receiveRepeat h ⟨9#8, q⟩) (holds l)).outbox.control
     (holds six).Hears h ∧ (holds six).LineSettled ∧ taken six 0#8 = six ∧
       taken (six.drop 1) 0#8 = six.drop 1 ++ [.copy (e 0#8 true).frame] ∧
       taken [.gone 3#8 2#8 9#8] 2#8 = [.gone 3#8 2#8 9#8] ∧
       taken [.gone 4#8 2#8 9#8] 2#8 = [.gone 4#8 2#8 9#8, .gone 3#8 2#8 0#8]) := by
  unfold State.Hears State.LineSettled
  decide

/-- R119: a GONE for 8 with 10 the oldest retained ends 8, 9 and 139, which lies 127 before 10, but not 138
or 10; from station 0, the crossing that waits leaves after the first LINK LOSS. -/
theorem test_meets_LostSequencesAreReported_gone :
    let missing := [138#8, 139#8, 8#8, 9#8, 10#8].map (fun q => (⟨q, 1, 6000⟩ : MissingEntry))
    let s (n p : Nat) : State :=
      let s0 := withPeerEntry (station n 2 .active) p (heardPeer (some 12#8) missing)
      { s0 with assign := { s0.assign with entries := [⟨4500, true, 6500, false⟩] } }
    let g : GonePayload := ⟨9#8, 8#8, 10#8⟩
    let t := after (.receiveGone (header 0#8 0#8) g) (s 1 0)
    ((s 1 0).Hears (header 0#8 0#8) ∧ (s 1 0).onCourse = true ∧ (s 1 0).isAssigner = true ∧
      (s 1 0).assign.held = false ∧ (s 1 0).sending = false ∧ g.requester ≠ 0#8) ∧
    ((s 1 3).Hears (header 3#8 0#8) ∧ (header 3#8 0#8).epoch = (s 1 3).epoch) ∧
    ((t.peer 0).missing.map (fun m => m.seq) = [138#8, 10#8] ∧ t.assign.held = true ∧
      t.results.records.map (fun r => r.value) = [some 139, some 4500, some 8, some 9]) := by
  unfold State.Hears
  decide +kernel

/-- A deadline not reached; attempts 2 and 3 at it, speaking and not; a GONE; and a loss from station 0
with HELD clear and set. -/
theorem test_meets_LostSequencesAreReported :
    let m (attempts deadline : Nat) : MissingEntry := ⟨8#8, attempts, deadline⟩
    let s (mode : StationState) (x : MissingEntry) : State :=
      withPeerEntry (station 9 2 mode) 15 (heardPeer (some 9#8) [x])
    let ready (mode : StationState) (x : MissingEntry) : Prop :=
      (s mode x).receiver.peers.length = 16 ∧ (s mode x).outbox.control = [] ∧
        (s mode x).LineSettled ∧ ((s mode x).peer 15).missing = [x]
    let z := withPeerEntry (station 1 2 .mute) 0 (heardPeer (some 9#8) [m 3 5000])
    let h := { z with assign := { z.assign with held := true, boundary := 4 } }
    let g := header 15#8 0#8
    (ready .active (m 0 5001) ∧ (s .active (m 0 5001)).now < 5001) ∧
    (ready .active (m 2 5000) ∧ 5000 ≤ (s .active (m 2 5000)).now ∧
      (s .active (m 2 5000)).speaking = true) ∧
    (ready .mute (m 2 5000) ∧ (s .mute (m 2 5000)).speaking = false) ∧
    (ready .active (m 3 5000) ∧ 3 ≤ (m 3 5000).attempts) ∧
    ((s .active (m 0 5001)).Hears g ∧ g.seq = 0#8 ∧ g.station.toNat = 15 ∧
      (9#8 : Byte).toNat < 16 ∧ 9#8 ≠ g.station ∧ (s .active (m 0 5001)).onCourse = true ∧
      g.epoch = (s .active (m 0 5001)).epoch ∧ (m 0 5001).seq = 8#8) ∧
    (z.receiver.peers.length = 16 ∧ z.outbox.control = [] ∧ z.LineSettled ∧ z.isAssigner = true ∧
      z.onCourse = true ∧ (z.peer 0).missing = [m 3 5000] ∧ 5000 ≤ z.now ∧
      z.assign.held = false ∧ h.assign.held = true) ∧
    (((s .active (m 2 5000)).peer 15).missing.map (fun m => m.seq)).Nodup ∧
    (let n := { s .active (m 0 5001) with epoch := 2#16 }
     n.Hears g ∧ g.epoch < n.epoch ∧ n.onCourse = true ∧ n.LineSettled) := by
  unfold State.Hears State.LineSettled
  decide

theorem test_meets_ADuplicateNumberSilences :
    let f : Frame := ⟨header 9#8 7#8, .ruling ⟨1#16, 1#8⟩⟩
    let off (t : Nat) : State :=
      { station 9 2 .listening with
        clock := ⟨t, 0, 0⟩, line := { LineUnit.reset with rx := .waiting } }
    f.wellFormed = true ∧ f.header.station = (station 9 2 .active).stationByte ∧
      (station 9 2 .active).sending = false ∧ (station 9 2 .active).station.state = .active ∧
      (station 9 2 .closed).station.state = .closed ∧ (station 9 2 .mute).line.tx ≠ .idle ∧
      (off 5000).sending = false ∧ (off 5000).station.state = .listening ∧
      (off 5000).line.tx = .off ∧ (off 86400000).clock.courseTime = 86400000 ∧
      (off 86400000).assign.entries = [] := by
  decide

/-- A beacon of another gate count; a REPEAT of a peer in MISMATCH and its FRESH beacon; and a station that
receives nothing. -/
theorem test_meets_FramesThatAreNotAccepted :
    let s := station 9 2 .active
    let b : BeaconPayload := { beacon 4999#32 none with gateCount := 5#8 }
    let c : BeaconPayload := { beacon 4999#32 none with flags := 2#8 }
    let f : Frame := ⟨header 3#8 0#8, .beacon b⟩
    let g : Frame := ⟨header 3#8 0#8, .askRepeat ⟨9#8, 1#8⟩⟩
    let x := withPeerEntry s 3 { heardPeer none [] with presence := .mismatch, silenceEnd := none }
    (f.wellFormed = true ∧ f.header.station ≠ s.stationByte ∧ s.LineSettled ∧
      s.receiver.peers.length = 16 ∧ s.receives = true ∧ b.gateCount.toNat ≠ s.gates ∧
      (s.peer 3).presence ≠ .mismatch) ∧
    (g.wellFormed = true ∧ x.LineSettled ∧ x.receives = true ∧ (x.peer 3).presence = .mismatch ∧
      b.flags.getLsbD 1 = false) ∧
    (Frame.wellFormed ⟨header 3#8 0#8, .beacon c⟩ = true ∧ (x.peer 3).missing = [] ∧
      c.flags.getLsbD 1 = true ∧ c.gateCount.toNat = x.gates ∧
      c.courseTime.toNat + 1 ≤ x.clock.courseTime) ∧
    ((station 9 7 .configFault).receives = false ∧ (station 9 7 .configFault).LineSettled) := by
  unfold State.LineSettled
  decide

/-- R125, by hand: the preamble A6h is 10100110, sent from its low bit on as a start bit, 01100101 with
each 0 dominant, and a stop bit. -/
theorem test_preamble_levels :
    byteLevels preamble =
      [true, true, false, false, true, true, false, true, false, false] := by decide

/-- R127: a start edge that is recessive at its middle is a glitch, and one that is dominant there begins a
byte whose stop bit, dominant or recessive, gives a framing error or the byte. -/
theorem test_middles_of_bits :
    Reading.count ⟨15, []⟩ false = (none, []) ∧
    Reading.count ⟨15, []⟩ true = (some ⟨16, [true]⟩, []) ∧
    Reading.count ⟨303, (byteLevels 0xA6#8).take 9⟩ false =
      (some ⟨304, (byteLevels 0xA6#8).take 9⟩, [.byteTaken (.byte 0xA6#8)]) ∧
    (Reading.count ⟨303, []⟩ true).2 = [.byteTaken .framingError] ∧
    Reading.count ⟨319, []⟩ false = (none, []) := by decide

/-- R116: a FRESH beacon of last sequence 199 from a peer first heard keeps 0 to 7 to be repaired, whatever
their distance from 200, and loses 8 to 199. -/
theorem test_restart_keeps_the_oldest_eight :
    let s := station 9 2 .active
    let t := s.bookBeacon 3 { beacon 4999#32 none with lastSeq := 199#8, flags := 2#8 }
    (t.peer 3).missing.map (fun m => m.seq) = [0#8, 1#8, 2#8, 3#8, 4#8, 5#8, 6#8, 7#8] ∧
      (t.peer 3).expected = some 200#8 := by decide +kernel

/-- R141: the edge first, the slot end and the rest end find a busy line. -/
theorem test_edge_before_slot_and_rest_end :
    let s0 := station 9 2 .active
    let s :=
      { s0 with
        line := { s0.line with rest := true }, outbox := { s0.outbox with beaconDue := true } }
    (after .transmitStart (after .lineDefer s)).sending = false ∧
      (after .restEnd (after .lineDefer s)).line.rest = true ∧
      (after .transmitStart s).sending = true := by decide

/-- R13, R32: a step marks every run on course and no settled one; the mark stays (R1), and a run that gains
its start time after the step does not carry it. R14: a DNF and a START are the same in either order. -/
theorem test_step_marks_every_run_on_course :
    let dnf := { newRecord 4 8 true with dnfed := true, reported := some .dnf }
    let s := withRuns (station 9 2 .active) [newRecord 4 6 true, onCourseFrom 4 7 1000, dnf] 1
    let after (f : RunRecord → RunRecord) : List RunRecord := s.markStepped.table.records.map f
    let start (r : RunRecord) : RunRecord := r.take (.start r.run 1000 false)
    let ruled (r : RunRecord) : RunRecord := r.take (.ruling r.run .dnf)
    (after start).map (fun r => r.marks.stepped) = [true, true, false] ∧
      (after start).map (fun r => r.carriesStepped) = [false, true, false] ∧
      after (fun r => start (ruled r)) = after (fun r => ruled (start r)) := by decide

/-- R126, R127: a dominant level that ends before the middle of its bit leaves the line idle at once; while it
lasts, and once a start bit was found, the line is busy. -/
theorem test_idle_from_the_end_of_a_glitch :
    let s := station 9 2 .active
    let idle (dominant : Bool) (n : Nat) : Nat :=
      { s with
        line := { s.line with dominant := dominant, reading := some ⟨n, []⟩ } }.countIdle.1.line.idlePeriods
    idle false 5 = 1 ∧ idle true 5 = 0 ∧ idle false 16 = 0 := by decide

/-- R134: the rest that is due comes into force with the last period of the stop bit, and not before. -/
theorem test_rest_at_the_end_of_the_stop_bit :
    let s := station 9 2 .active
    let rest (n : Nat) : Bool :=
      { s with
        line := { s.line with restDue := true, reading := some ⟨n, []⟩ } }.countReading.1.line.rest
    rest 318 = false ∧ rest 319 = true := by decide

/-- R163: the fall of XCLK after the eighth rise shows bit 9. -/
theorem test_bit_nine_shows_after_the_latch :
    let s := station 9 2 .active
    let t := after .next (after .xselFall s)
    t.port.shown = 8 ∧ t.port.xclkHigh = true ∧ t.clockFall.port.shown = 9 := by decide

/-- R164, R189: the command bytes as words of eight bits, and words of other lengths. -/
theorem test_command_bytes :
    decodeTableWord 8 0x4E = some .next ∧ decodeTableWord 8 0x50 = some .peek ∧
      decodeTableWord 8 0x53 = some .status ∧ decodeTableWord 8 0xFF = some (.unknownCommand 0xFF#8) ∧
      decodeTableWord 0 0 = none ∧ decodeTableWord 16 0x4E = none := by decide

/-- Bytes that open, ignore, join at 6 and 7, end and exceed a frame; and frames to drop. -/
theorem test_meets_BytesMakeFrames :
    let s (rx : RxState) : State :=
      { station 9 2 .mute with line := { LineUnit.reset with rx := rx } }
    let head : List Byte := [0xA6#8, 0x24#8, 3#8, 0#8, 1#8, 0#8]
    let whole : List Byte := head ++ [12#8] ++ List.replicate 13 0#8
    ((s .waiting).running = true ∧ (s .waiting).isWaiting = false ∧ (s .waiting).line.rx = .waiting) ∧
    (s .ignoring).line.rx = .ignoring ∧
    ((s (.inFrame [0xA6#8])).line.rx = .inFrame [0xA6#8] ∧ [0xA6#8].length < 6) ∧
    (head.length = 6 ∧ (12#8 : Byte).toNat ≤ 12 ∧ 12 < (13#8 : Byte).toNat) ∧
    (7 ≤ (head ++ [12#8]).length ∧ ((head ++ [12#8]).getD 6 0#8).toNat ≤ 12 ∧
      (head ++ [12#8]).length + 1 < 9 + ((head ++ [12#8]).getD 6 0#8).toNat) ∧
    (7 ≤ whole.length ∧ (whole.getD 6 0#8).toNat ≤ 12 ∧
      whole.length + 1 = 9 + (whole.getD 6 0#8).toNat ∧ (s (.inFrame whole)).receives = true) ∧
    (let w := station 9 2 .active
     w.isWaiting = true ∧ w.running = true ∧ w.line.rx = .waiting) ∧
    (let c := { s (.inFrame whole) with station := { (s .waiting).station with state := .configFault } }
     c.running = true ∧ c.receives = false ∧ c.line.rx = .inFrame whole) := by
  decide

theorem test_meets_ABusyLineIsDeferredTo :
    let s := station 9 2 .active
    let r := { s with line := { s.line with tx := .idle, rest := true, restPeriods := 2431 } }
    (s.running = true ∧ s.line.tx = .waiting 12 none ∧ s.line.rest = false) ∧
    (r.running = true ∧ r.isWaiting = false ∧ r.line.rest = true ∧ r.line.busy = false) ∧
    { r with line := { r.line with reading := some ⟨304, []⟩ } }.line.busy = true := by decide

/-- R125, R126: station 9 drives the preamble A6h, its first data bit a recessive 0 dominant, the second a 1;
the start bit of the second byte follows the stop bit of the first; and a start bit counts as one at its middle. -/
theorem test_levels_of_a_frame_being_sent :
    let f : Frame := ⟨⟨9#8, 1#16, 4#8⟩, .ruling ⟨1#16, 1#8⟩⟩
    let s (n : Nat) : State :=
      { station 9 2 .active with line := { LineUnit.reset with tx := .sending .ring f n } }
    let r (n : Nat) : LineUnit := { LineUnit.reset with reading := some ⟨n, []⟩ }
    f.bytes.length = 12 ∧ [0, 31, 32, 64, 96, 128, 319, 320, 3839, 3840].map (fun n => (s n).drives) =
        [true, true, true, false, false, true, false, true, false, false] ∧
      (r 15).busy = false ∧ (r 16).busy = true := by decide +kernel

/-- Each of the frames the Outbox may hand over, and none. -/
theorem test_meets_TheOutboxChoosesAFrame :
    let e (q : Byte) (sent : Bool) : RingEntry := ⟨⟨⟨9#8, 1#16, q⟩, .ruling ⟨1#16, 1#8⟩⟩, sent⟩
    let s (control : List ControlEntry) (due first : Bool) : State :=
      { station 9 2 .active with
        outbox :=
          { Outbox.reset with
            ring := [e 0#8 true] ++ e 1#8 false :: [e 2#8 false]
            control := control, beaconDue := due, firstBeaconSent := first } }
    let f := (e 0#8 true).frame
    ((s [.copy f] true true).line.tx = .waiting 12 none ∧ (s [.copy f] true true).line.busy = false ∧
      (s [.copy f] true true).outbox.control = .copy f :: []) ∧
    (s [.gone 1#8 2#8 3#8] true true).outbox.control = .gone 1#8 2#8 3#8 :: [] ∧
    (s [.askRepeat 1#8 2#8] true true).outbox.control = .askRepeat 1#8 2#8 :: [] ∧
    ((s [] true true).outbox.control = [] ∧ (s [] true true).outbox.beaconDue = true) ∧
    ((s [] false true).outbox.beaconDue = false ∧
      (s [] false true).outbox.firstBeaconSent = true ∧
      (s [] false true).outbox.ring = [e 0#8 true] ++ e 1#8 false :: [e 2#8 false] ∧
      (∀ x ∈ [e 0#8 true], x.sent = true) ∧ (e 1#8 false).sent = false) ∧
    (s [] false false).outbox.firstBeaconSent = false := by decide

/-- A station that sends from each of the three places, with 14 and with 15 failed attempts. -/
def sends (source : TxSource) (failed : Nat) : State :=
  let f : Frame := ⟨⟨9#8, 1#16, 0#8⟩, .ruling ⟨1#16, 1#8⟩⟩
  { station 9 2 .active with
    line := { LineUnit.reset with tx := .sending source f 100, failed := failed, reading := some ⟨100, []⟩ }
    outbox :=
      { Outbox.reset with
        ring := [⟨f, false⟩], nextSeq := 1#8, firstBeaconSent := true
        control := [.askRepeat 3#8 4#8], beaconTimer := some 5100 } }

theorem test_meets_ATransmissionCompletes :
    let f : Frame := ⟨⟨9#8, 1#16, 0#8⟩, .ruling ⟨1#16, 1#8⟩⟩
    (∀ source ∈ [TxSource.control, .beacon, .ring],
      (sends source 0).line.tx = .sending source f 100 ∧ (sends source 0).running = true) ∧
    (sends .ring 0).outbox.ring = [] ++ ⟨f, false⟩ :: [] ∧
    (let l := { LineUnit.reset with restDue := true }
     l.restDue = true ∧ l.reading = none ∧
       { l with reading := some ⟨304, []⟩ }.reading = some ⟨304, []⟩) := by decide

/-- R137, R130: the driver does not hold the last 0 of the last check byte (AFh). The byte ends as EFh, and the
frame is dropped on its check; the start bit of a byte not held begins none; and a stop bit spoilt ends the
frame. -/
theorem test_a_truncated_frame_has_no_effect :
    let f : Frame := ⟨⟨9#8, 1#16, 0#8⟩, .ruling ⟨1#16, 1#8⟩⟩
    let upTo (bit : Nat) : State :=
      let s := sends .ring 0
      { s with
        line :=
          { s.line with
            tx := .sending .ring f (3520 + 32 * bit + 16), rx := .inFrame (f.bytes.take 11)
            reading := some ⟨32 * bit + 16, (byteLevels 0xAF#8).take (bit + 1)⟩ } }
    let read (s : State) : Option Byte := s.line.reading.map (fun r => levelsByte (r.levels ++ [false, false]))
    f.bytes.getLast? = some 0xAF#8 ∧ (upTo 7).drives = true ∧
      read (after .readbackMismatch (upTo 7)) = some 0xEF#8 ∧
      (after (.byteTaken (.byte 0xEF#8)) (after .readbackMismatch (upTo 7))).dueFrame = [.badFrameDropped] ∧
      (after .readbackMismatch (upTo 0)).line.reading = none ∧
      (after .readbackMismatch (upTo 9)).line.rx = .ignoring ∧
      (after .readbackMismatch (after (.byteTaken (.byte 0xAF#8)) (upTo 9))).line.complete = none := by
  decide +kernel

theorem test_meets_AReadbackMismatchIsAFailedAttempt :
    (let f : Frame := ⟨⟨9#8, 1#16, 0#8⟩, .ruling ⟨1#16, 1#8⟩⟩
     f.wellFormed = true ∧ f.bytes.getLast? ≠ some 0#8) ∧
    (∀ source ∈ [TxSource.control, .beacon, .ring], ∀ failed ∈ [14, 15],
      let s := sends source failed
      s.speaking = true ∧ s.RingSound ∧ s.FailuresSound ∧ s.ErrorsSound ∧ s.line.failed = failed ∧
        s.assign.entries = []) ∧
    (sends .ring 15).oldestUnsent = some ⟨⟨9#8, 1#16, 0#8⟩, .ruling ⟨1#16, 1#8⟩⟩ ∧
    (sends .control 15).outbox.control ≠ [] := by
  refine ⟨by decide +kernel, ?_⟩
  unfold State.RingSound State.FailuresSound State.ErrorsSound
  decide

/-- The frame being sent stands where its source says, whichever the source. -/
theorem test_sends_sound (source : TxSource) (failed : Nat) : (sends source failed).SendingSound := by
  intro source' f n h
  injection h with h1 h2 h3
  subst h1 h2 h3
  exact ⟨rfl, fun _ => ⟨rfl, rfl⟩, fun _ => by simp [sends]⟩

/-- A result at test. -/
def result (seq : Byte) : ResultRecord := ⟨.stray, .stray .held, 0, some 4, 5, Marks.none, 0, 0, seq⟩

/-- A queue of 23 and of 24 records, the latter with a transfer in REPLY of its oldest. -/
theorem test_meets_AnAppendStampsAndJoins :
    let queue (n lost : Nat) : State :=
      { station 9 2 .active with
        results := ⟨(List.range n).map (fun i => result (BitVec.ofNat 8 i)), lost, BitVec.ofNat 8 n⟩ }
    (queue 23 0).results.records.length < 24 ∧
    ((queue 24 255).results.records =
        result 0#8 :: (List.range 23).map (fun i => result (BitVec.ofNat 8 (i + 1))) ∧
      (queue 24 255).results.records.length = 24 ∧ (queue 24 255).results.lost ≤ 255) := by decide

/-- A port in each phase, with a record and with none. -/
theorem test_meets_ATransferLatchesAndEnds :
    let port (phase : PortPhase) (l : List ResultRecord) (q : Option Byte) (o : Bool) : State :=
      { station 9 2 .active with
        results := ⟨l, 0, 9#8⟩
        port := { Port.reset with phase := phase, latchedSeq := q, overtaken := o } }
    (port .idle [] none false).running = true ∧ (port .idle [] none false).port.xselLow = false ∧
    (port .command [result 8#8] none false).results.records = result 8#8 :: [] ∧
    (port .command [] none false).results.records = [] ∧
    ((0x4F#8 : Byte) ≠ 0x4E#8 ∧ (0x4F#8 : Byte) ≠ 0x50#8 ∧ (0x4F#8 : Byte) ≠ 0x53#8) ∧
    (port .reply [] none false).port.phase = .reply ∧
    ((port .done [result 8#8] (some 8#8) false).port.latchedSeq = some (result 8#8).seq ∧
      (port .done [result 8#8] (some 8#8) false).port.overtaken = false) ∧
    (port .done [result 8#8] (some 8#8) true).port.overtaken = true := by decide

/-- XOUT at the first and the last bit of COMMAND and of REPLY (R163). -/
theorem test_meets_ATransferLatchesAndEnds_outputs :
    let port (phase : PortPhase) (shown : Nat) : State :=
      { station 9 2 .active with
        port :=
          { Port.reset with
            phase := phase, fill := 0x81, shown := shown
            latched := some (0x80#8 :: List.replicate 14 0#8 ++ [0x01#8]) } }
    (port .command 1).xout = true ∧ (port .command 8).xout = true ∧ (port .command 2).xout = false ∧
      (port .reply 9).xout = true ∧ (port .reply 136).xout = true ∧ (port .reply 10).xout = false ∧
      (port .done 136).xout = false ∧ (port .idle 1).running = true := by decide

/-- A NEXT of the oldest of 23 with one append before it ends. -/
theorem test_meets_ACompletedNextRemovesWhatItLatched :
    let s :=
      { station 9 2 .active with
        results := ⟨(List.range 23).map (fun i => result (BitVec.ofNat 8 i)), 0, 23#8⟩
        port := { Port.reset with phase := .command } }
    s.running = true ∧ s.port.phase = .command ∧ 22 + 1 + [strayContents .held 4 false].length ≤ 24 ∧
      exec .next s = .next (after .next s) ∧
      exec .replyShiftedOut ((after .next s).append (strayContents .held 4 false)) =
        .next (after .replyShiftedOut ((after .next s).append (strayContents .held 4 false))) :=
  ⟨by decide, by decide, by decide, rfl, rfl⟩

theorem test_meets_TonesErrorsAndTheDisplay :
    let s := station 9 2 .active
    let tone (p : Pattern) : State := { s with panel := { s.panel with tone := some ⟨p, 0, 5050⟩ } }
    let e :=
      { s with
        station := { s.station with errors := { ErrorSet.none with e11 := true } }
        panel := { s.panel with resultHold := some ⟨6000, none⟩, runHold := some ⟨6000, 7⟩ } }
    let r := { s with panel := e.panel }
    s.panel.tone = none ∧ (tone .alarm).panel.tone = some ⟨.alarm, 0, 5050⟩ ∧
      (tone .click).panel.tone = some ⟨.click, 0, 5050⟩ ∧ e.station.errors.has .e11 = true ∧
      s.station.errors.has .e11 = false ∧
      (∀ d ∈ ErrorCode.all, e.station.errors.has d = true → ErrorCode.number .e11 ≤ d.number) ∧
      (∀ d ∈ ErrorCode.all, r.station.errors.has d = false) ∧
      r.panel.resultHold = some ⟨6000, none⟩ ∧ s.panel.resultHold = none ∧ s.panel.runHold = none ∧
      State.reset.running = false := by decide

/-- R183: DOUBLE is on in its first and third step and off in its second; TONE is high in the first half of
its cycle of 2000 periods while a tone is on. -/
theorem test_tone_output :
    let s (p : Pattern) (k d : Nat) : State :=
      { station 9 2 .active with
        panel := { Panel.reset with tone := some ⟨p, k, 5050⟩, toneDivider := d } }
    [0, 1, 2].map (fun k => (s .double k 0).toneOn) = [true, false, true] ∧
      [0, 999, 1000, 1999].map (fun d => (s .alarm 0 d).tonePin) = [true, true, false, false] ∧
      (s .refuse 1 0).tonePin = false ∧ (station 9 2 .active).tonePin = false := by decide

/-- The digits at the bounds of their clauses: 99 minutes 59.99 seconds, the first time that shows as
dashes, course time an hour on, and the run numbers 1 and 999. -/
theorem test_meets_TonesErrorsAndTheDisplay_digits :
    (DisplayContent.result (some 5999999)).digits =
        ([.figure 9, .figure 9, .figure 5, .figure 9, .figure 9, .figure 9], true) ∧
      (DisplayContent.result (some 6000000)).digits = (List.replicate 6 .dash, false) ∧
      (DisplayContent.courseTime 3600000).digits = (List.replicate 6 (.figure 0), true) ∧
      (DisplayContent.runNumber 999).digits =
        ([.letterR, .blank, .blank, .figure 9, .figure 9, .figure 9], false) ∧
      (DisplayContent.runNumber 1).digits =
        ([.letterR, .blank, .blank, .blank, .blank, .figure 1], false) := by decide

/-- A finish at, before and after the start, and runs in each state. -/
theorem test_meets_TheStateAndTheTimeOfARun :
    let p : Split := ⟨5000, false, false, false⟩
    let r (start : Option Nat) : RunRecord :=
      { newRecord 3 7 false with start := start, splits := [none, some p] }
    (r none).finish = some p ∧ (r (some 4999)).start = some 4999 ∧ 4999 < p.time ∧
      p.time ≤ 5000 ∧ (r none).voided = false ∧ (newRecord 3 7 false).finish = none ∧
      ({ newRecord 3 7 false with dnfed := true } : RunRecord).dnfed = true := by decide

theorem test_meets_ARulingJoinsTheRulings :
    let s := withRuns (station 9 2 .active) [onCourseFrom 4 7 1000] 1
    s.TableSound ∧ onCourseFrom 4 7 1000 ∈ s.table.records ∧
      (∀ y ∈ s.table.records, y.run ≠ 8) ∧ s.table.floor < 8 ∧ s.table.records.length < 48 := by
  unfold State.TableSound RunRecord.Sound
  decide

/-- Station 1 in epoch 2, HELD below run 8. -/
def heldBelowEight : State :=
  { station 1 2 .active with
    epoch := 2#16, assign := { Assign.reset with held := true, boundary := 8 } }

/-- A beacon of the epoch held, one of a higher and one of an older epoch, at a HELD station 1. -/
theorem test_meets_StationZerosBeaconMakesTheSnapshot :
    heldBelowEight.Hears ⟨0#8, 1#16, 0#8⟩ ∧ heldBelowEight.Hears ⟨0#8, 2#16, 0#8⟩ ∧
      heldBelowEight.Hears ⟨0#8, 3#16, 0#8⟩ ∧
      (beacon 4999#32 (some 7#16)).gateCount.toNat = heldBelowEight.gates ∧
      (beacon 4999#32 (some 7#16)).oldest = some 7#16 ∧ heldBelowEight.isAssigner = true ∧
      heldBelowEight.onCourse = true := by
  unfold State.Hears
  decide

/-- A sixteenth failed attempt, and a frame of its own number, one tick short of the limit. -/
theorem test_meets_TheCloseMeetsASilencingError :
    let late (s : State) : State := { s with clock := ⟨86399999, 4095, 0⟩ }
    let e : PendingEntry := ⟨86398001, false, 86400001, false⟩
    let f : Frame := ⟨header 1#8 7#8, .ruling ⟨1#16, 1#8⟩⟩
    let s0 := late (station 1 2 .active)
    let s := { s0 with assign := { s0.assign with entries := [e] } }
    let t := late (sends .ring 15)
    (s.isActive = true ∧ s.clock.courseTime + 1 = 86400000 ∧ s.clock.stopTicks = 0 ∧
      (∀ e ∈ s.assign.entries, 86400000 < e.deadline) ∧
      (∀ p ∈ s.receiver.peers, p.missing = []) ∧
      s.results.records.length + s.assign.entries.length + 1 ≤ 24 ∧ s.sending = false ∧
      f.wellFormed = true ∧ f.header.station = s.stationByte) ∧
    (t.isActive = true ∧ (∀ p ∈ t.receiver.peers, p.missing = []) ∧ t.line.failed = 15 ∧
      t.line.tx = .sending .ring ⟨⟨9#8, 1#16, 0#8⟩, .ruling ⟨1#16, 1#8⟩⟩ 100) := by decide

theorem test_meets_TheIndicatorsFollowTheirConditions :
    let s := withPeerEntry (station 9 2 .active) 3 (heardPeer none [])
    let c :=
      { State.reset with
        station :=
          { StationControl.reset with
            state := .configFault, straps := some ⟨9#4, 7#3, 0#2, 0#2, true⟩
            errors := { ErrorSet.none with e03 := true } } }
    (s.running = true ∧ s.receiver.peers.length = 16 ∧ s.silenceDue (s.peer 3) = true ∧
      ∀ i < 16, i ≠ 3 → (s.peer i).presence ≠ .present) ∧
    (c.station.state = .configFault ∧ c.ErrorsSound ∧ c.TableSound ∧ c.AssignSound) := by
  unfold State.ErrorsSound State.TableSound State.AssignSound RunRecord.Sound
  decide

/-- A state that meets the premises of every invariant, with a command in front. -/
def running : State := { sends .ring 0 with pending := [.transmitComplete, .lineBusy] }

theorem test_meets_the_invariants_of_modes :
    running.ClockSound ∧ running.ModeSound ∧ running.SpeakingSound ∧ running.FailuresSound ∧
      running.LineSettled ∧ running.OwnEntrySound := by
  unfold State.ClockSound State.ModeSound State.SpeakingSound State.FailuresSound
    State.LineSettled State.OwnEntrySound
  decide

theorem test_meets_the_invariants_of_errors : running.ErrorsSound := by
  unfold State.ErrorsSound
  decide

theorem test_meets_the_invariants_of_blocks :
    running.TableSound ∧ running.CounterSound ∧ running.AssignSound ∧ running.RingSound ∧
      running.QueueSound := by
  unfold State.TableSound RunRecord.Sound State.CounterSound State.AssignSound State.RingSound
    State.QueueSound
  decide

theorem test_meets_the_invariants_of_lists :
    running.ControlSound ∧ running.PeersSound ∧ running.ResetHeld := by
  refine ⟨⟨by decide, by decide, fun f h => ?_⟩, ?_, fun h => ?_⟩
  · simp [running, sends] at h
  · unfold State.PeersSound Peer.MissingSound
    decide
  · exact absurd h (by decide)

theorem test_meets_the_step :
    step running = .next (after .transmitComplete { running with pending := [.lineBusy] }) ∧
      resets .transmitComplete = false := ⟨rfl, rfl⟩

theorem test_meets_RunsOnlyMoveUpward :
    let s := withRuns running [onCourseFrom 4 7 1000] 1
    s.TableSound ∧ s.CounterSound ∧ onCourseFrom 4 7 1000 ∈ s.table.records := by
  unfold State.TableSound RunRecord.Sound State.CounterSound
  decide

theorem test_meets_FactsInAnyOrderGiveTheSameRun :
    [Fact.ruling 7 .void, .start 7 1000 false].Perm [.start 7 1000 false, .ruling 7 .void] := by
  decide

theorem test_meets_FramesReadBack :
    Frame.wellFormed ⟨header 0#8 0#8, .beacon (beacon 86400000#32 (some 999#16))⟩ = true ∧
      Frame.wellFormed ⟨header 15#8 255#8, .start ⟨999#16, 0xFFFFFFFF#32, 255#8⟩⟩ = true := by
  decide

end Sys2Proof.Tests
end

section
/-! PROOFS. The Run Table's records under a fact (R7 to R12), and what a RULING does to them (R12). -/

namespace Sys2Proof.Machine

/-! ### The record a settlement stores -/

/-- The record as `State.settle` stores it: with the state it reports and, where it had reported another
one before, CORRECTED (R19). -/
def RunRecord.stored (r : RunRecord) : RunRecord :=
  if r.state = .onCourse ∨ r.reported = some r.state then r
  else { r with reported := some r.state, corrected := r.corrected || r.reported.isSome }

/-- Storing touches what was reported and CORRECTED alone (R19). -/
@[simp] theorem RunRecord.stored_frame (r : RunRecord) :
    r.stored.run = r.run ∧ r.stored.start = r.start ∧ r.stored.splits = r.splits ∧
    r.stored.voided = r.voided ∧ r.stored.dnfed = r.dnfed ∧ r.stored.manualStart = r.manualStart ∧
    r.stored.learned = r.learned ∧ r.stored.stepped = r.stepped ∧
    r.stored.carriesStepped = r.carriesStepped ∧ r.stored.state = r.state := by
  unfold RunRecord.stored
  split <;> exact ⟨rfl, rfl, rfl, rfl, rfl, rfl, rfl, rfl, rfl, rfl⟩

/-- The records after a settlement (R19). -/
theorem State.settle_records (s : State) (r : RunRecord) :
    (s.settle r).table.records = replaceRecord r.stored s.table.records := by
  unfold RunRecord.stored
  split
  next hquiet => rw [s.settle_quiet r hquiet]; rfl
  next hdue =>
    obtain ⟨hstate, hreported⟩ := not_or.1 hdue
    cases hr : r.reported with
    | none => simp [s.settle_first r hstate hr, State.withRecords]
    | some old =>
      have hold : old ≠ r.state := fun h => hreported (by rw [hr, h])
      simp [s.settle_again r old hstate hr hold, State.withRecords]

/-! ### Finding a record -/

/-- No record is found for a run exactly where the table holds none. -/
theorem State.lookup_eq_none (s : State) (run : Nat) :
    s.lookup run = none ↔ ∀ y ∈ s.table.records, y.run ≠ run := by
  simp [State.lookup, List.find?_eq_none]

/-- In a sound table a run's record is the one found for it: no other record has its run (R1). -/
theorem State.lookup_of_mem {s : State} {r : RunRecord} (hs : s.TableSound)
    (hr : r ∈ s.table.records) : s.lookup r.run = some r := by
  obtain ⟨_, hsorted, _⟩ := hs
  rw [State.lookup, List.find?_eq_some_iff_append]
  obtain ⟨before, after, hl⟩ := List.append_of_mem hr
  refine ⟨by simp, before, after, hl, fun y hy => ?_⟩
  rw [hl, List.map_append, List.pairwise_append] at hsorted
  obtain ⟨_, _, hbefore⟩ := hsorted
  have hlt : y.run < r.run := hbefore _ (List.mem_map_of_mem hy) _ (by simp)
  simp [hlt.ne]

/-- Station 0's counter has no part in finding a record. -/
@[simp] theorem State.lookup_raiseCounter (s : State) (n run : Nat) :
    (s.raiseCounter n).lookup run = s.lookup run := by
  simp [State.lookup]

/-! ### Admission -/

/-- Admission finds a run the table holds, and changes nothing (R7). -/
theorem State.enrol_known {s : State} {run : Nat} {r : RunRecord} (h : s.lookup run = some r)
    (learned : Bool) : s.enrol run learned = (s, true) := by
  simp [State.enrol, h]

/-- The new record joins the records. -/
@[simp] theorem State.create_records (s : State) (run : Nat) (learned : Bool) :
    (s.create run learned).table.records =
      insertRecord (newRecord s.gates run learned) s.table.records := rfl

/-- An eviction takes the run's records out. -/
@[simp] theorem State.evict_records (s : State) (run : Nat) :
    (s.evict run).table.records = s.table.records.filter (fun r => r.run != run) := rfl

/-- A new record names its run, is LEARNED as its maker says, and holds no fact yet (R7). -/
@[simp] theorem newRecord_frame (gates run : Nat) (learned : Bool) :
    (newRecord gates run learned).run = run ∧ (newRecord gates run learned).learned = learned ∧
    (newRecord gates run learned).start = none ∧
    (newRecord gates run learned).splits = List.replicate (gates - 1) none ∧
    (newRecord gates run learned).voided = false ∧ (newRecord gates run learned).dnfed = false :=
  ⟨rfl, rfl, rfl, rfl, rfl, rfl⟩

/-- Admission of a run the table does not hold: it gives no record and the records stay, or a new record
joins those that are kept (R7, R8). -/
theorem State.enrol_absent {s : State} {run : Nat} (h : s.lookup run = none) (learned : Bool) :
    ((s.enrol run learned).2 = false ∧ (s.enrol run learned).1.table.records = s.table.records) ∨
      ((s.enrol run learned).2 = true ∧ ∃ kept ⊆ s.table.records,
        (s.enrol run learned).1.table.records = insertRecord (newRecord s.gates run learned) kept) := by
  unfold State.enrol
  rw [if_neg (by simp [h])]
  split
  · -- at or below the floor
    exact .inl ⟨rfl, rfl⟩
  split
  · -- room in the table
    exact .inr ⟨rfl, s.table.records, List.Subset.refl _, rfl⟩
  split
  · -- the settled record of the lowest run is evicted
    exact .inr ⟨rfl, _, List.filter_subset_self _, rfl⟩
  split
  · -- station 0 drops the run
    exact .inl ⟨rfl, by simp⟩
  split
  next low _ =>
    split
    · -- the run lies below every record
      exact .inl ⟨rfl, by simp⟩
    · -- the lowest record is dropped
      exact .inr ⟨rfl, s.table.records.filter (fun r => r.run != low.run),
        List.filter_subset_self _, by simp⟩
  next => exact .inl ⟨rfl, rfl⟩

/-! ### The records after a fact -/

/-- The records after a fact on a run the table holds: its record takes the fact (R7, R10 to R12). -/
theorem State.takeFact_records_known {s : State} {f : Fact} {r : RunRecord}
    (h : s.lookup f.run = some r) :
    (s.takeFact f).1.table.records = replaceRecord (r.take f).stored s.table.records := by
  have hfound : (s.raiseCounter f.run).lookup f.run = some r := by simp [h]
  unfold State.takeFact
  simp [State.enrol_known hfound, h, State.settle_records]

/-- The records after a fact on a run the table does not hold: they stay, or a new record that has taken
the fact joins those that are kept (R7, R8, R10 to R12). -/
theorem State.takeFact_records_absent {s : State} {f : Fact} (h : s.lookup f.run = none) :
    (s.takeFact f).1.table.records = s.table.records ∨
      ∃ kept ⊆ s.table.records, (s.takeFact f).1.table.records =
        insertRecord ((newRecord s.gates f.run f.learns).take f).stored kept := by
  have habsent : (s.raiseCounter f.run).lookup f.run = none := by simp [h]
  rcases State.enrol_absent habsent f.learns with ⟨hno, hrec⟩ | ⟨hyes, kept, hkept, hrec⟩
  · left
    simpa [State.takeFact, hno] using hrec
  · right
    simp only [State.raiseCounter_frame] at hkept hrec
    have hnew : ∀ x ∈ kept, x.run ≠ (newRecord s.gates f.run f.learns).run :=
      fun x hx => (s.lookup_eq_none f.run).1 h x (hkept hx)
    have hfind : ((s.raiseCounter f.run).enrol f.run f.learns).1.lookup f.run =
        some (newRecord s.gates f.run f.learns) := by
      rw [State.lookup, hrec]
      exact find_insertRecord _ kept hnew
    refine ⟨kept, hkept, ?_⟩
    simp only [State.takeFact, hyes, hfind, if_true, State.settle_records, hrec]
    exact replaceRecord_inserted _ _ (by simp) kept hnew

/-- Replacing a record of the list puts the new one in. -/
theorem mem_replaceRecord_self {r x : RunRecord} {l : List RunRecord} (hx : x ∈ l)
    (h : x.run = r.run) : r ∈ replaceRecord r l :=
  List.mem_map.2 ⟨x, hx, if_pos h⟩

/-- Where the table has room, a run above the floor that it does not hold has a record after a fact that
names it (R7). -/
theorem State.takeFact_makes_record {s : State} {f : Fact} (h : s.lookup f.run = none)
    (hfloor : s.table.floor < f.run) (hroom : s.table.records.length < 48) :
    ∃ x ∈ (s.takeFact f).1.table.records, x.run = f.run := by
  rw [s.takeFact_new f h hfloor hroom, State.settle_records]
  exact ⟨_, mem_replaceRecord_self ((mem_insertRecord _ _ _).2 (.inl rfl)) (by simp),
    by simp⟩

/-! ### Rulings -/

/-- A ruling joins the rulings set, and the rest of the record stays (R12). -/
@[simp] theorem RunRecord.takeRuling_frame (r : RunRecord) (v : Verdict) :
    (r.takeRuling v).run = r.run ∧ (r.takeRuling v).voided = (r.voided || decide (v = .void)) ∧
    (r.takeRuling v).dnfed = (r.dnfed || decide (v = .dnf)) ∧ (r.takeRuling v).start = r.start ∧
    (r.takeRuling v).splits = r.splits ∧ (r.takeRuling v).manualStart = r.manualStart ∧
    (r.takeRuling v).learned = r.learned ∧ (r.takeRuling v).stepped = r.stepped ∧
    (r.takeRuling v).carriesStepped = r.carriesStepped ∧ (r.takeRuling v).finish = r.finish := by
  cases v <;> simp [RunRecord.takeRuling, RunRecord.finish]

/-- The state a single ruling gives (R3, R12). -/
def Verdict.state : Verdict → RunState
  | .void => .void
  | .dnf => .dnf

/-- A new record that takes a ruling has the state of that ruling (R12). -/
@[simp] theorem newRecord_takeRuling_state (gates run : Nat) (learned : Bool) (v : Verdict) :
    ((newRecord gates run learned).takeRuling v).state = v.state := by
  simp only [RunRecord.state, RunRecord.takeRuling_frame, newRecord_finish]
  cases v <;> rfl

/-- Settles O45: the record found takes the verdict, and one that is made is a new LEARNED record with the
verdict alone. -/
theorem aRulingJoinsTheRulings : Obligations.ARulingJoinsTheRulings := by
  intro s run v r hs
  refine ⟨fun hr hrun => ?_, fun hnew hfloor hroom => ?_, fun hnew x hx hrun => ?_⟩
  · subst hrun
    have hfound : s.lookup (Fact.ruling r.run v).run = some r := State.lookup_of_mem hs hr
    rw [State.takeFact_records_known hfound]
    exact ⟨_, mem_replaceRecord_self hr (by simp), by simp [RunRecord.take]⟩
  · exact State.takeFact_makes_record (f := .ruling run v) ((s.lookup_eq_none run).2 hnew) hfloor hroom
  · have habsent : s.lookup (Fact.ruling run v).run = none := (s.lookup_eq_none run).2 hnew
    rcases State.takeFact_records_absent habsent with hsame | ⟨kept, hkept, hmade⟩
    · exact absurd hrun (hnew x (hsame ▸ hx))
    · rw [hmade, mem_insertRecord] at hx
      rcases hx with rfl | hold
      · cases v <;> simp [RunRecord.take, Fact.learns, Verdict.state]
      · exact absurd hrun (hnew x (hkept hold))

end Sys2Proof.Machine
end

section
/-! PROOFS. The four indicators (R182): what lights each, what a session change darkens, and the last
PRESENT peer that falls SILENT. -/

namespace Sys2Proof.Machine

/-! ### What lights each indicator -/

/-- RUN's condition, any on course, in terms of the records' states (R4). -/
theorem State.anyOnCourse_iff (s : State) :
    s.anyOnCourse = true ↔ ∃ r ∈ s.table.records, r.state = .onCourse := by
  simp [State.anyOnCourse, RunRecord.settled]

/-- There is a lowest pending code exactly while one is pending (R156). -/
theorem ErrorSet.lowest_isSome_iff (e : ErrorSet) :
    e.lowest.isSome = true ↔ ∃ c ∈ ErrorCode.all, e.has c = true :=
  List.find?_isSome

/-- SYNC is lit in ACTIVE and CLOSED while a peer is PRESENT (R182). -/
theorem State.syncLit_iff (s : State) :
    s.syncLit = true ↔
      (s.station.state = .active ∨ s.station.state = .closed) ∧
        ∃ x ∈ s.receiver.peers, x.presence = .present := by
  simp [State.syncLit]

/-- RUN is lit out of RESET while a run is on course (R182). -/
theorem State.runLit_iff (s : State) :
    s.runLit = true ↔ s.running = true ∧ ∃ r ∈ s.table.records, r.state = .onCourse := by
  simp only [State.runLit, Bool.and_eq_true, s.anyOnCourse_iff]

/-- HELD is lit out of RESET while HELD is set (R182). -/
theorem State.heldLit_iff (s : State) :
    s.heldLit = true ↔ s.running = true ∧ s.assign.held = true := by
  simp only [State.heldLit, Bool.and_eq_true]

/-- ERR is lit out of RESET while an error is pending (R182). -/
theorem State.errLit_iff (s : State) :
    s.errLit = true ↔
      s.running = true ∧ ∃ c ∈ ErrorCode.all, s.station.errors.has c = true := by
  simp only [State.errLit, Bool.and_eq_true, ErrorSet.lowest_isSome_iff]

/-! ### What darkens them -/

/-- SYNC is dark in every state but ACTIVE and CLOSED (R182). -/
theorem State.syncLit_dark {s : State} (ha : s.station.state ≠ .active)
    (hc : s.station.state ≠ .closed) : s.syncLit = false :=
  Bool.eq_false_iff.2 fun h => ((s.syncLit_iff.1 h).1).elim ha hc

/-- SYNC is dark while no peer is PRESENT (R182). -/
theorem State.syncLit_dark_alone {s : State}
    (h : ∀ x ∈ s.receiver.peers, x.presence ≠ .present) : s.syncLit = false :=
  Bool.eq_false_iff.2 fun hl =>
    have ⟨_, x, hx, hpresent⟩ := s.syncLit_iff.1 hl
    h x hx hpresent

/-- RUN is dark over an empty Run Table (R182). -/
theorem State.runLit_dark {s : State} (h : s.table.records = []) : s.runLit = false :=
  Bool.eq_false_iff.2 fun hl => by simpa [h] using s.runLit_iff.1 hl

/-- HELD is dark while HELD is clear (R182). -/
theorem State.heldLit_dark {s : State} (h : s.assign.held = false) : s.heldLit = false := by
  simp [State.heldLit, h]

/-- RESET is the one state in which the station is not running. -/
theorem State.running_eq_false_iff (s : State) :
    s.running = false ↔ s.station.state = .reset := by
  simp [State.running]

/-- In RESET all four are dark (R182). -/
theorem State.indicators_dark_in_reset {s : State} (h : s.running = false) :
    s.syncLit = false ∧ s.runLit = false ∧ s.heldLit = false ∧ s.errLit = false := by
  have hreset : s.station.state = .reset := s.running_eq_false_iff.1 h
  refine ⟨State.syncLit_dark (by simp [hreset]) (by simp [hreset]), ?_, ?_, ?_⟩
  · simp [State.runLit, h]
  · simp [State.heldLit, h]
  · simp [State.errLit, h]

/-- In CONFIG FAULT E03 lights ERR; the table is empty, HELD is clear, and SYNC is for ACTIVE and CLOSED
(R5, R147, R182). -/
theorem State.indicators_in_configFault {s : State} (h : s.station.state = .configFault)
    (he : s.ErrorsSound) (ht : s.TableSound) (ha : s.AssignSound) :
    s.errLit = true ∧ s.syncLit = false ∧ s.runLit = false ∧ s.heldLit = false := by
  have hoff : s.onCourse = false := by simp [State.onCourse, h]
  obtain ⟨he03, _⟩ := he
  obtain ⟨_, _, _, _, hempty⟩ := ht
  obtain ⟨_, _, _, _, hheld, _⟩ := ha
  have hclear : s.assign.held = false :=
    Bool.eq_false_iff.2 fun hset => by simpa [hoff] using (hheld hset).2
  refine ⟨s.errLit_iff.2 ⟨by simp [State.running, h], .e03, by decide, he03.2 h⟩,
    State.syncLit_dark (by simp [h]) (by simp [h]), State.runLit_dark (hempty hoff).1,
    State.heldLit_dark hclear⟩

/-! ### The session change -/

/-- A session change leaves no record (R90). -/
@[simp] theorem State.changeSession_records (s : State) (peer : Nat) :
    (s.changeSession peer).table.records = [] := by
  simp [State.changeSession, State.clearTable]

/-- A session change clears HELD (R90). -/
@[simp] theorem State.changeSession_held (s : State) (peer : Nat) :
    (s.changeSession peer).assign.held = false := by
  simp [State.changeSession, State.clearAssign]

/-! ### The last PRESENT peer -/

/-- PEER_SILENT, at the end of the peer's silence timer (R111). -/
theorem exec_peerSilent_due {s : State} {p : Fin 16} (h : s.silenceDue (s.peer p.val) = true) :
    exec (.peerSilent p) s = .next (s.withPeer p.val (s.peer p.val).fallSilent) :=
  congrArg Host.Outcome.next (if_pos h)

/-- An entry of the Peer Table after one was written is the one written, or another peer's (R108). -/
theorem State.mem_peers_withPeer {s : State} {p : Nat} {x y : Peer}
    (hy : y ∈ (s.withPeer p x).receiver.peers) :
    y = x ∨ ∃ i < s.receiver.peers.length, i ≠ p ∧ y = s.peer i := by
  obtain ⟨i, hi, rfl⟩ := List.mem_iff_getElem.1 hy
  have hlen : i < s.receiver.peers.length := by simpa [State.withPeer] using hi
  by_cases hip : i = p
  · left
    simp [State.withPeer, hip]
  · right
    exact ⟨i, hlen, hip, by simp [State.withPeer, State.peer, hlen, Ne.symm hip]⟩

/-- With the last PRESENT peer gone SILENT none is PRESENT (R111). -/
theorem State.none_present_of_last_silent {s : State} {p : Nat}
    (hothers : ∀ i < s.receiver.peers.length, i ≠ p → (s.peer i).presence ≠ .present) :
    ∀ x ∈ (s.withPeer p (s.peer p).fallSilent).receiver.peers, x.presence ≠ .present := by
  intro x hx
  rcases State.mem_peers_withPeer hx with rfl | ⟨i, hi, hip, rfl⟩
  · exact nofun
  · exact hothers i hi hip

/-- Settles O48: each indicator by its own condition, and SYNC by the Peer Table after the last PRESENT
peer fell SILENT. -/
theorem theIndicatorsFollowTheirConditions : Obligations.TheIndicatorsFollowTheirConditions := by
  intro s peer p
  refine ⟨s.syncLit_iff, fun hrun => ⟨?_, ?_, ?_⟩, State.indicators_dark_in_reset,
    State.indicators_in_configFault, ⟨?_, ?_⟩, fun hlen hdue hothers => ?_⟩
  · simp [s.runLit_iff, hrun]
  · simp [s.heldLit_iff, hrun]
  · simp [s.errLit_iff, hrun]
  · exact State.runLit_dark (s.changeSession_records peer)
  · exact State.heldLit_dark (s.changeSession_held peer)
  · exact ⟨_, exec_peerSilent_due hdue,
      State.syncLit_dark_alone (State.none_present_of_last_silent (by rwa [hlen]))⟩

end Sys2Proof.Machine
end

section
/-! PROOFS. What any command can do, said once: the single acts that the commands are made of, and for each
shared operation and each command that it is a sequence of them. The invariants are then proved act by act. -/

namespace Sys2Proof.Machine

/-! ### The acts -/

/-- Two states that agree on all that the invariants of Sys2Proof/Safety.lean read. -/
structure State.Alike (s t : State) : Prop where
  clock : t.clock = s.clock
  table : t.table = s.table
  entries : t.assign.entries = s.assign.entries
  held : t.assign.held = s.assign.held
  boundary : t.assign.boundary = s.assign.boundary
  epoch : t.epoch = s.epoch
  ring : t.outbox.ring = s.outbox.ring
  nextSeq : t.outbox.nextSeq = s.outbox.nextSeq
  first : t.outbox.firstBeaconSent = s.outbox.firstBeaconSent
  control : t.outbox.control = s.outbox.control
  due : t.outbox.beaconDue = s.outbox.beaconDue
  timer : t.outbox.beaconTimer = s.outbox.beaconTimer
  peers : t.receiver.peers = s.receiver.peers
  tx : t.line.tx = s.line.tx
  results : t.results = s.results
  state : t.station.state = s.station.state
  straps : t.station.straps = s.station.straps
  errors : t.station.errors = s.station.errors
  closedSpeaking : t.station.closedSpeaking = s.station.closedSpeaking

/-- The codes that no station state depends on: E04 to E09 and E11 (R155). -/
def ErrorCode.ordinary (c : ErrorCode) : Bool := c.acknowledged || c == .e11

/-- The run number is one that a frame can name, or one of the table's (R6). -/
def State.Names (s : State) (run : Nat) : Prop :=
  run ≤ Config.maxRun ∨ ∃ r ∈ s.table.records, r.run = run

/-- A peer's entry as the Peer Table keeps it (R108, R111, R115). -/
def Peer.Sound (p : Peer) : Prop :=
  p.MissingSound ∧ (p.silenceEnd ≠ none ↔ p.presence = .present)

/-- One act of a running station: a change that commands are made of, with what is known where it happens.
`crossing` says whether a crossing may join the Pending Crossing List (R61, R62). -/
inductive Act (crossing : Bool) (s : State) : State → Prop
  | unseen {t : State} (h : s.Alike t) : Act crossing s t
  | clock (c : Clock) (hle : s.clock.courseTime ≤ c.courseTime)
      (hlimit : s.clock.courseTime ≤ Config.timeLimit → c.courseTime ≤ Config.timeLimit)
      (hphase : c.phase < Config.periodsPerMs)
      (hstop : c.stopTicks ≠ s.clock.stopTicks → Config.timeLimit ≤ c.courseTime) :
      Act crossing s { s with clock := c }
  | append (c : ResultContents) : Act crossing s (s.append c)
  | removeOldest :
      Act crossing s { s with results := { s.results with records := s.results.records.drop 1, lost := 0 } }
  | raise (c : ErrorCode) (h : c.ordinary = true) : Act crossing s (s.raise c)
  | clearError (c : ErrorCode) (h : c.ordinary = true) : Act crossing s (s.clearError c)
  | silence (c : ErrorCode) (hc : c = .e01 ∨ c = .e02)
      (h : s.receives = true ∨ s.line.tx ≠ .off) : Act crossing s (s.raise c).silence
  | closeAtLimit : Act crossing s s.closeAtLimit
  | enterActive (h : s.station.state = .listening) (he : s.epoch ≠ 0#16) :
      Act crossing s s.decideHeld.becomeActive.closeAtLimit
  | nextRun (n : Nat) (h0 : s.number = 0) (hle : s.table.nextRun ≤ n)
      (hn : n ≤ Config.maxRun + 1 ∨ ∃ r ∈ s.table.records, n = r.run + 1) : Act crossing s (s.withNextRun n)
  | create (run : Nat) (learned : Bool) (h : s.lookup run = none) (hfloor : s.table.floor < run)
      (hmax : run ≤ Config.maxRun) (hroom : s.table.records.length < Config.tableCapacity)
      (hcourse : s.onCourse = true) (hcounter : s.number = 0 → run < s.table.nextRun) :
      Act crossing s (s.create run learned)
  | evictCreate (r : RunRecord) (run : Nat) (learned : Bool) (hr : r ∈ s.table.records)
      (h : s.lookup run = none) (hfloor : s.table.floor < run) (hmax : run ≤ Config.maxRun)
      (hcourse : s.onCourse = true) (hcounter : s.number = 0 → run < s.table.nextRun) :
      Act crossing s ((s.evict r.run).create run learned)
  | raiseFloor (run : Nat) (hmax : run ≤ Config.maxRun) (h : s.lookup run = none)
      (hcourse : s.onCourse = true) (hcounter : s.number = 0 → run < s.table.nextRun) :
      Act crossing s (s.raiseFloor run)
  | store (r : RunRecord) (f : Fact) (h : s.lookup r.run = some r) :
      Act crossing s (s.withRecords (replaceRecord (r.take f).stored s.table.records))
  | markStepped : Act crossing s s.markStepped
  | newEpoch (e : Word16) (h : s.epoch < e) (hcourse : s.onCourse = true) :
      Act crossing s (s.withEpoch e).clearTable.clearAssign
  | raiseEpoch (e : Word16) (h : s.epoch ≤ e) (hl : s.station.state = .listening) :
      Act crossing s (s.withEpoch e)
  | mark (e : Word16) (n : Nat) (h : n ≤ Config.maxRun ∨ n ≤ s.table.markRun) :
      Act crossing s { s with table := { s.table with markEpoch := e, markRun := n } }
  | setCounter (founded : Bool) (h : s.station.state = .listening) : Act crossing s (s.setCounter founded)
  | place {t : State} (e : Word16) (p : Payload) (hp : p.sequenced = true) (h : s.place e p = some t) :
      Act crossing s t
  | addControl (e : ControlEntry)
      (h : ∀ f, e = .copy f → ∃ x ∈ s.outbox.ring, x.frame = f) : Act crossing s (s.addControl e)
  | dropRepeats (test : Byte → Byte → Bool) : Act crossing s (s.dropRepeats test)
  | beaconTimerEnd (h : s.outbox.beaconTimer ≠ none) : Act crossing s s.endBeaconTimer
  | beaconAgain (h : s.line.tx ≠ .off) : Act crossing s { s with outbox := { s.outbox with beaconDue := true } }
  | line (l : LineUnit) (hoff : l.tx = .off ↔ s.line.tx = .off)
      (hsending : ∀ source frame n, l.tx = .sending source frame n →
        ∃ m, s.line.tx = .sending source frame m) : Act crossing s (s.withLine l)
  | startSending (source : TxSource) (frame : Frame) (l : LineUnit) (due : Bool)
      (h : s.chooseFrame = some (source, frame)) (hl : l.tx = .sending source frame 0)
      (hoff : s.line.tx ≠ .off) (hdue : due = true → s.outbox.beaconDue = true) :
      Act crossing s { s with line := l, outbox := { s.outbox with beaconDue := due } }
  | frameSent (source : TxSource) (frame : Frame) (h : s.sending = false) :
      Act crossing s { s with outbox := s.outbox.frameSent source frame }
  | peers (l : List Peer) (hlen : l.length = s.receiver.peers.length)
      (hsound : ∀ i, (s.peer i).Sound → (l.getD i Peer.reset).Sound)
      (hown : s.peer s.number = Peer.reset → l.getD s.number Peer.reset = Peer.reset) :
      Act crossing s { s with receiver := { s.receiver with peers := l } }
  | entries (l : List PendingEntry) (h : l.Sublist s.assign.entries) : Act crossing s (s.withEntries l)
  | hold (b : Nat) (ha : s.isAssigner = true) (hc : s.onCourse = true) :
      Act crossing s { s with assign := { s.assign with entries := [], held := true, boundary := b } }
  | boundary (b : Nat) (h : s.assign.held = true) :
      Act crossing s { s with assign := { s.assign with boundary := b } }
  | releaseHeld : Act crossing s { s with assign := { s.assign with held := false, boundary := 0 } }
  | insertEntry (e : PendingEntry) (kept : List PendingEntry) (hx : crossing = true)
      (hactive : s.isActive = true) (hassigner : s.isAssigner = true) (hheld : s.assign.held = false)
      (hkept : kept.Sublist s.assign.entries) (hlen : kept.length < Config.pendingCapacity)
      (he : e.deadline = e.time + Config.pendingWait) : Act crossing s (s.withEntries (insertEntry e kept))
  | clearJoining (l : List PendingEntry) (hx : crossing = true) (h : l.Sublist s.assign.entries) :
      Act crossing s (s.withEntries (l.map (fun e => { e with joining := false })))

/-- Several acts, one after the other. -/
def Moves (crossing : Bool) : State → State → Prop := Relation.ReflTransGen (Act crossing)

section
variable {x : Bool}

/-- No act at all. -/
theorem Moves.refl (s : State) : Moves x s s := Relation.ReflTransGen.refl

/-- Acts after acts. -/
theorem Moves.trans {s t u : State} (h : Moves x s t) (h' : Moves x t u) : Moves x s u :=
  Relation.ReflTransGen.trans h h'

/-- One act. -/
theorem Act.moves {s t : State} (h : Act x s t) : Moves x s t := Relation.ReflTransGen.single h

/-- One act after others. -/
theorem Moves.act {s t u : State} (h : Moves x s t) (h' : Act x t u) : Moves x s u :=
  Relation.ReflTransGen.tail h h'

/-- A change that no invariant reads. -/
theorem State.Alike.moves {s t : State} (h : s.Alike t) : Moves x s t := (Act.unseen h).moves

/-! ### Results, tones and errors -/

/-- A tone request is seen by no invariant. -/
theorem State.requestTone_moves (s : State) (p : Pattern) : Moves x s (s.requestTone p) :=
  State.Alike.moves (by constructor <;> simp)

/-- A STRAY result is an append. -/
theorem State.stray_moves (s : State) (reason : StrayReason) (time : Nat) (manual : Bool) :
    Moves x s (s.stray reason time manual) := (Act.append _).moves

/-- STRAY results are appends. -/
theorem State.strays_moves (s : State) (reason : StrayReason) (l : List PendingEntry) :
    Moves x s (s.strays reason l) := by
  induction l generalizing s with
  | nil => exact Moves.refl s
  | cons e es ih => exact (s.stray_moves reason e.time e.manual).trans (ih _)

/-- An ordinary code is raised. -/
theorem State.raise_moves (s : State) {c : ErrorCode} (h : c.ordinary = true) : Moves x s (s.raise c) :=
  (Act.raise c h).moves

/-- The RESULT hold and the DOUBLE are seen by no invariant. -/
theorem State.handFinished_moves (s : State) (r : RunRecord) : Moves x s (s.handFinished r) := by
  refine State.Alike.moves ?_
  constructor <;> simp

/-- The RUN NUMBER hold is seen by no invariant. -/
theorem State.holdRunNumber_moves (s : State) (run : Nat) : Moves x s (s.holdRunNumber run) :=
  State.Alike.moves (by constructor <;> simp)

/-! ### Facts -/

/-- A settlement stores the record, appends the result due, and hands a finish to the panel (R19). -/
theorem State.settle_moves (s : State) (r : RunRecord) (f : Fact) (h : s.lookup r.run = some r) :
    Moves x s (s.settle (r.take f)) := by
  have hstore : Moves x s (s.withRecords (replaceRecord (r.take f).stored s.table.records)) :=
    (Act.store r f h).moves
  unfold RunRecord.stored at hstore
  split at hstore
  next hquiet => rwa [s.settle_quiet _ hquiet]
  next hdue =>
    obtain ⟨hstate, hreported⟩ := not_or.1 hdue
    cases hr : (r.take f).reported with
    | none =>
      rw [s.settle_first _ hstate hr]
      simp only [hr, Option.isSome_none, Bool.or_false] at hstore
      exact (hstore.act (Act.append _)).trans (State.handFinished_moves _ _)
    | some old =>
      rw [s.settle_again _ old hstate hr (fun ho => hreported (by rw [hr, ho]))]
      simp only [hr, Option.isSome_some, Bool.or_true] at hstore
      exact (hstore.act (Act.append _)).trans (State.handFinished_moves _ _)

/-- The counter follows a fact (R15). -/
theorem State.raiseCounter_moves (s : State) {run : Nat} (h : s.Names run) :
    Moves x s (s.raiseCounter run) := by
  unfold State.raiseCounter
  split
  next hc =>
    refine (Act.nextRun (run + 1) hc.1 (by omega) ?_).moves
    rcases h with h | ⟨r, hr, rfl⟩
    · exact .inl (by omega)
    · exact .inr ⟨r, hr, rfl⟩
  next => exact Moves.refl s

/-- Admission of a run that has no record, once the counter lies above it: a new record, in a table with
room or in the place of an evicted one, or a dropped run, or nothing (R7, R8). -/
theorem State.enrol_moves (s : State) {run : Nat} (learned : Bool)
    (hmax : s.lookup run = none → run ≤ Config.maxRun) (hcourse : s.onCourse = true)
    (hcounter : s.lookup run = none → s.number = 0 → run < s.table.nextRun) :
    Moves x s (s.enrol run learned).1 := by
  unfold State.enrol
  split
  · -- the run is known
    exact Moves.refl s
  next habsent =>
  have habsent : s.lookup run = none := by simpa using habsent
  have hmax := hmax habsent
  have hcounter := hcounter habsent
  have hdrop : Moves x s (s.dropNamed run) := by
    refine (Act.append _).moves.act (Act.raiseFloor run hmax ?_ (by simpa) (by simpa))
    simpa [State.lookup] using habsent
  split
  · -- at or below the floor
    exact Moves.refl s
  next hfloor =>
  split
  next hroom => exact (Act.create run learned habsent (by omega) hmax hroom hcourse hcounter).moves
  split
  next r hr =>
    exact (Act.evictCreate r run learned (List.mem_of_find?_eq_some hr) habsent (by omega) hmax hcourse
      hcounter).moves
  split
  · exact hdrop
  split
  next low hlow =>
    split
    · exact hdrop
    · refine (Act.append _).moves.act (Act.evictCreate low run learned ?_ ?_ ?_ hmax ?_ ?_)
      · simpa using List.mem_of_head? hlow
      · simpa [State.lookup] using habsent
      · simpa using hfloor
      · simpa using hcourse
      · simpa using hcounter
  next => exact Moves.refl s

/-- A fact that names a run is taken (R7 to R12, R15, R19). -/
theorem State.takeFact_moves (s : State) (f : Fact) (hcourse : s.onCourse = true)
    (hnames : s.Names f.run) : Moves x s (s.takeFact f).1 := by
  have hcount : Moves x s (s.raiseCounter f.run) := s.raiseCounter_moves hnames
  have henrol : Moves x s ((s.raiseCounter f.run).enrol f.run f.learns).1 := by
    refine hcount.trans (State.enrol_moves _ _ (fun h => ?_) (by simpa) (fun _ h0 => ?_))
    · rcases hnames with hmax | ⟨r, hr, hrun⟩
      · exact hmax
      · exact absurd hrun ((s.lookup_eq_none f.run).1 (by simpa using h) r hr)
    · unfold State.raiseCounter
      split <;> simp_all [State.withNextRun]
  unfold State.takeFact
  simp only
  split
  · split
    next r hr =>
      have hrun : r.run = f.run := by simpa using List.find?_some hr
      exact henrol.trans (State.settle_moves _ r f (hrun ▸ hr))
    next => exact henrol
  · exact henrol

/-! ### The start rule and the matching walk -/

/-- A start is issued, or refused with a STRAY and its code (R16, R17). -/
theorem State.startRule_moves (s : State) (time : Nat) (manual : Bool) (h0 : s.number = 0)
    (hcourse : s.onCourse = true) : Moves x s (s.startRule time manual) := by
  unfold State.startRule
  split
  · exact (s.stray_moves ..).trans (State.raise_moves _ rfl)
  next hlimit =>
  split
  · exact (s.stray_moves ..).trans (State.raise_moves _ rfl)
  split
  · exact (s.stray_moves ..).trans (State.raise_moves _ rfl)
  next s1 hplace =>
    have hframe := State.place_frame hplace
    have hplaced : Moves x s s1 := (Act.place s.epoch (startPayload s.table.nextRun time manual) rfl hplace).moves
    have hissued : Moves x s1 (s1.withNextRun (s.table.nextRun + 1)) := by
      refine (Act.nextRun _ (by simp [hframe, h0]) (by simp [hframe]) (.inl ?_)).moves
      omega
    refine ((hplaced.trans hissued).trans (State.takeFact_moves _ _ ?_ (.inl ?_))).trans
      (.trans (State.holdRunNumber_moves _ _) (State.requestTone_moves _ _))
    · simpa [hframe] using hcourse
    · simpa [Fact.run] using hlimit

/-- A crossing is matched to a run of the table, or becomes STRAY OUTBOX FULL (R65, R66). -/
theorem State.makeCross_moves (s : State) (e : PendingEntry) (r : RunRecord)
    (hr : r ∈ s.table.records) (hcourse : s.onCourse = true) : Moves x s (s.makeCross e r) := by
  unfold State.makeCross
  split
  · exact (s.stray_moves ..).trans (State.raise_moves _ rfl)
  next s1 hplace =>
    have hframe := State.place_frame hplace
    have hfact : Moves x s (s1.takeFact (.cross r.run s.number e.time r.start e.manual (!e.joining)
        r.carriesStepped)).1 :=
      (Act.place s.epoch (crossPayload s.number e r) rfl hplace).moves.trans
        (State.takeFact_moves _ _ (by simpa [hframe] using hcourse)
          (.inr ⟨r, by simpa [hframe] using hr, rfl⟩))
    have hheld := hfact.trans (State.holdRunNumber_moves _ r.run)
    dsimp only
    split
    · exact hheld
    · exact hheld.trans (State.requestTone_moves _ _)

/-- The walk over entries makes a CROSS for each it matches (R64). -/
theorem State.walkEntries_moves (s : State) (l : List PendingEntry) (hcourse : s.onCourse = true) :
    Moves x s (s.walkEntries l).1 := by
  induction l generalizing s with
  | nil => exact Moves.refl s
  | cons e es ih =>
    unfold State.walkEntries
    split
    · exact ih s hcourse
    next r hr =>
      exact (s.makeCross_moves e r (List.mem_of_find?_eq_some hr) hcourse).trans
        (ih _ (by simpa using hcourse))

/-- The entries that stay after a walk are among those walked, in their order (R64). -/
theorem State.walkEntries_sublist (s : State) (l : List PendingEntry) :
    (s.walkEntries l).2.Sublist l := by
  induction l generalizing s with
  | nil => exact List.Sublist.refl _
  | cons e es ih =>
    unfold State.walkEntries
    split
    · exact (ih s).cons_cons e
    · exact (ih _).cons e

/-- An ACTIVE station is on course. -/
theorem State.onCourse_of_isActive {s : State} (h : s.isActive = true) : s.onCourse = true := by
  have : s.station.state = .active := by simpa [State.isActive] using h
  simp [State.onCourse, this]

/-- A matching walk (R64 to R67). -/
theorem State.walk_moves (s : State) : Moves x s s.walk := by
  unfold State.walk
  split
  next h =>
    refine (s.walkEntries_moves s.assign.entries (State.onCourse_of_isActive h.2)).act
      (Act.entries _ ?_)
    simpa using s.walkEntries_sublist s.assign.entries
  next => exact Moves.refl s

/-- A fact and the walk on its notice (R26, R67). -/
theorem State.takeFactAndWalk_moves (s : State) (f : Fact) (hcourse : s.onCourse = true)
    (hnames : s.Names f.run) : Moves x s (s.takeFactAndWalk f) := by
  unfold State.takeFactAndWalk
  dsimp only
  split
  · exact (s.takeFact_moves f hcourse hnames).trans (State.walk_moves _)
  · exact s.takeFact_moves f hcourse hnames

end

end Sys2Proof.Machine
end

section
/-! PROOFS. The acts of the Peer Table, of course time and of a received frame. -/

namespace Sys2Proof.Machine

section
variable {x : Bool}

/-! ### Missing Lists -/

/-- The entry read after one was written: the one written, where the table has it, or the one before. -/
theorem State.peer_withPeer_eq (s : State) (p i : Nat) (y : Peer) :
    (s.withPeer p y).peer i = if i = p ∧ p < s.receiver.peers.length then y else s.peer i := by
  unfold State.peer State.withPeer
  by_cases hip : i = p
  · subst hip
    by_cases hlen : i < s.receiver.peers.length <;> simp [hlen]
  · simp [hip, List.getD_eq_getElem?_getD, List.getElem?_set_ne (Ne.symm hip)]

/-- Writing a peer's entry is an act where the entry stays sound and the station's own entry at reset. -/
theorem State.withPeer_moves (s : State) {p : Nat} {y : Peer} (hsound : (s.peer p).Sound → y.Sound)
    (hown : p = s.number → s.peer p = Peer.reset → y = Peer.reset) : Moves x s (s.withPeer p y) := by
  refine (Act.peers _ (by simp) (fun i hi => ?_) (fun hreset => ?_)).moves
  · have h := s.peer_withPeer_eq p i y
    unfold State.peer State.withPeer at h
    rw [h]
    split
    next hip => exact hsound (hip.1 ▸ hi)
    next => exact hi
  · have h := s.peer_withPeer_eq p s.number y
    unfold State.peer State.withPeer at h
    rw [h]
    split
    next hip => exact hown hip.1.symm (hip.1 ▸ hreset)
    next => exact hreset

/-- An entry whose Missing List alone changes. -/
theorem State.withMissing_moves (s : State) {p : Nat} {l : List MissingEntry}
    (hsound : (s.peer p).MissingSound → Peer.MissingSound { s.peer p with missing := l })
    (hown : p = s.number → (s.peer p).missing = [] → l = []) : Moves x s (s.withMissing p l) := by
  refine s.withPeer_moves (fun h => ⟨hsound h.1, h.2⟩) (fun hp hreset => ?_)
  have hl : l = [] := hown hp (by rw [hreset]; rfl)
  rw [hreset, hl]
  rfl

/-- A Missing List with entries taken out stays sound (R115). -/
theorem Peer.MissingSound.sublist {p : Peer} {l : List MissingEntry} (h : p.MissingSound)
    (hl : l.Sublist p.missing) : Peer.MissingSound { p with missing := l } := by
  obtain ⟨hlen, hnodup, hattempts⟩ := h
  exact ⟨hl.length_le.trans hlen, (hl.map _).nodup hnodup, fun m hm => hattempts m (hl.subset hm)⟩

/-- A sequence leaves a Missing List (R120). -/
theorem State.dropMissing_moves (s : State) (p : Nat) (q : Byte) : Moves x s (s.dropMissing p q) :=
  (s.withMissing_moves (fun h => h.sublist List.filter_sublist) (fun _ h => by simp [h])).act
    (Act.dropRepeats _)

/-- Sequences join a Missing List while it has room, each once and with no attempt consumed (R115). -/
theorem listMissing_sound (deadline : Nat) (qs : List Byte) :
    ∀ p : Peer, p.MissingSound →
      Peer.MissingSound { p with missing := (listMissing deadline p.missing qs).1 } := by
  induction qs with
  | nil => exact fun p h => h
  | cons q qs ih =>
    intro p h
    obtain ⟨hlen, hnodup, hattempts⟩ := h
    unfold listMissing
    split
    · exact ih p ⟨hlen, hnodup, hattempts⟩
    next hnew =>
    split
    next hroom =>
      refine ih { p with missing := p.missing ++ [⟨q, 0, deadline⟩] } ⟨?_, ?_, ?_⟩
      · simpa using hroom
      · simp only [List.any_eq_true, beq_iff_eq, not_exists, not_and] at hnew
        simp only [List.map_append, List.map_cons, List.map_nil]
        refine List.nodup_append.2 ⟨hnodup, by simp, fun a ha b hb => ?_⟩
        obtain ⟨m, hm, rfl⟩ := List.mem_map.1 ha
        simpa [List.mem_singleton.1 hb] using hnew m hm
      · intro m hm
        rcases List.mem_append.1 hm with hm | hm
        · exact hattempts m hm
        · simp [List.mem_singleton.1 hm]
    next => exact ih p ⟨hlen, hnodup, hattempts⟩

/-- Changing the entries of one sequence, but not the sequences, keeps a Missing List sound where the
attempts stay within three (R117, R118). -/
theorem Peer.MissingSound.changeEntry {p : Peer} {q : Byte} {f : MissingEntry → MissingEntry}
    (h : p.MissingSound) (hseq : ∀ m, (f m).seq = m.seq)
    (hattempts : ∀ m ∈ p.missing, m.seq = q → (f m).attempts ≤ 3) :
    Peer.MissingSound { p with missing := changeEntry q f p.missing } := by
  obtain ⟨hlen, hnodup, hbound⟩ := h
  refine ⟨by simpa [Machine.changeEntry] using hlen, ?_, fun m hm => ?_⟩
  · have hmap : (Machine.changeEntry q f p.missing).map (fun m => m.seq) =
        p.missing.map (fun m => m.seq) := by
      simp only [Machine.changeEntry, List.map_map]
      refine List.map_congr_left fun m _ => ?_
      by_cases hm : m.seq = q <;> simp [hm, hseq]
    rwa [hmap]
  · obtain ⟨m', hm', rfl⟩ := List.mem_map.1 hm
    split
    next hq => exact hattempts m' hm' hq
    next => exact hbound m' hm'

/-! ### Loss -/

/-- HELD is set, or its boundary raised (R75). -/
theorem State.setHeld_moves (s : State) (second : Nat) : Moves x s (s.setHeld second) := by
  unfold State.setHeld
  split
  next h =>
    dsimp only
    split
    next hheld => exact (Act.boundary _ hheld).moves
    next => exact (Act.hold _ h.1 h.2).moves.trans (State.strays_moves _ _ _)
  next => exact Moves.refl s

/-- A loss (R121). -/
theorem State.lose_moves (s : State) (p : Nat) (q : Byte) : Moves x s (s.lose p q) := by
  have h : ∀ c, Moves x s (((s.dropMissing p q).append c).raise .e05) := fun c =>
    ((s.dropMissing_moves p q).act (Act.append c)).trans (State.raise_moves _ rfl)
  unfold State.lose
  dsimp only
  split
  · exact (h _).trans (State.setHeld_moves _ _)
  · exact h _

/-- Several losses (R121). -/
theorem State.loseAll_moves (s : State) (p : Nat) (l : List Byte) : Moves x s (s.loseAll p l) := by
  induction l generalizing s with
  | nil => exact Moves.refl s
  | cons q qs ih => exact (s.lose_moves p q).trans (ih _)

/-! ### Sequence bookkeeping -/

/-- The expected sequence moves on (R114, R115). -/
theorem State.advance_moves (s : State) {p : Nat} (missing : List Byte) (e : Byte)
    (hp : p ≠ s.number) : Moves x s (s.advance p missing e) :=
  .trans (s.withPeer_moves (y := { s.peer p with
      expected := some e, missing := (listMissing s.firstDeadline (s.peer p).missing missing).1 })
    (fun h => ⟨listMissing_sound _ _ _ h.1, h.2⟩) (fun h => absurd h hp)) (State.loseAll_moves _ _ _)

/-- Missing sequences are listed (R115, R116). -/
theorem State.listAll_moves (s : State) {p : Nat} (missing : List Byte) (hp : p ≠ s.number) :
    Moves x s (s.listAll p missing) :=
  .trans (s.withMissing_moves (listMissing_sound _ _ _) (fun h => absurd h hp))
    (State.loseAll_moves _ _ _)

/-- The bookkeeping of a sequenced frame (R114). -/
theorem State.bookSequence_moves (s : State) {p : Nat} (q : Byte) (hp : p ≠ s.number) :
    Moves x s (s.bookSequence p q).1 := by
  unfold State.bookSequence
  split
  · exact s.dropMissing_moves p q
  split
  · exact s.advance_moves _ _ hp
  · dsimp only
    split
    · exact s.advance_moves _ _ hp
    · exact Moves.refl s

/-- The bookkeeping of a beacon (R116). -/
theorem State.bookBeacon_moves (s : State) {p : Nat} (b : BeaconPayload) (hp : p ≠ s.number) :
    Moves x s (s.bookBeacon p b) := by
  have hjoin : ∀ t : State, Moves x s t → Moves x s (if p = 0 then t.setHeld (heldRun b.highest) else t) := by
    intro t ht
    split
    · exact ht.trans (t.setHeld_moves _)
    · exact ht
  have hlose : Moves x s (s.loseEntries p) := s.loseAll_moves _ _
  have hrestart : ∀ e, Moves x s ((s.loseEntries p).advance p [] e) := fun e =>
    hlose.trans (State.advance_moves _ _ _ (by simpa using hp))
  unfold State.bookBeacon
  dsimp only
  split
  · split
    · exact hrestart _
    · split
      · exact hjoin _ (s.advance_moves _ _ hp)
      · exact Moves.refl s
  · split
    · exact (hrestart _).trans (State.listAll_moves _ _ (by simpa using hp))
    · split
      · exact hjoin _ (s.advance_moves _ _ hp)
      · split
        · exact s.advance_moves _ _ hp
        · exact Moves.refl s

/-- The bookkeeping of an accepted frame (R112). -/
theorem State.book_moves (s : State) {p : Nat} (f : Frame) (hp : p ≠ s.number) :
    Moves x s (s.book p f).1 := by
  unfold State.book
  split
  all_goals first
    | exact s.bookSequence_moves _ hp
    | exact s.bookBeacon_moves _ hp
    | exact Moves.refl s

/-- A peer enters MISMATCH (R110). -/
theorem State.enterMismatch_moves (s : State) {p : Nat} (hp : p ≠ s.number) :
    Moves x s (s.enterMismatch p) := by
  have hreset : ∀ t : State, t.number = s.number → Moves x t
      (t.withPeer p
        { t.peer p with presence := .mismatch, silenceEnd := none, expected := none, missing := [] }) :=
    fun t ht => t.withPeer_moves (fun _ => by simp [Peer.Sound, Peer.MissingSound])
      (fun h => absurd (h.trans ht) hp)
  have h2 := ((s.raise_moves (x := x) (c := .e04) rfl).act
    (Act.dropRepeats (fun o _ => o.toNat == p))).trans (hreset _ (by simp))
  unfold State.enterMismatch
  dsimp only
  split
  · exact h2.trans (State.Alike.moves (by constructor <;> simp))
  · exact h2

/-! ### Retries, GONE and REPEAT -/

/-- A retry of an entry of the Missing List (R117). -/
theorem State.retry_moves (s : State) (p : Nat) (m : MissingEntry) (hm : m ∈ (s.peer p).missing) :
    Moves x s (s.retry p m) := by
  unfold State.retry
  split
  next hattempts =>
    refine (s.withMissing_moves (fun h => ?_) (fun _ h => by simp [h, changeEntry])).act
      (Act.addControl _ (fun f hf => nomatch hf))
    refine h.changeEntry (fun _ => rfl) (fun m' hm' hseq => ?_)
    have : m' = m := List.inj_on_of_nodup_map h.2.1 hm' hm hseq
    subst this
    exact hattempts
  next => exact s.lose_moves _ _

/-- A retry where its deadline has ended (R117). -/
theorem State.retryOne_moves (s : State) (p : Nat) (q : Byte) : Moves x s (s.retryOne p q) := by
  unfold State.retryOne
  split
  next m hm => exact s.retry_moves p m (List.mem_of_find?_eq_some hm)
  next => exact Moves.refl s

/-- The retries of a list (R117). -/
theorem State.retryAll_moves (s : State) (l : List (Nat × Byte)) : Moves x s (s.retryAll l) := by
  induction l generalizing s with
  | nil => exact Moves.refl s
  | cons y ys ih => exact (s.retryOne_moves _ _).trans (ih _)

/-- Another station's REPEAT (R118). -/
theorem State.suppress_moves (s : State) (r : RepeatPayload) : Moves x s (s.suppress r) := by
  unfold State.suppress
  split
  · refine Moves.act (s.withMissing_moves (fun h => ?_) (fun _ h => by simp [h, changeEntry]))
      (Act.dropRepeats _)
    exact h.changeEntry (fun _ => rfl) (fun m hm _ => h.2.2 m hm)
  · exact Moves.refl s

/-- A REPEAT for this station (R107). -/
theorem State.serve_moves (s : State) (requester q : Byte) : Moves x s (s.serve requester q) := by
  unfold State.serve
  split
  · split
    next e he =>
      split
      · refine (Act.addControl _ (fun f hf => ?_)).moves
        cases hf
        exact ⟨e, List.mem_of_find?_eq_some he, rfl⟩
      · exact Moves.refl s
    next => exact (Act.addControl _ (fun f hf => by cases hf)).moves
  · exact Moves.refl s

/-! ### Course time -/

/-- Expiry of the entries that a change of course time reaches (R68). -/
theorem State.expireEntries_moves (s : State) : Moves x s s.expireEntries :=
  (Act.entries _ List.filter_sublist).moves.trans (State.strays_moves _ _ _)

/-- One of the happenings that fall together (R38, R70). -/
theorem State.takeTogether_moves (s : State) (y : Together) : Moves x s (s.takeTogether y) := by
  cases y with
  | expire => exact s.expireEntries_moves
  | retry => exact s.retryAll_moves _
  | close => exact Act.closeAtLimit.moves

/-- Several happenings that fall together. -/
theorem State.takeAll_moves (s : State) (l : List Together) : Moves x s (s.takeAll l) := by
  induction l generalizing s with
  | nil => exact Moves.refl s
  | cons y ys ih => exact (s.takeTogether_moves y).trans (ih _)

/-- All that falls together at a change of course time. -/
theorem State.fallTogether_moves (s : State) (isStep : Bool) : Moves x s (s.fallTogether isStep) :=
  (State.Alike.moves (by constructor <;> rfl)).trans (State.takeAll_moves _ _)

/-- The beacon timer's end (R35). -/
theorem State.beaconTimerStep_moves (s : State) : Moves x s s.beaconTimerStep := by
  unfold State.beaconTimerStep
  split
  next h =>
    refine (Act.beaconTimerEnd fun hnone => ?_).moves
    simp [hnone, State.due] at h
  next => exact Moves.refl s

/-- PRESENT peers fall SILENT (R111). -/
theorem State.silencePeers_moves (s : State) : Moves x s s.silencePeers := by
  have hget : ∀ i, (s.receiver.peers.map (fun p => if s.silenceDue p then p.fallSilent else p)).getD i
      Peer.reset = if s.silenceDue (s.peer i) then (s.peer i).fallSilent else s.peer i := by
    intro i
    unfold State.peer
    by_cases hi : i < s.receiver.peers.length
    · simp [List.getD_eq_getElem?_getD, hi]
    · simp [List.getD_eq_getElem?_getD, List.getElem?_eq_none (not_lt.1 hi), State.silenceDue, Peer.reset]
  refine (Act.peers _ (by simp) (fun i hi => ?_) (fun hreset => ?_)).moves
  · rw [hget]
    split
    · exact ⟨hi.1, by simp [Peer.fallSilent]⟩
    · exact hi
  · rw [hget, hreset]
    rfl

/-- The timers that an adoption ends (R29). -/
theorem State.endTimers_moves (s : State) : Moves x s s.endTimers :=
  (s.silencePeers_moves.trans (State.beaconTimerStep_moves _)).trans
    (State.Alike.moves (t := s.endTimers) (by
      unfold State.endTimers
      constructor <;> simp))

/-- The Course Clock takes a carried time (R31, R32). -/
theorem State.takeTime_moves (s : State) (t : Nat) (ht : t ≤ Config.timeLimit) :
    Moves x s (s.takeTime t) := by
  unfold State.takeTime
  split
  · exact Moves.refl s
  next hahead =>
    have hadopt : Moves x s (s.adoptTime t) := by
      refine (Act.clock { s.clock with courseTime := min (t + 1) Config.timeLimit, phase := 0 } ?_
        (fun _ => min_le_right _ _) (Nat.zero_lt_succ _) (fun h => absurd rfl h)).moves
      exact le_min (by omega) (by omega)
    dsimp only
    split
    · exact ((hadopt.act Act.markStepped).trans (State.endTimers_moves _)).trans
        (State.fallTogether_moves _ _)
    · exact (hadopt.trans (State.endTimers_moves _)).trans (State.fallTogether_moves _ _)

/-! ### A received frame -/

/-- A run as it is held is at most 999 (R24). -/
theorem heldRun_le (w : Word16) : heldRun w ≤ Config.maxRun := by
  unfold heldRun
  split
  · assumption
  · exact Nat.zero_le _

/-- The value of the listening mark is at most 999 (R24). -/
theorem markValue_le (p : Payload) : markValue p ≤ Config.maxRun := by
  unfold markValue
  split
  all_goals first | exact heldRun_le _ | exact Nat.zero_le _

/-- A run field names a run 1 to 999 (R6). -/
theorem runField_eq_some {w : Word16} {r : Nat} (h : runField w = some r) :
    r = w.toNat ∧ 1 ≤ r ∧ r ≤ Config.maxRun := by
  unfold runField at h
  split at h
  next hr =>
    cases h
    exact ⟨rfl, hr⟩
  next => cases h

/-- A fact that passed the checks of R6 names a run 1 to 999. -/
theorem payloadFact_run {gates : Nat} {p : Payload} {f : Fact} (h : payloadFact gates p = some f) :
    1 ≤ f.run ∧ f.run ≤ Config.maxRun := by
  unfold payloadFact at h
  split at h
  · unfold startFact at h
    split at h
    next hr _ => cases h; exact (runField_eq_some hr).2
    next => cases h
  · unfold crossFact at h
    split at h
    next hr _ _ =>
      split at h
      · cases h; exact (runField_eq_some hr).2
      · cases h
    next => cases h
  · unfold rulingFact at h
    split at h
    next hr =>
      split at h
      · cases h; exact (runField_eq_some hr).2
      · split at h
        · cases h; exact (runField_eq_some hr).2
        · cases h
    next => cases h
  all_goals cases h

/-- A frame is heard from a peer (R111). -/
theorem State.hear_moves (s : State) {p : Nat} (hp : p ≠ s.number) : Moves x s (s.hear p) :=
  s.withPeer_moves (fun h => ⟨h.1, by simp⟩) (fun h => absurd h hp)

/-- A peer leaves MISMATCH (R110). -/
theorem State.leaveMismatch_moves (s : State) {p : Nat} (hp : p ≠ s.number) :
    Moves x s (s.leaveMismatch p) := by
  unfold State.leaveMismatch
  split
  · exact s.withPeer_moves (fun h => h) (fun h => absurd h hp)
  · exact Moves.refl s

/-- The listening mark (R24). -/
theorem State.updateMark_moves (s : State) (f : Frame) : Moves x s (s.updateMark f) := by
  unfold State.updateMark
  split
  · split
    · exact (Act.mark _ _ (.inl (markValue_le _))).moves
    · split
      · refine (Act.mark s.table.markEpoch _ ?_).moves
        rcases le_total s.table.markRun (markValue f.payload) with h | h
        · exact .inl (by simpa [h] using markValue_le f.payload)
        · exact .inr (by simp [h])
      · exact Moves.refl s
  · exact Moves.refl s

/-- The station 0 listening record is seen by no invariant (R73). -/
theorem State.updateRecord_moves (s : State) (f : Frame) : Moves x s (s.updateRecord f) := by
  refine State.Alike.moves ?_
  constructor <;> simp

/-- Out of LISTENING a station that receives is on course. -/
theorem State.onCourse_of_receives {s : State} (h : s.receives = true)
    (hl : s.station.state ≠ .listening) : s.onCourse = true := by
  unfold State.receives at h
  unfold State.onCourse
  split at h <;> simp_all

/-- A session change under a higher epoch (R86, R90). -/
theorem State.adoptEpoch_moves (s : State) (e : Word16) (peer : Nat) (h : s.epoch < e)
    (hcourse : s.onCourse = true) : Moves x s (s.adoptEpoch e peer) :=
  (Act.newEpoch e h hcourse).moves.act (Act.append _)

/-- The epoch's step (R84, R86, R87). -/
theorem State.epochStep_moves (s : State) (f : Frame) (hr : s.receives = true) :
    Moves x s (s.epochStep f).1 := by
  unfold State.epochStep
  split
  next hl =>
    refine ((s.updateMark_moves f).trans (State.updateRecord_moves _ f)).trans ?_
    unfold State.raiseEpoch
    split
    next hlt => exact (Act.raiseEpoch _ (BitVec.le_of_lt hlt) (by simpa using hl)).moves
    next => exact Moves.refl _
  next hl =>
    split
    next hlt => exact s.adoptEpoch_moves _ _ hlt (State.onCourse_of_receives hr hl)
    next => exact Moves.refl s

/-- HELD is released (R76). -/
theorem State.releaseHeld_moves (s : State) (oldest : Nat) : Moves x s (s.releaseHeld oldest) := by
  unfold State.releaseHeld
  split
  · exact Act.releaseHeld.moves
  · exact Moves.refl s

/-- The content of a beacon (R30, R113). -/
theorem State.beaconContent_moves (s : State) (f : Frame) (b : BeaconPayload) (older : Bool) :
    Moves x s (s.beaconContent f b older) := by
  have htime : Moves x s
      (if b.courseTime.toNat ≤ Config.timeLimit then s.takeTime b.courseTime.toNat else s) := by
    split
    next h => exact s.takeTime_moves _ h
    next => exact Moves.refl s
  have hsnap : ∀ t : State, Moves x t (t.snapshotBeacon b) := fun t =>
    State.Alike.moves (by constructor <;> simp)
  unfold State.beaconContent
  generalize (if b.courseTime.toNat ≤ Config.timeLimit then s.takeTime b.courseTime.toNat else s) = t
    at htime
  dsimp only
  split
  · split
    · exact (htime.trans (hsnap t)).trans (State.releaseHeld_moves _ _)
    · exact htime.trans (hsnap t)
  · exact htime

/-- The content of a frame (R112). -/
theorem State.content_moves (s : State) (f : Frame) (applied older : Bool) :
    Moves x s (s.content f applied older) := by
  have hfact : Moves x s
      (if applied ∧ older = false ∧ s.onCourse then
        match payloadFact s.gates f.payload with
        | some fact => s.takeFactAndWalk fact
        | none => s
      else s) := by
    split
    next h =>
      split
      next fact hf => exact s.takeFactAndWalk_moves fact h.2.2 (.inl (payloadFact_run hf).2)
      next => exact Moves.refl s
    next => exact Moves.refl s
  unfold State.content
  cases hpayload : f.payload with
  | beacon b => exact s.beaconContent_moves f b older
  | start p => rw [hpayload] at hfact; exact hfact
  | cross p => rw [hpayload] at hfact; exact hfact
  | ruling p => rw [hpayload] at hfact; exact hfact
  | session p => exact Moves.refl s
  | askRepeat r =>
    dsimp only
    split
    · exact Moves.refl s
    · split
      · exact s.serve_moves _ _
      · exact s.suppress_moves _
  | gone g =>
    dsimp only
    split
    · exact Moves.refl s
    · exact s.loseAll_moves _ _

/-- An accepted frame (R112). -/
theorem State.accept_moves (s : State) (f : Frame) (hp : f.header.station.toNat ≠ s.number)
    (hr : s.receives = true) : Moves x s (s.accept f) := by
  have hheard : Moves x s ((s.leaveMismatch f.header.station.toNat).hear f.header.station.toNat) :=
    (s.leaveMismatch_moves hp).trans (State.hear_moves _ (by simpa using hp))
  have hbooked := hheard.trans (State.book_moves (x := x) _ f (by simpa [State.hear] using hp))
  exact (hbooked.trans (State.epochStep_moves _ f (by simpa [State.hear] using hr))).trans
    (State.content_moves _ _ _ _)

/-- The station number on the wire is the station's. -/
theorem State.stationByte_toNat (s : State) : s.stationByte.toNat = s.number := by
  have : s.number < 16 := s.config.stn.isLt
  simp only [State.stationByte, BitVec.toNat_ofNat]
  omega

/-- A complete frame (R98, R109 to R112). -/
theorem State.receive_moves (s : State) (f : Frame) : Moves x s (s.receive f) := by
  have hhanded : Moves x s s.frameHandedOn := State.Alike.moves (by constructor <;> rfl)
  unfold State.receive
  split
  next hr =>
    dsimp only
    split
    · split
      · refine hhanded.trans ?_
        unfold State.ownNumber
        split
        · exact Moves.refl _
        · exact (Act.silence (s := s.frameHandedOn) .e01 (.inl rfl) (.inl hr)).moves
      next hother =>
        have hp : f.header.station.toNat ≠ s.frameHandedOn.number := fun h =>
          hother (BitVec.eq_of_toNat_eq (h.trans s.frameHandedOn.stationByte_toNat.symm))
        split
        · exact hhanded
        · exact hhanded.trans (State.enterMismatch_moves _ hp)
        · exact hhanded.trans (State.accept_moves _ f hp hr)
    · exact hhanded
  next => exact Moves.refl s

end

end Sys2Proof.Machine
end

section
/-! PROOFS. Every command is a sequence of acts, and so is the idle step. -/

namespace Sys2Proof.Machine

/-- The commands that hand a crossing on (R45, R53). -/
def crosses : Instr → Bool
  | .crossingAccepted | .tripPress => true
  | _ => false

section
variable {x : Bool}

/-! ### The line -/

/-- A change of the line unit that neither turns it off or on nor begins a frame. -/
theorem State.withLine_moves (s : State) (l : LineUnit) (hoff : l.tx = .off ↔ s.line.tx = .off)
    (hsending : ∀ source frame n, l.tx = .sending source frame n →
      ∃ m, s.line.tx = .sending source frame m) : Moves x s (s.withLine l) :=
  (Act.line l hoff hsending).moves

/-- A change of the line unit that leaves the transmit state. -/
theorem State.withLine_same_moves (s : State) (l : LineUnit) (htx : l.tx = s.line.tx) :
    Moves x s (s.withLine l) :=
  s.withLine_moves l (by rw [htx]) (fun _ _ n h => ⟨n, htx ▸ h⟩)

/-- The unit starts to wait for the line (R131). -/
theorem State.settleLine_moves (s : State) : Moves x s s.settleLine := by
  unfold State.settleLine
  split
  next h =>
    exact s.withLine_moves { s.line with tx := s.startWaiting } (by simp [State.startWaiting, h.1])
      (by simp [State.startWaiting])
  next => exact Moves.refl s

/-- The unit goes on after a frame (R136, R137). -/
theorem State.afterFrame_moves (s : State) (h : s.line.tx ≠ .off) : Moves x s s.afterFrame := by
  refine s.withLine_moves { s.line with tx := if s.frameReady then s.startWaiting else .idle } ?_ ?_
  · simp only [h, iff_false]
    split <;> simp [State.startWaiting]
  · intro source frame n
    dsimp only
    split <;> simp [State.startWaiting]

/-- A busy line gives up a count, and changes no other transmit state (R133). -/
theorem LineUnit.madeBusy_tx_cases (l : LineUnit) :
    (∃ gap slot slot', l.tx = .waiting gap slot ∧ l.madeBusy.tx = .waiting l.gap slot') ∨
      l.madeBusy.tx = l.tx := by
  unfold LineUnit.madeBusy TxState.giveUpCount
  cases l.tx <;> simp

/-- A line that becomes busy, with its receiver changed (R126, R133). -/
theorem State.madeBusy_moves (s : State) (l : LineUnit) (htx : l.tx = s.line.madeBusy.tx) :
    Moves x s (s.withLine l) := by
  rcases s.line.madeBusy_tx_cases with ⟨gap, slot, slot', hw, hb⟩ | hb
  · exact s.withLine_moves l (by simp [htx, hw, hb]) (by simp [htx, hb])
  · exact s.withLine_same_moves l (htx.trans hb)

/-! ### The crystal's counts -/

/-- Several counts are acts where each of them is. -/
theorem State.counts_moves (l : List (State → State × List Instr))
    (h : ∀ f ∈ l, ∀ s, Moves x s (f s).1) (s : State) : Moves x s (s.counts l).1 := by
  induction l generalizing s with
  | nil => exact Moves.refl s
  | cons f fs ih =>
    exact (h f (by simp) s).trans (ih (fun g hg => h g (by simp [hg])) _)

/-- A panel is seen by no invariant. -/
theorem State.withPanel_moves (s : State) (p : Panel) : Moves x s (s.withPanel p) :=
  State.Alike.moves (by constructor <;> rfl)

/-- A port is seen by no invariant. -/
theorem State.withPort_moves (s : State) (p : Port) : Moves x s (s.withPort p) :=
  State.Alike.moves (by constructor <;> rfl)

/-- Gate Capture is seen by no invariant. -/
theorem State.gate_moves (s : State) (g : GateUnit) : Moves x s { s with gate := g } :=
  State.Alike.moves (by constructor <;> rfl)

/-- The phase (R27). -/
theorem State.countPhase_moves (s : State) : Moves x s s.countPhase.1 := by
  unfold State.countPhase
  split
  next h =>
    exact (Act.clock { s.clock with phase := s.clock.phase + 1 } le_rfl id h (absurd rfl)).moves
  next => exact Moves.refl s

/-- The listen counter is seen by no invariant (R148). -/
theorem State.countListening_moves (s : State) : Moves x s s.countListening.1 := by
  unfold State.countListening
  split
  · exact State.Alike.moves (by constructor <;> rfl)
  · exact Moves.refl s

/-- A gate sample that raises a count (R44 to R48). -/
theorem State.gateSample_moves (s : State) : Moves x s s.gateSample.1 := by
  unfold State.gateSample
  dsimp only
  repeat' split
  all_goals exact s.gate_moves _

/-- The gate sample divider (R42). -/
theorem State.countGate_moves (s : State) : Moves x s s.countGate.1 := by
  unfold State.countGate
  split
  · exact s.gate_moves _
  · exact (s.gate_moves _).trans (State.gateSample_moves _)

/-- One sample of one key (R174). -/
theorem State.keySample_moves (s : State) (k : Key) : Moves x s (s.keySample k).1 := by
  unfold State.keySample
  dsimp only
  repeat' split
  all_goals exact s.withPanel_moves _

/-- The hold of a ruling key (R176). -/
theorem State.holdSample_moves (s : State) (k : RulingKey) : Moves x s (s.holdSample k).1 := by
  unfold State.holdSample
  dsimp only
  repeat' split
  all_goals exact s.withPanel_moves _

/-- The combination count (R177). -/
theorem State.comboSample_moves (s : State) : Moves x s s.comboSample.1 := by
  unfold State.comboSample
  repeat' split
  all_goals exact s.withPanel_moves _

/-- The key sample divider (R173). -/
theorem State.countKeys_moves (s : State) : Moves x s s.countKeys.1 := by
  unfold State.countKeys
  split
  · exact s.withPanel_moves _
  · refine (s.withPanel_moves _).trans (State.counts_moves _ (fun f hf t => ?_) _)
    simp only [List.mem_cons, List.not_mem_nil, or_false] at hf
    rcases hf with rfl | rfl | rfl | rfl | rfl | rfl | rfl
    · exact t.comboSample_moves
    · exact t.holdSample_moves _
    · exact t.holdSample_moves _
    all_goals exact t.keySample_moves _

/-- The idle run counts in the line alone, and a count of gap and slot goes on (R132). -/
theorem State.countIdle_moves (s : State) : Moves x s s.countIdle.1 := by
  unfold State.countIdle
  split
  · exact Moves.refl s
  · refine s.withLine_moves _ ?_ ?_
    · dsimp only [TxState.countIdle]
      split <;> simp_all
    · dsimp only [TxState.countIdle]
      split <;> simp_all

/-- The byte being received (R127). -/
theorem State.countReading_moves (s : State) : Moves x s s.countReading.1 := by
  unfold State.countReading
  split
  · exact s.withLine_same_moves _ (by simp)
  · exact Moves.refl s

/-- The frame being driven goes on (R136). -/
theorem State.countSending_moves (s : State) : Moves x s s.countSending.1 := by
  unfold State.countSending
  split
  next source frame periods h =>
    exact s.withLine_moves _ (by simp [h]) (fun _ _ _ h' => by cases h'; exact ⟨_, h⟩)
  all_goals exact Moves.refl s

/-- The timing line in one crystal period. -/
theorem State.countLine_moves (s : State) : Moves x s s.countLine.1 := by
  refine State.counts_moves _ (fun f hf t => ?_) _
  simp only [List.mem_cons, List.not_mem_nil, or_false] at hf
  rcases hf with rfl | rfl | rfl | rfl
  · exact t.countIdle_moves
  · exact t.countReading_moves
  · exact t.countSending_moves
  · exact t.withLine_same_moves _ rfl

/-- The Readout Port's clock is seen by no invariant (R163). -/
theorem State.countPort_moves (s : State) : Moves x s s.countPort.1 := by
  obtain ⟨_, hport⟩ := s.countPort_frame
  rw [hport]
  exact s.withPort_moves _

/-- One crystal period (R27, R42, R124, R148, R173). -/
theorem State.crystalPeriod_moves (s : State) : Moves x s s.crystalPeriod := by
  refine .trans (State.counts_moves
    [State.countPhase, State.countListening, State.countGate, State.countKeys, State.countLine,
      State.countTone, State.countPort] (fun f hf t => ?_) s) (State.Alike.moves (by constructor <;> rfl))
  simp only [List.mem_cons, List.not_mem_nil, or_false] at hf
  rcases hf with rfl | rfl | rfl | rfl | rfl | rfl | rfl
  · exact t.countPhase_moves
  · exact t.countListening_moves
  · exact t.countGate_moves
  · exact t.countKeys_moves
  · exact t.countLine_moves
  · exact t.withPanel_moves _
  · exact t.countPort_moves

/-- The step on an empty queue. -/
theorem State.idleStep_moves (s : State) : Moves x s s.idleStep := by
  unfold State.idleStep
  split
  · split
    · exact s.crystalPeriod_moves
    · exact State.Alike.moves (by constructor <;> rfl)
  · exact Moves.refl s

/-! ### Crossings -/

/-- The record of a crossing that finds no run joins the list, and its joining walk runs (R61, R62, R67). -/
theorem State.join_moves (s : State) (time : Nat) (manual : Bool) (hactive : s.isActive = true)
    (hassigner : s.isAssigner = true) (hheld : s.assign.held = false) :
    Moves true s (s.join time manual) := by
  have hinsert : ∀ t : State, t.assign = s.assign → t.isActive = s.isActive →
      t.isAssigner = s.isAssigner → Moves true t (t.withEntries
        (insertEntry ⟨time, manual, time + Config.pendingWait, true⟩
          (s.assign.entries.drop (s.assign.entries.length - (Config.pendingCapacity - 1))))) := by
    intro t ha hact hass
    refine (Act.insertEntry _ _ rfl (hact ▸ hactive) (hass ▸ hassigner) (ha ▸ hheld)
      (ha ▸ List.drop_sublist _ _) ?_ rfl).moves
    simp only [List.length_drop, Config.pendingCapacity]
    omega
  have hwalked := ((s.strays_moves .displaced _).trans
    (hinsert (s.strays .displaced (s.assign.entries.take
      (s.assign.entries.length - (Config.pendingCapacity - 1)))) (by simp) (by simp) (by simp))).trans
    (State.walk_moves _)
  exact (hwalked.act (Act.clearJoining _ rfl List.filter_sublist)).trans (State.strays_moves _ _ _)

/-- A crossing at stations 1 to N−1 (R59). -/
theorem State.takeCrossing_moves (s : State) (time : Nat) (manual : Bool)
    (hassigner : s.isAssigner = true) : Moves true s (s.takeCrossing time manual) := by
  unfold State.takeCrossing
  split
  · exact s.stray_moves _ _ _
  · exact s.stray_moves _ _ _
  next hstate =>
    split
    · exact s.stray_moves _ _ _
    next hheld =>
      exact s.join_moves time manual (by simp [State.isActive, hstate]) hassigner (by simpa using hheld)
  all_goals exact Moves.refl s

/-- A gate station that is not station 0 has an Assignment Unit at work (R57, R145). -/
theorem State.isAssigner_of_gate {s : State} (h : s.isGateStation = true) (h0 : s.number ≠ 0) :
    s.isAssigner = true := by
  simp only [State.isGateStation, State.isAssigner, decide_eq_true_eq, Bool.and_eq_true] at *
  omega

/-- A sensor crossing (R50, R51). -/
theorem State.handSensor_moves (s : State) (time : Nat) (h : s.isGateStation = true) :
    Moves true s (s.handSensor time) := by
  unfold State.handSensor
  split
  next h0 =>
    split
    next hstate => exact s.startRule_moves _ _ h0 (by simp [State.onCourse, hstate])
    · exact s.stray_moves _ _ _
    · exact s.stray_moves _ _ _
    all_goals exact Moves.refl s
  next h0 => exact s.takeCrossing_moves _ _ (State.isAssigner_of_gate h h0)

/-- A TRIP crossing (R53). -/
theorem State.handTrip_moves (s : State) (time : Nat) (h : s.isGateStation = true)
    (hactive : s.isActive = true) : Moves true s (s.handTrip time) := by
  unfold State.handTrip
  split
  next h0 => exact s.startRule_moves _ _ h0 (State.onCourse_of_isActive hactive)
  next h0 => exact s.takeCrossing_moves _ _ (State.isAssigner_of_gate h h0)

/-! ### Requests -/

/-- A request that has a run on course names a run of the table (R78). -/
theorem State.target_mem {s : State} {v : Verdict} (h : s.target v ≠ 0) :
    ∃ r ∈ s.courseRecords, r.run = s.target v := by
  cases v with
  | void =>
    simp only [State.target, State.newestOnCourse] at h ⊢
    split at h
    next r hr => exact ⟨r, List.mem_of_getLast? hr, by simp⟩
    next => exact absurd rfl h
  | dnf =>
    simp only [State.target, State.oldestOnCourse] at h ⊢
    split at h
    next r hr => exact ⟨r, List.mem_of_head? hr, by simp⟩
    next => exact absurd rfl h

/-- A ruling request (R79). -/
theorem State.rulingRequest_moves (s : State) (v : Verdict) (hactive : s.isActive = true) :
    Moves x s (s.rulingRequest v) := by
  unfold State.rulingRequest
  dsimp only
  split
  · exact s.requestTone_moves _
  next htarget =>
  split
  · exact (s.raise_moves rfl).trans (State.requestTone_moves _ _)
  next s1 hplace =>
    have hframe := State.place_frame hplace
    obtain ⟨r, hr, hrun⟩ := State.target_mem htarget
    refine ((Act.place s.epoch _ rfl hplace).moves.trans (State.takeFactAndWalk_moves _ (.ruling (s.target v) v) ?_
      (.inr ⟨r, ?_, hrun⟩))).trans (State.requestTone_moves _ _)
    · simpa [hframe] using State.onCourse_of_isActive hactive
    · rw [hframe.2.2.1]
      exact List.mem_of_mem_filter hr

/-- A new-session request (R88). -/
theorem State.newSession_moves (s : State) (hactive : s.isActive = true) : Moves x s s.newSession := by
  unfold State.newSession
  split
  · exact (s.raise_moves rfl).trans (State.requestTone_moves _ _)
  next hmax =>
  split
  · exact (s.raise_moves rfl).trans (State.requestTone_moves _ _)
  next s1 hplace =>
    have hframe := State.place_frame hplace
    refine (((Act.place (s.epoch + 1) (.session ⟨s.epoch⟩) rfl hplace).moves.act
      (Act.newEpoch (s.epoch + 1) ?_ ?_)).act (Act.append _)).trans (State.requestTone_moves _ _)
    · have hepoch : s1.epoch = s.epoch := by simp [hframe]
      have hlt := s.epoch.isLt
      have hone : (1 : Word16).toNat = 1 := rfl
      rw [hepoch, BitVec.lt_def, BitVec.toNat_add, hone]
      omega
    · simpa [hframe] using State.onCourse_of_isActive hactive

/-- An ordinary code is one that ACK can remove, or E11 (R156). -/
theorem State.acknowledge_moves (s : State) : Moves x s s.acknowledge := by
  unfold State.acknowledge
  split
  next c _ =>
    split
    next hc =>
      exact (Act.clearError c (by simp [ErrorCode.ordinary, hc])).moves.trans (State.requestTone_moves _ _)
    next => exact s.requestTone_moves _
  next => exact s.requestTone_moves _

/-! ### The commands -/

/-- A command answers a next state that acts lead to. -/
def MovesAlways (c : Instr) : Prop :=
  ∀ s : State, ∃ t, exec c s = .next t ∧ Moves (crosses c) s t

/-- A frame of any kind is taken, and the line unit settles (R112, R131). -/
theorem State.receive_settle_moves (s : State) (f : Frame) : Moves x s (s.receive f).settleLine :=
  (s.receive_moves f).trans (State.settleLine_moves _)

/-- LISTEN_END is a sequence of acts (R150). -/
theorem listenEnd_moves : MovesAlways .listenEnd := by
  refine fun s => ⟨_, rfl, ?_⟩
  split
  next hl =>
    have hcount : ∀ n, Moves false s { s with station := { s.station with listenCount := n } } :=
      fun n => State.Alike.moves (by constructor <;> rfl)
    have hepoch : ∀ t : State, t.station.state = .listening →
        Moves false t t.settleEpoch ∧ t.settleEpoch.epoch ≠ 0#16 := by
      intro t ht
      unfold State.settleEpoch
      split
      next h0 => exact ⟨(Act.raiseEpoch 1#16 (by rw [h0]; decide) ht).moves, by simp [State.withEpoch]⟩
      next h0 => exact ⟨Moves.refl t, h0⟩
    obtain ⟨hsettle, hne⟩ := hepoch { s with station := { s.station with listenCount := s.listenLimit } } hl
    refine ((((hcount _).trans hsettle).act (Act.setCounter _ ?_)).act (Act.enterActive ?_ ?_)).trans
      (State.settleLine_moves _)
    · simpa using hl
    · simpa using hl
    · simpa using hne
  next => exact Moves.refl s

/-- MILLISECOND_TICK is a sequence of acts (R27, R38). -/
theorem millisecondTick_moves : MovesAlways .millisecondTick := by
  refine fun s => ⟨_, rfl, ?_⟩
  have htick : Moves false s { s with clock := s.clock.tick } := by
    refine (Act.clock s.clock.tick ?_ ?_ ?_ ?_).moves
    all_goals unfold Clock.tick; split
    all_goals simp [Config.periodsPerMs] <;> omega
  split
  · dsimp only
    split
    · exact (htick.trans (State.fallTogether_moves _ _)).trans (State.settleLine_moves _)
    · exact htick
  · exact Moves.refl s

/-- CROSSING_ACCEPTED is a sequence of acts (R45). -/
theorem crossingAccepted_moves : MovesAlways .crossingAccepted := by
  refine fun s => ⟨_, rfl, ?_⟩
  split
  next time _ =>
    split
    next h =>
      have hgate : s.isGateStation = true := by
        have := h.1
        simp only [State.gateReleased, Bool.and_eq_true] at this
        exact this.2
      refine Moves.trans (Moves.trans ?_ (State.handSensor_moves _ time ?_)) (State.settleLine_moves _)
      · exact s.gate_moves _
      · simpa using hgate
    next => exact Moves.refl s
  next => exact Moves.refl s

/-- TRIP_PRESS is a sequence of acts (R53, R175). -/
theorem tripPress_moves : MovesAlways .tripPress := by
  refine fun s => ⟨_, rfl, ?_⟩
  split
  · dsimp only
    split
    next h =>
      refine Moves.trans (Moves.trans ?_ (State.handTrip_moves _ _ ?_ ?_)) (State.settleLine_moves _)
      · exact s.withPanel_moves _
      · simpa [State.acceptKey] using h.2
      · simpa [State.acceptKey] using h.1
    next => exact (s.withPanel_moves _).trans (State.requestTone_moves _ _)
  · exact Moves.refl s

/-- GATE_CLEARED is a sequence of acts (R48, R49). -/
theorem gateCleared_moves : MovesAlways .gateCleared := by
  refine fun s => ⟨_, rfl, ?_⟩
  split
  · exact (s.gate_moves _).act (Act.clearError .e11 rfl)
  · exact Moves.refl s

/-- GATE_BLOCKED is a sequence of acts (R48, R49). -/
theorem gateBlocked_moves : MovesAlways .gateBlocked := by
  refine fun s => ⟨_, rfl, ?_⟩
  split
  · exact (s.gate_moves _).act (Act.raise .e11 rfl)
  · exact Moves.refl s

/-- PENDING_ENTRY_EXPIRY is a sequence of acts (R68). -/
theorem pendingEntryExpiry_moves : MovesAlways .pendingEntryExpiry := by
  refine fun s => ⟨_, rfl, ?_⟩
  split
  next e es h =>
    split
    · exact (Act.entries es (by simp [h])).moves.trans (State.stray_moves _ _ _ _)
    · exact Moves.refl s
  next => exact Moves.refl s

/-- The keys' presses and releases are sequences of acts (R176). -/
theorem rulingKeyPress_moves (key : RulingKey) : MovesAlways (.rulingKeyPress key) := by
  refine fun s => ⟨_, rfl, ?_⟩
  split
  · split
    · exact s.withPanel_moves _
    · exact (s.withPanel_moves _).trans (State.requestTone_moves _ _)
  · exact Moves.refl s

/-- RULING_KEY_RELEASE is a sequence of acts (R176). -/
theorem rulingKeyRelease_moves (key : RulingKey) : MovesAlways (.rulingKeyRelease key) := by
  refine fun s => ⟨_, rfl, ?_⟩
  have hreleased : Moves false s (s.releaseRuling key) :=
    (s.withPanel_moves _).trans (State.withPanel_moves _ _)
  split
  · dsimp only
    split
    · exact hreleased
    · split
      next h =>
        exact (hreleased.trans (State.rulingRequest_moves _ _ h)).trans (State.settleLine_moves _)
      next => exact hreleased.trans (State.requestTone_moves _ _)
  · exact Moves.refl s

/-- COMBINATION_FIRES is a sequence of acts (R177). -/
theorem combinationFires_moves : MovesAlways .combinationFires := by
  refine fun s => ⟨_, rfl, ?_⟩
  split
  · dsimp only
    split
    next h =>
      refine Moves.trans (Moves.trans ?_ (State.newSession_moves _ ?_)) (State.settleLine_moves _)
      · exact s.withPanel_moves _
      · simpa using h
    next => exact (s.withPanel_moves _).trans (State.requestTone_moves _ _)
  · exact Moves.refl s

/-- PEER_SILENT is an act (R111). -/
theorem peerSilent_moves (peer : Fin 16) : MovesAlways (.peerSilent peer) := by
  refine fun s => ⟨_, rfl, ?_⟩
  split
  next h =>
    refine s.withPeer_moves (fun hs => ⟨hs.1, by simp [Peer.fallSilent]⟩) (fun _ hreset => ?_)
    rw [hreset] at h
    cases h
  next => exact Moves.refl s

/-- TRANSMIT_START begins the frame that the Outbox chooses, or leaves the unit IDLE (R132). -/
theorem transmitStart_moves : MovesAlways .transmitStart := by
  refine fun s => ⟨_, rfl, ?_⟩
  split
  next h =>
    have htx : s.line.tx ≠ .off := by
      intro hoff
      simp [State.isWaiting, hoff] at h
    split
    next source frame hchoose =>
      refine (Act.startSending source frame _ _ hchoose rfl htx ?_).moves
      split <;> simp
    next => exact s.withLine_moves _ (by simp [htx]) (by simp)
  next => exact Moves.refl s

/-- TRANSMIT_COMPLETE lets the line go and tells the Outbox (R136). -/
theorem transmitComplete_moves : MovesAlways .transmitComplete := by
  refine fun s => ⟨_, rfl, ?_⟩
  split
  next source frame n htx =>
    have hline : ∀ l : LineUnit, l.tx = .idle ∨ (∃ gap slot, l.tx = .waiting gap slot) →
        Moves false s (s.withLine l) := fun l hl =>
      s.withLine_moves l (by rcases hl with h | ⟨_, _, h⟩ <;> simp [h, htx])
        (by rcases hl with h | ⟨_, _, h⟩ <;> simp [h])
    have hfree : ∀ l : LineUnit, l.tx = .idle ∨ (∃ gap slot, l.tx = .waiting gap slot) →
        (s.withLine l).sending = false := fun l hl => by
      rcases hl with h | ⟨_, _, h⟩ <;> simp [State.sending, State.withLine, h]
    have hsent : ∀ l : LineUnit,
        Moves false s ({ s with outbox := s.outbox.frameSent source frame, line := l }).afterFrame := by
      intro l
      have hafter : ∀ u : State, u.afterFrame.line.tx = .idle ∨
          ∃ gap slot, u.afterFrame.line.tx = .waiting gap slot := by
        intro u
        simp only [State.afterFrame]
        split <;> simp [State.startWaiting]
      have h := hafter { s with outbox := s.outbox.frameSent source frame, line := l }
      exact (hline _ h).act (Act.frameSent source frame (hfree _ h))
    exact hsent _
  all_goals exact Moves.refl s

/-- READBACK_MISMATCH lets the line go, and silences the station at the sixteenth attempt (R137, R139). -/
theorem readbackMismatch_moves : MovesAlways .readbackMismatch := by
  refine fun s => ⟨_, rfl, ?_⟩
  split
  next source frame n htx =>
    have hbeacon : Moves false s { s with outbox := s.outbox.frameFailed source } := by
      unfold Outbox.frameFailed
      split
      · exact (Act.beaconAgain (by simp [htx])).moves
      · exact Moves.refl s
    have hline : ∀ (t : State) (l : LineUnit), t.line.tx = s.line.tx →
        Moves false t (t.withLine { l with tx := .idle }) := fun t l h =>
      t.withLine_moves _ (by simp [h, htx]) (by simp)
    have hafter := (hbeacon.trans (hline _ { (s.line.readBack !s.drives).dropOwn frame |>.startRest with
      failed := min Config.maxFailed (s.line.failed + 1) } rfl)).trans
      (State.afterFrame_moves _ (by simp [State.withLine]))
    dsimp only
    split
    · refine hafter.act (Act.silence .e02 (.inr rfl) (.inr ?_))
      simp only [State.afterFrame]
      split <;> simp [State.startWaiting]
    · exact hafter
  all_goals exact Moves.refl s

/-- BYTE_TAKEN changes the receiver and gives up a count (R127). -/
theorem byteTaken_moves (ended : ByteEnd) : MovesAlways (.byteTaken ended) := by
  refine fun s => ⟨_, rfl, ?_⟩
  split
  · split
    all_goals exact s.madeBusy_moves _ (by simp [LineUnit.heldDominant])
  · exact Moves.refl s

/-- FRAME_ABANDONED changes the receiver, and gives up a count (R129). -/
theorem frameAbandoned_moves (cause : AbandonCause) : MovesAlways (.frameAbandoned cause) := by
  refine fun s => ⟨_, rfl, ?_⟩
  split
  · split
    · split
      · exact s.withLine_same_moves _ (by simp [LineUnit.idlePassed])
      · exact s.madeBusy_moves _ (by simp [LineUnit.heldDominant])
      · exact s.withLine_same_moves _ rfl
    · exact Moves.refl s
  all_goals exact Moves.refl s

/-- TRANSFER_COMPLETE may remove the oldest record (R168). -/
theorem transferComplete_moves : MovesAlways .transferComplete := by
  refine fun s => ⟨_, rfl, ?_⟩
  split
  · split
    · exact Act.removeOldest.moves.trans (State.withPort_moves _ _)
    · exact s.withPort_moves _
  · exact Moves.refl s

/-- The port latches a reply (R165). -/
theorem State.latch_moves (s : State) (b : Byte) (reply : List Byte) (seq : Option Byte) :
    Moves x s (s.latch b reply seq) := by
  unfold State.latch
  split
  · exact s.withPort_moves _
  · exact Moves.refl s

/-- Every command but those that assert or release reset is a sequence of acts. -/
theorem exec_moves (c : Instr) (hreset : resets c = false) (hrelease : ∀ straps, c ≠ .resetReleased straps) :
    MovesAlways c := by
  have hline : ∀ (s : State) (P : Prop) [Decidable P] (l : LineUnit), l.tx = s.line.tx →
      Moves false s (if P then s.withLine l else s) := fun s P _ l hl => by
    split
    · exact s.withLine_same_moves l hl
    · exact Moves.refl s
  have hfall : ∀ (s : State) (P : Prop) [Decidable P],
      Moves false s (if P then s.withLine s.line.fall else s) := fun s P _ => by
    split
    · exact s.madeBusy_moves _ (by simp [LineUnit.fall])
    · exact Moves.refl s
  have hgate : ∀ (s : State) (P : Prop) [Decidable P] (g : GateUnit),
      Moves false s (if P then { s with gate := g } else s) := fun s P _ g => by
    split
    · exact s.gate_moves g
    · exact Moves.refl s
  have hpanel : ∀ (s : State) (P : Prop) [Decidable P] (p : Panel),
      Moves false s (if P then s.withPanel p else s) := fun s P _ p => by
    split
    · exact s.withPanel_moves p
    · exact Moves.refl s
  cases c with
  | resetAsserted | clockLoss => cases hreset
  | resetReleased straps => exact absurd rfl (hrelease straps)
  | powerFallDuringReset =>
    refine fun s => ⟨_, rfl, ?_⟩
    split
    · exact Moves.refl s
    · exact State.Alike.moves (by constructor <;> rfl)
  | listenEnd => exact listenEnd_moves
  | millisecondTick => exact millisecondTick_moves
  | beaconTimerEnd =>
    exact fun s => ⟨_, rfl, s.beaconTimerStep_moves.trans (State.settleLine_moves _)⟩
  | freshSpanEnd => exact fun s => ⟨_, rfl, State.Alike.moves (by constructor <;> simp)⟩
  | gateCandidateLatch | gateActiveAtRelease | candidateRejected | holdoffEnd active =>
    exact fun s => ⟨_, rfl, hgate s _ _⟩
  | crossingAccepted => exact crossingAccepted_moves
  | gateCleared => exact gateCleared_moves
  | gateBlocked => exact gateBlocked_moves
  | pendingEntryExpiry => exact pendingEntryExpiry_moves
  | tripPress => exact tripPress_moves
  | rulingKeyPress key => exact rulingKeyPress_moves key
  | rulingKeyLong key => exact fun s => ⟨_, rfl, hpanel s _ _⟩
  | rulingKeyRelease key => exact rulingKeyRelease_moves key
  | combinationFires => exact combinationFires_moves
  | ackPress =>
    refine fun s => ⟨_, rfl, ?_⟩
    split
    · exact (s.withPanel_moves _).trans (State.acknowledge_moves _)
    · exact Moves.refl s
  | resultHoldEnd | runNumberHoldEnd | toneStepEnd =>
    exact fun s => ⟨_, rfl, State.Alike.moves (by constructor <;> simp)⟩
  | receiveBeacon h p | receiveStart h p | receiveCross h p | receiveRuling h p | receiveSession h p
  | receiveRepeat h p | receiveGone h p => exact fun s => ⟨_, rfl, s.receive_settle_moves _⟩
  | badFrameDropped => exact fun s => ⟨_, rfl, hline s _ _ rfl⟩
  | frameAbandoned cause => exact frameAbandoned_moves cause
  | peerSilent peer => exact peerSilent_moves peer
  | retryDeadline peer seq =>
    exact fun s => ⟨_, rfl, (s.retryOne_moves _ _).trans (State.settleLine_moves _)⟩
  | transmitStart => exact transmitStart_moves
  | lineDefer | lineBusy => exact fun s => ⟨_, rfl, hfall s _⟩
  | transmitComplete => exact transmitComplete_moves
  | readbackMismatch => exact readbackMismatch_moves
  | restEnd => exact fun s => ⟨_, rfl, hline s _ _ rfl⟩
  | xselFall =>
    refine fun s => ⟨_, rfl, ?_⟩
    split
    all_goals exact s.withPort_moves _
  | next | peek | status => exact fun s => ⟨_, rfl, s.latch_moves _ _ _⟩
  | unknownCommand b =>
    refine fun s => ⟨_, rfl, ?_⟩
    split
    · exact Moves.refl s
    · exact s.latch_moves _ _ _
  | replyShiftedOut =>
    refine fun s => ⟨_, rfl, ?_⟩
    split
    · exact s.withPort_moves _
    · exact Moves.refl s
  | transferComplete => exact transferComplete_moves
  | transferAbort =>
    refine fun s => ⟨_, rfl, ?_⟩
    split
    · split
      · exact s.withPort_moves _
      · exact Moves.refl s
    · split
      · exact s.withPort_moves _
      · exact Moves.refl s
    · exact s.withPort_moves _
    · exact Moves.refl s
  | keyCandidateLatch key down => exact fun s => ⟨_, rfl, hpanel s _ _⟩
  | tripOrAckRelease key => exact fun s => ⟨_, rfl, hpanel s _ _⟩
  | byteTaken ended => exact byteTaken_moves ended
  | waitingForAFrame => exact fun s => ⟨_, rfl, hline s _ _ (by simp [LineUnit.idlePassed])⟩

end

end Sys2Proof.Machine
end

section
/-! PROOFS. What every act keeps: the straps, the station out of RESET and on course; and the Run Table and
station 0's counter (O52). -/

namespace Sys2Proof.Machine

section
variable {x : Bool} {s t : State}

/-! ### The station state -/

/-- The close, where it happens and where it does not (R38). -/
theorem State.closeAtLimit_cases (s : State) :
    (s.clock.courseTime = Config.timeLimit ∧ (s.station.state = .active ∨ s.station.state = .mute) ∧
        s.closeAtLimit = s.close) ∨
      ¬ (s.clock.courseTime = Config.timeLimit ∧
          (s.station.state = .active ∨ s.station.state = .mute)) ∧ s.closeAtLimit = s := by
  unfold State.closeAtLimit
  split
  next h => exact .inl ⟨h.1, h.2, rfl⟩
  next h => exact .inr ⟨h, rfl⟩

/-- A close leaves the station CLOSED (R38). -/
@[simp] theorem State.close_state (s : State) : s.close.station.state = .closed := by
  simp [State.close, State.strayEntries]

/-- The state after a close at the limit. -/
theorem State.closeAtLimit_state (s : State) :
    s.closeAtLimit.station.state = s.station.state ∨ s.closeAtLimit.station.state = .closed ∧
      (s.station.state = .active ∨ s.station.state = .mute) := by
  rcases s.closeAtLimit_cases with ⟨_, h, heq⟩ | ⟨_, heq⟩ <;> rw [heq]
  · exact .inr ⟨s.close_state, h⟩
  · exact .inl rfl

/-- The state that a silencing error leaves (R109, R139, R152). -/
theorem State.silence_state (s : State) :
    s.silence.station.state = s.station.state ∨
      (s.station.state = .listening ∨ s.station.state = .active) ∧
        (s.silence.station.state = .mute ∨ s.silence.station.state = .closed) := by
  unfold State.silence
  split
  next h =>
    refine .inr ⟨.inl h, ?_⟩
    rcases State.closeAtLimit_state ((s.settleEpoch.enter .mute).releaseGate) with hs | ⟨hs, _⟩
    · exact .inl (by simpa [State.muteFromListening, State.enter, State.releaseGate] using hs)
    · exact .inr (by simpa [State.muteFromListening] using hs)
  next h =>
    exact .inr ⟨.inr h, .inl (by simp [State.muteFromActive, State.strayEntries, State.enter])⟩
  all_goals exact .inl (by simp)

/-- The state at entry to ACTIVE, where the station may close at once (R150). -/
theorem State.enterActive_state (s : State) :
    s.decideHeld.becomeActive.closeAtLimit.station.state = .active ∨
      s.decideHeld.becomeActive.closeAtLimit.station.state = .closed := by
  rcases State.closeAtLimit_state s.decideHeld.becomeActive with hs | ⟨hs, _⟩
  · exact .inl (by simpa [State.becomeActive, State.enter, State.releaseGate] using hs)
  · exact .inr hs

/-- The state after an act: the state before it, MUTE or CLOSED after a silencing error, CLOSED after the
close, ACTIVE or CLOSED at the end of listening. -/
theorem Act.state (h : Act x s t) :
    t.station.state = s.station.state ∨
      (s.station.state = .listening ∨ s.station.state = .active ∨ s.station.state = .mute) ∧
        (t.station.state = .active ∧ s.station.state = .listening ∨ t.station.state = .mute ∨
          t.station.state = .closed) := by
  cases h with
  | unseen h => exact .inl h.state
  | silence c _ _ =>
    rcases (s.raise c).silence_state with h | ⟨h1, h2⟩
    · exact .inl (by simpa using h)
    · refine .inr ⟨?_, .inr h2⟩
      rcases h1 with h1 | h1 <;> simp_all
  | closeAtLimit =>
    rcases s.closeAtLimit_state with h | ⟨h1, h2⟩
    · exact .inl h
    · exact .inr ⟨.inr h2, .inr (.inr h1)⟩
  | enterActive hl _ =>
    refine .inr ⟨.inl hl, ?_⟩
    rcases s.enterActive_state with h | h
    · exact .inl ⟨h, hl⟩
    · exact .inr (.inr h)
  | place e p hp h => exact .inl (by simp [State.place_frame h])
  | newEpoch => exact .inl rfl
  | _ => exact .inl (by simp)

/-- No act leads out of the course's rules (R5). -/
theorem Act.onCourse (h : Act x s t) (hs : s.onCourse = true) : t.onCourse = true := by
  unfold State.onCourse at *
  rcases h.state with h | ⟨_, ⟨h, _⟩ | h | h⟩ <;> simp_all

/-- No act leads into RESET or CONFIG FAULT, nor out of them (R142, R147). -/
theorem Act.state_eq_iff (h : Act x s t) (state : StationState)
    (hstate : state = .reset ∨ state = .configFault) :
    t.station.state = state ↔ s.station.state = state := by
  rcases h.state with h | ⟨h1 | h1 | h1, ⟨h2, _⟩ | h2 | h2⟩ <;>
    rcases hstate with rfl | rfl <;> simp_all

/-- The straps stay (R145). -/
theorem Act.straps (h : Act x s t) : t.station.straps = s.station.straps := by
  cases h with
  | unseen h => exact h.straps
  | place e p hp h => simp [State.place_frame h]
  | newEpoch => rfl
  | _ => simp

/-- What the straps give stays (R145). -/
theorem State.straps_frame (h : t.station.straps = s.station.straps) :
    t.config = s.config ∧ t.number = s.number ∧ t.gates = s.gates ∧ t.stationByte = s.stationByte ∧
      t.isAssigner = s.isAssigner := by
  unfold State.isAssigner State.stationByte State.number State.gates State.config
  simp [h]

/-! ### Facts on a record -/

/-- A fact keeps the slots that are filled (R11). -/
theorem RunRecord.take_splits_kept (r : RunRecord) (f : Fact) (g : Nat) (p : Split)
    (h : r.splits.getD g none = some p) : (r.take f).splits.getD g none = some p := by
  cases f with
  | start _ _ _ => simpa [RunRecord.take, RunRecord.takeStart] using h
  | cross _ gate _ _ _ _ _ =>
    simp only [RunRecord.take, RunRecord.takeCross]
    split
    · exact h
    next hempty =>
      have hne : gate - 1 ≠ g := fun hg => by
        rw [← hg] at h
        rw [RunRecord.passed, h] at hempty
        exact hempty rfl
      rwa [List.getD_eq_getElem?_getD, List.getElem?_set_ne hne, ← List.getD_eq_getElem?_getD]
  | ruling _ v => cases v <;> simpa [RunRecord.take, RunRecord.takeRuling] using h

/-- A fact takes no ruling and no MANUAL START mark away (R1, R12). -/
theorem RunRecord.take_rulings_kept (r : RunRecord) (f : Fact) :
    (r.voided = true → (r.take f).voided = true) ∧ (r.dnfed = true → (r.take f).dnfed = true) ∧
      (r.manualStart = true → (r.take f).manualStart = true) := by
  cases f with
  | start _ _ _ => simp_all [RunRecord.take, RunRecord.takeStart]
  | cross _ _ _ _ _ _ _ => simp [RunRecord.take, RunRecord.takeCross]
  | ruling _ v => cases v <;> simp [RunRecord.take, RunRecord.takeRuling]

/-- The finish split in terms of the slots (R2). -/
theorem RunRecord.finish_eq (r : RunRecord) : r.finish = r.splits.getD (r.splits.length - 1) none := by
  simp only [RunRecord.finish, List.getLast?_eq_getElem?, List.getD_eq_getElem?_getD]
  cases r.splits[r.splits.length - 1]? <;> rfl

/-- A fact keeps the finish split (R11). -/
theorem RunRecord.take_finish_kept (r : RunRecord) (f : Fact) (p : Split) (h : r.finish = some p) :
    (r.take f).finish = some p := by
  rw [RunRecord.finish_eq] at h ⊢
  have hlen : (r.take f).splits.length = r.splits.length := by simp
  rw [hlen]
  exact r.take_splits_kept f _ p h

/-- A state's rank, by what the record holds (R3). -/
theorem RunRecord.rank_le {r y : RunRecord} (hvoid : r.voided = true → y.voided = true)
    (hfinish : r.finish.isSome = true → y.finish.isSome = true)
    (hdnf : r.dnfed = true → y.dnfed = true) : RunState.rank r.state ≤ RunState.rank y.state := by
  unfold RunRecord.state
  by_cases h1 : y.voided = true
  · rw [if_pos h1]
    split
    · exact le_rfl
    · split
      · decide
      · split <;> decide
  rw [if_neg h1, if_neg (fun h => h1 (hvoid h))]
  by_cases h2 : y.finish.isSome = true
  · rw [if_pos h2]
    split
    · exact le_rfl
    · cases r.dnfed <;> decide
  rw [if_neg h2, if_neg (fun h => h2 (hfinish h))]
  by_cases h3 : y.dnfed = true
  · rw [if_pos h3]
    cases r.dnfed <;> decide
  · rw [if_neg h3, if_neg (fun h => h3 (hdnf h))]

/-- A fact moves a run's state upward alone (R192). -/
theorem RunRecord.take_rank_le (r : RunRecord) (f : Fact) :
    RunState.rank r.state ≤ RunState.rank (r.take f).state := by
  obtain ⟨hvoid, hdnf, _⟩ := r.take_rulings_kept f
  refine RunRecord.rank_le hvoid (fun h => ?_) hdnf
  obtain ⟨p, hp⟩ := Option.isSome_iff_exists.1 h
  simp [r.take_finish_kept f p hp]

/-- A settled record stays settled (R3). -/
theorem RunRecord.take_settled (r : RunRecord) (f : Fact) (h : r.state ≠ .onCourse) :
    (r.take f).state ≠ .onCourse := by
  intro hcourse
  have hrank := r.take_rank_le f
  rw [hcourse] at hrank
  cases hstate : r.state with
  | onCourse => exact h hstate
  | _ => simp [hstate, RunState.rank] at hrank

/-! ### Sound records -/

/-- A new record is sound (R1, R7). -/
theorem newRecord_sound {gates run : Nat} (learned : Bool) (h1 : 1 ≤ run) (h2 : run ≤ Config.maxRun) :
    (newRecord gates run learned).Sound gates := by
  refine ⟨h1, h2, by simp, ?_⟩
  simp [RunRecord.settled, newRecord]
  simpa [newRecord] using newRecord_state gates run learned

/-- A record that is stored after a fact reports its derived state (R1, R19). -/
theorem RunRecord.take_stored_sound {gates : Nat} {r : RunRecord} (f : Fact) (h : r.Sound gates) :
    (r.take f).stored.Sound gates := by
  obtain ⟨h1, h2, hslots, hreported⟩ := h
  refine ⟨by simpa using h1, by simpa using h2, by simpa using hslots, ?_⟩
  have hstate : (r.take f).stored.state = (r.take f).state := by simp
  simp only [RunRecord.settled, hstate]
  unfold RunRecord.stored
  split
  next hquiet =>
    by_cases hcourse : (r.take f).state = .onCourse
    · have hold : r.state = .onCourse := not_not.1 fun hne => r.take_settled f hne hcourse
      simp [hcourse, hreported, RunRecord.settled, hold]
    · rcases hquiet with hq | hq
      · exact absurd hq hcourse
      · rw [hq]; simp [hcourse]
  next hdue =>
    have hcourse : (r.take f).state ≠ .onCourse := fun h => hdue (.inl h)
    simp [hcourse]

/-- A step's mark changes neither the state nor what was reported (R13). -/
@[simp] theorem RunRecord.step_state (r : RunRecord) : r.step.state = r.state := rfl

/-! ### The Run Table and the counter -/

/-- The Run Table's part of the invariants. -/
def State.TablesSound (s : State) : Prop := s.TableSound ∧ s.CounterSound

/-- The invariants of the Run Table read the table, the straps, and whether the station is on course. -/
theorem State.TablesSound.congr (h : s.TablesSound) (htable : t.table = s.table)
    (hstraps : t.station.straps = s.station.straps) (hcourse : s.onCourse = true → t.onCourse = true) :
    t.TablesSound := by
  obtain ⟨⟨hlen, hsorted, hsound, hfloor, hempty⟩, hcounter⟩ := h
  obtain ⟨_, hnumber, hgates, _⟩ := State.straps_frame hstraps
  refine ⟨⟨htable ▸ hlen, htable ▸ hsorted, htable ▸ hgates ▸ hsound, htable ▸ hfloor, fun hoff => ?_⟩, ?_⟩
  · rw [htable]
    exact hempty (Bool.eq_false_iff.2 fun hon => by simp [hcourse hon] at hoff)
  · unfold State.CounterSound at *
    rwa [htable, hnumber]

/-- A record of a sound table names a run that the counter and the highest run number bound (R1, R15). -/
theorem State.TablesSound.run_le (h : s.TablesSound) {r : RunRecord} (hr : r ∈ s.table.records) :
    r.run ≤ Config.maxRun ∧ (s.number = 0 → r.run < s.table.nextRun) := by
  obtain ⟨⟨_, _, hsound, _⟩, _, _, _, _, hcounter⟩ := h
  exact ⟨(hsound r hr).2.1, fun h0 => (hcounter h0).2 r hr⟩

/-- Records of a sound table are on course only in a station that is (R5). -/
theorem State.TablesSound.onCourse (h : s.TablesSound) {r : RunRecord} (hr : r ∈ s.table.records) :
    s.onCourse = true := by
  obtain ⟨⟨_, _, _, _, hempty⟩, _⟩ := h
  by_contra hoff
  have := (hempty (by simpa using hoff)).1
  simp [this] at hr

/-- The table with other records, which are sound, and no floor or counter changed. -/
theorem State.TablesSound.withRecords (h : s.TablesSound) {l : List RunRecord}
    (hcourse : l ≠ [] → s.onCourse = true) (hlen : l.length ≤ Config.tableCapacity)
    (hsorted : (l.map (fun r => r.run)).Pairwise (· < ·)) (hsound : ∀ r ∈ l, r.Sound s.gates)
    (hruns : s.number = 0 → ∀ r ∈ l, r.run < s.table.nextRun) : (s.withRecords l).TablesSound := by
  obtain ⟨⟨_, _, _, hfloor, hempty⟩, hc1, hc2, hc3, hc4, hc5⟩ := h
  refine ⟨⟨hlen, hsorted, hsound, hfloor, fun hoff => ⟨?_, (hempty hoff).2⟩⟩, hc1, hc2, hc3, hc4,
    fun h0 => ⟨(hc5 h0).1, hruns h0⟩⟩
  by_contra hne
  have hon := hcourse hne
  rw [show (s.withRecords l).onCourse = s.onCourse by simp] at hoff
  simp [hon] at hoff

/-- The floor raised to a run below the counter (R8, R9). -/
theorem State.TablesSound.raiseFloor (h : s.TablesSound) {run : Nat} (hmax : run ≤ Config.maxRun)
    (hcourse : s.onCourse = true) (hcounter : s.number = 0 → run < s.table.nextRun) :
    (s.raiseFloor run).TablesSound := by
  obtain ⟨⟨h1, h2, h3, hfloor, _⟩, hc1, hc2, hc3, hc4, hc5⟩ := h
  refine ⟨⟨h1, h2, h3, max_le hfloor hmax, fun hoff => ?_⟩, hc1, hc2, hc3, hc4, fun h0 =>
    ⟨max_lt (hc5 h0).1 (hcounter h0), (hc5 h0).2⟩⟩
  rw [show (s.raiseFloor run).onCourse = s.onCourse by simp] at hoff
  simp [hcourse] at hoff

/-- A new record for a run that the table does not hold (R7). -/
theorem State.TablesSound.create (h : s.TablesSound) {run : Nat} (learned : Bool)
    (habsent : s.lookup run = none) (hpos : 1 ≤ run) (hmax : run ≤ Config.maxRun)
    (hroom : s.table.records.length < Config.tableCapacity) (hcourse : s.onCourse = true)
    (hcounter : s.number = 0 → run < s.table.nextRun) : (s.create run learned).TablesSound := by
  obtain ⟨⟨_, hsorted, hsound, _⟩, _, _, _, _, hc5⟩ := id h
  have hnew : ∀ y ∈ s.table.records, y.run ≠ run := (s.lookup_eq_none run).1 habsent
  refine h.withRecords (fun _ => hcourse) ?_ (insertRecord_sorted _ _ hsorted (by simpa using hnew))
    (fun r hr => ?_) (fun h0 r hr => ?_)
  · rw [insertRecord_length]
    exact hroom
  · rcases (mem_insertRecord _ _ _).1 hr with rfl | hr
    · exact newRecord_sound learned hpos hmax
    · exact hsound r hr
  · rcases (mem_insertRecord _ _ _).1 hr with rfl | hr
    · exact hcounter h0
    · exact (hc5 h0).2 r hr

/-- Every act keeps the Run Table and station 0's counter sound (O52). -/
theorem Act.tables (h : Act x s t) (hs : s.TablesSound) : t.TablesSound := by
  have hcourse := h.onCourse
  have hstraps := h.straps
  obtain ⟨⟨hlen, hsorted, hsound, hfloor, hempty⟩, hc1, hc2, hc3, hc4, hc5⟩ := id hs
  cases h with
  | unseen h => exact hs.congr h.table hstraps hcourse
  | place e p hp h => exact hs.congr (by simp [State.place_frame h]) hstraps hcourse
  | nextRun n h0 hle hn =>
    have hmax : n ≤ Config.maxRun + 1 := by
      rcases hn with hn | ⟨r, hr, rfl⟩
      · exact hn
      · exact Nat.succ_le_succ (hs.run_le hr).1
    refine ⟨⟨hlen, hsorted, hsound, hfloor, hempty⟩, hc1.trans hle, hmax, hc3, fun hne => absurd h0 hne,
      fun _ => ⟨(hc5 h0).1.trans_le hle, fun r hr => ((hc5 h0).2 r hr).trans_le hle⟩⟩
  | create run learned habsent hf hmax hroom hon hcounter =>
    exact hs.create learned habsent (by omega) hmax hroom hon hcounter
  | evictCreate r run learned hr habsent hf hmax hon hcounter =>
    have hsub : (s.table.records.filter (fun y => y.run != r.run)).Sublist s.table.records :=
      List.filter_sublist
    have hlt : (s.table.records.filter (fun y => y.run != r.run)).length < s.table.records.length :=
      List.length_filter_lt_length_iff_exists.2 ⟨r, hr, by simp⟩
    have hevicted : (s.evict r.run).TablesSound :=
      (hs.withRecords (fun _ => hon) (hsub.length_le.trans hlen) (hsorted.sublist (hsub.map _))
        (fun y hy => hsound y (hsub.subset hy)) (fun h0 y hy => (hc5 h0).2 y (hsub.subset hy))).raiseFloor
        (hs.run_le hr).1 (by simpa using hon) (by simpa using (hs.run_le hr).2)
    refine hevicted.create learned ?_ (by omega) hmax (by simpa using hlt.trans_le hlen)
      (by simpa using hon) (by simpa using hcounter)
    rw [State.lookup_eq_none] at habsent ⊢
    exact fun y hy => habsent y (hsub.subset hy)
  | raiseFloor run hmax _ hon hcounter => exact hs.raiseFloor hmax hon hcounter
  | store r f hr =>
    have hmem : r ∈ s.table.records := List.mem_of_find?_eq_some hr
    have hruns := replaceRecord_runs (r.take f).stored s.table.records
    refine hs.withRecords (fun _ => hs.onCourse hmem) (by rwa [replaceRecord_length]) (by rwa [hruns])
      (fun y hy => ?_) (fun h0 y hy => ?_)
    · obtain ⟨z, hz, rfl⟩ := List.mem_map.1 hy
      split
      · exact RunRecord.take_stored_sound f (hsound r hmem)
      · exact hsound z hz
    · have : y.run ∈ s.table.records.map (fun r => r.run) := hruns ▸ List.mem_map_of_mem hy
      obtain ⟨z, hz, hrun⟩ := List.mem_map.1 this
      rw [← hrun]
      exact (hc5 h0).2 z hz
  | markStepped =>
    have hruns : (s.table.records.map (fun r => if r.settled then r else r.step)).map (fun r => r.run) =
        s.table.records.map (fun r => r.run) := by
      rw [List.map_map]
      refine List.map_congr_left fun r _ => ?_
      simp only [Function.comp]
      split <;> rfl
    refine hs.withRecords (fun hne => ?_) (by simpa using hlen) (by rwa [hruns]) (fun y hy => ?_)
      (fun h0 y hy => ?_)
    · obtain ⟨z, hz⟩ := List.exists_mem_of_ne_nil s.table.records (fun h => hne (by simp [h]))
      exact hs.onCourse hz
    · obtain ⟨z, hz, rfl⟩ := List.mem_map.1 hy
      split
      · exact hsound z hz
      · exact hsound z hz
    · obtain ⟨z, hz, rfl⟩ := List.mem_map.1 hy
      have := (hc5 h0).2 z hz
      split <;> exact this
  | newEpoch e _ hon =>
    exact ⟨⟨Nat.zero_le _, by simp [State.clearAssign, State.clearTable],
      by simp [State.clearAssign, State.clearTable], Nat.zero_le _, fun _ => ⟨rfl, rfl⟩⟩,
      le_rfl, by simp [State.clearAssign, State.clearTable], hc3, fun _ => rfl,
      fun _ => by simp [State.clearAssign, State.clearTable]⟩
  | mark e n hn =>
    have hmark : n ≤ Config.maxRun := hn.elim id (fun h => h.trans hc3)
    exact ⟨⟨hlen, hsorted, hsound, hfloor, hempty⟩, hc1, hc2, hmark, hc4, hc5⟩
  | setCounter founded hl =>
    have hoff : s.onCourse = false := by simp [State.onCourse, hl]
    unfold State.setCounter
    split
    next h0 =>
      obtain ⟨hnone, hzero⟩ := hempty hoff
      refine ⟨⟨hlen, hsorted, hsound, hfloor, hempty⟩, ?_, ?_, hc3, fun hne => absurd h0 hne, fun _ => ?_⟩
      · simp only [State.withNextRun]
        split <;> omega
      · simp only [State.withNextRun]
        split <;> omega
      · simp only [State.withNextRun, hnone, hzero]
        refine ⟨by split <;> omega, by simp⟩
    next => exact hs
  | _ => exact hs.congr (by simp) hstraps hcourse

end

end Sys2Proof.Machine
end

section
/-! PROOFS. A step is a sequence of acts, or it asserts or releases reset: the induction over acts, packaged
once, and the invariants of the Run Table (O52), of time, epoch and floor (O57), and of runs (O59). -/

namespace Sys2Proof.Machine

/-! ### What a step can do -/

/-- A command is a sequence of acts, or it asserts reset, or releases it (R142, R143, R147). -/
theorem exec_cases {c : Instr} {s t : State} (h : exec c s = .next t) :
    Moves (crosses c) s t ∨ (resets c = true ∧ ∃ cause, t = s.assertReset cause) ∨
      ∃ straps, s.station.state = .reset ∧ t = s.release straps := by
  have hassert : ∀ {u : State} (cause : ResetCause),
      Host.Outcome.next (φ := Fault) (ρ := Refusal) (if s.running then s.assertReset cause else u) = .next t →
        Moves false s u → Moves false s t ∨ ∃ cause, t = s.assertReset cause := by
    intro u cause h hu
    split at h
    · cases h; exact .inr ⟨cause, rfl⟩
    · cases h; exact .inl hu
  have hpower : Moves false s s.recordPower := State.Alike.moves (by constructor <;> rfl)
  by_cases hplain : resets c = false ∧ ∀ straps, c ≠ .resetReleased straps
  · obtain ⟨u, hu, hmoves⟩ := exec_moves c hplain.1 hplain.2 s
    rw [hu] at h
    cases h
    exact .inl hmoves
  cases c with
  | resetAsserted input =>
    rcases hassert _ h (by cases input; exacts [hpower, Moves.refl s]) with h | h
    · exact .inl h
    · exact .inr (.inl ⟨rfl, h⟩)
  | clockLoss =>
    rcases hassert _ h (Moves.refl s) with h | h
    · exact .inl h
    · exact .inr (.inl ⟨rfl, h⟩)
  | resetReleased straps =>
    have h' : Host.Outcome.next (φ := Fault) (ρ := Refusal)
        (if s.running then s else s.release straps) = .next t := h
    split at h'
    · cases h'; exact .inl (Moves.refl s)
    next hoff => cases h'; exact .inr (.inr ⟨straps, s.running_eq_false_iff.1 (by simpa using hoff), rfl⟩)
  | _ => exact absurd ⟨rfl, fun _ h => by cases h⟩ hplain

/-- A step is a sequence of acts, in which a crossing joins only where one is handed on; or it asserts reset;
or it releases it. -/
theorem step_cases {s t : State} (h : step s = .next t) :
    (∃ x, Moves x s t ∧ (x = true → ∃ c rest, s.pending = c :: rest ∧ crosses c = true ∧
        exec c { s with pending := rest } = .next t)) ∨
      (∃ c rest cause, s.pending = c :: rest ∧ resets c = true ∧
        t = State.assertReset { s with pending := rest } cause) ∨
      ∃ rest straps, s.station.state = .reset ∧ t = State.release { s with pending := rest } straps := by
  unfold step at h
  split at h
  next c rest hpending =>
    have hqueue : Moves (crosses c) s { s with pending := rest } :=
      State.Alike.moves (by constructor <;> rfl)
    rcases exec_cases h with hmoves | ⟨hc, cause, heq⟩ | ⟨straps, hstate, heq⟩
    · exact .inl ⟨crosses c, hqueue.trans hmoves, fun hx => ⟨c, rest, hpending, hx, h⟩⟩
    · exact .inr (.inl ⟨c, rest, cause, hpending, hc, heq⟩)
    · exact .inr (.inr ⟨rest, straps, hstate, heq⟩)
  next =>
    cases h
    exact .inl ⟨false, s.idleStep_moves, fun h => nomatch h⟩

/-! ### The induction over acts -/

/-- What every act keeps, a sequence of acts keeps. -/
theorem Moves.keeps {x : Bool} {P : State → Prop} (hact : ∀ s t, Act x s t → P s → P t) {s t : State}
    (h : Moves x s t) (hs : P s) : P t := by
  induction h with
  | refl => exact hs
  | tail _ h ih => exact hact _ _ h ih

/-- A transitive relation that holds of every act holds of a sequence of acts. -/
theorem Moves.relates {x : Bool} {R : State → State → Prop} (hrefl : ∀ s, R s s)
    (htrans : ∀ s t u, R s t → R t u → R s u) (hact : ∀ s t, Act x s t → R s t) {s t : State}
    (h : Moves x s t) : R s t := by
  induction h with
  | refl => exact hrefl _
  | tail _ h ih => exact htrans _ _ _ ih (hact _ _ h)

/-- A block of the state is at its values after reset (R142, R144). -/
structure State.AtReset (s : State) : Prop where
  clock : s.clock = Clock.reset
  table : s.table = RunTable.reset
  assign : s.assign = Assign.reset
  epoch : s.epoch = 0#16
  outbox : s.outbox = Outbox.reset
  receiver : s.receiver = Receiver.reset
  tx : s.line.tx = .off
  failed : s.line.failed = 0
  results : s.results = Results.reset

/-- In RESET every block is at its values after reset. -/
theorem State.ResetHeld.atReset {s : State} (h : s.ResetHeld) (hs : s.station.state = .reset) :
    s.AtReset := by
  have h := h hs
  constructor
  all_goals rw [h]; rfl

/-- An asserted reset leaves every block at its values after reset (R142). -/
theorem State.assertReset_atReset (s : State) (cause : ResetCause) : (s.assertReset cause).AtReset := by
  constructor <;> rfl

/-- Release samples the straps and leaves the blocks at their values after reset (R145, R147). -/
theorem State.AtReset.release {s : State} (h : s.AtReset) (straps : Straps) :
    (s.release straps).AtReset := by
  unfold State.release
  split
  · constructor <;> simp [h.clock, h.table, h.assign, h.epoch, h.outbox, h.receiver, h.tx, h.failed, h.results]
  · exact ⟨h.clock, h.table, h.assign, h.epoch, h.outbox, h.receiver, h.tx, h.failed, h.results⟩

/-- The queue is no block of the station's. -/
theorem State.AtReset.withPending {s : State} (h : s.AtReset) (l : List Instr) :
    State.AtReset { s with pending := l } :=
  ⟨h.clock, h.table, h.assign, h.epoch, h.outbox, h.receiver, h.tx, h.failed, h.results⟩

/-- The step lemma of an invariant: every act keeps it, and it holds of a state at its values after reset. -/
theorem step_keeps {P : State → Prop} (hact : ∀ x s t, Act x s t → P s → P t)
    (hreset : ∀ s, s.AtReset → P s) {s t : State} (hheld : s.ResetHeld) (hs : P s)
    (h : step s = .next t) : P t := by
  rcases step_cases h with ⟨x, hmoves, _⟩ | ⟨_, _, _, _, _, rfl⟩ | ⟨_, _, hstate, rfl⟩
  · exact hmoves.keeps (hact x) hs
  · exact hreset _ (State.assertReset_atReset _ _)
  · exact hreset _ (State.AtReset.release ((hheld.atReset hstate).withPending _) _)

/-! ### The Run Table -/

/-- The empty table of a reset state is sound (R5). -/
theorem State.AtReset.tables {s : State} (h : s.AtReset) : s.TablesSound := by
  have htable := h.table
  refine ⟨⟨?_, ?_, ?_, ?_, fun _ => ?_⟩, ?_, ?_, ?_, fun _ => ?_, fun _ => ?_⟩
  all_goals rw [htable]; simp [RunTable.reset]

/-- Settles O52: each act keeps the Run Table and the counter sound, and a step is a sequence of acts. -/
theorem stepsKeepTheRunTable : Obligations.StepsKeepTheRunTable :=
  fun _ _ hheld htable hcounter h =>
    step_keeps (fun _ _ _ hact hs => hact.tables hs) (fun _ hs => hs.tables) hheld ⟨htable, hcounter⟩ h

/-! ### Course time, the epoch and the floor -/

/-- Course time and the epoch do not go back, nor within an epoch the floor (R9, R27, R83). -/
def State.NotBefore (s t : State) : Prop :=
  s.clock.courseTime ≤ t.clock.courseTime ∧ s.epoch ≤ t.epoch ∧
    (s.epoch = t.epoch → s.table.floor ≤ t.table.floor)

/-- Nothing goes back where the clock, the epoch and the floor stay. -/
theorem State.NotBefore.of_eq {s t : State} (hclock : t.clock = s.clock) (hepoch : t.epoch = s.epoch)
    (hfloor : t.table.floor = s.table.floor) : s.NotBefore t :=
  ⟨by rw [hclock], by rw [hepoch]; exact BitVec.le_refl _, fun _ => by rw [hfloor]⟩

/-- Nothing goes back over several acts. -/
theorem State.NotBefore.trans {s t u : State} (h : s.NotBefore t) (h' : t.NotBefore u) : s.NotBefore u := by
  obtain ⟨hclock, hepoch, hfloor⟩ := h
  obtain ⟨hclock', hepoch', hfloor'⟩ := h'
  refine ⟨hclock.trans hclock', BitVec.le_trans hepoch hepoch', fun heq => ?_⟩
  have hst : s.epoch = t.epoch := BitVec.le_antisymm hepoch (heq ▸ hepoch')
  exact (hfloor hst).trans (hfloor' (hst ▸ heq))

/-- The epoch that LISTENING settles on (R85). -/
theorem State.settleEpoch_epoch (s : State) : s.epoch ≤ s.settleEpoch.epoch := by
  unfold State.settleEpoch
  split
  next h => rw [h]; exact Nat.zero_le _
  next => exact BitVec.le_refl _

/-- The epoch after a silencing error: settled where the station was LISTENING (R152). -/
theorem State.silence_epoch (s : State) :
    s.silence.epoch = s.epoch ∨ s.station.state = .listening ∧ s.silence.epoch = s.settleEpoch.epoch := by
  unfold State.silence
  split
  next h => exact .inr ⟨h, by simp [State.muteFromListening, State.releaseGate, State.enter]⟩
  all_goals exact .inl (by simp)

/-- No act goes back (O57). -/
theorem Act.notBefore {x : Bool} {s t : State} (h : Act x s t) : s.NotBefore t := by
  cases h with
  | unseen h => exact .of_eq h.clock h.epoch (by rw [h.table])
  | clock c hle _ _ _ => exact ⟨hle, BitVec.le_refl _, fun _ => le_rfl⟩
  | silence c _ _ =>
    refine ⟨by simp, ?_, fun _ => by simp⟩
    rcases (s.raise c).silence_epoch with h | ⟨_, h⟩ <;> rw [h]
    · simp
    · simpa using (s.raise c).settleEpoch_epoch
  | evictCreate r run learned => exact ⟨by simp, by simp, fun _ => le_max_left _ _⟩
  | raiseFloor run => exact ⟨le_rfl, BitVec.le_refl _, fun _ => le_max_left _ _⟩
  | newEpoch e h _ =>
    exact ⟨le_rfl, BitVec.le_of_lt h, fun heq => absurd h (by rw [heq]; exact BitVec.lt_irrefl _)⟩
  | raiseEpoch e h _ => exact ⟨le_rfl, h, fun _ => le_rfl⟩
  | place e p hp h =>
    exact .of_eq (by simp [State.place_frame h]) (by simp [State.place_frame h]) (by simp [State.place_frame h])
  | _ => exact .of_eq (by simp) (by simp) (by simp)

/-- Settles O57: no act goes back, and only the assertion of reset is more than acts and release. -/
theorem timeEpochAndFloorNeverGoBack : Obligations.TimeEpochAndFloorNeverGoBack := by
  intro s t hno h
  have hback : s.NotBefore t := by
    rcases step_cases h with ⟨x, hmoves, _⟩ | ⟨c, rest, _, hpending, hc, _⟩ | ⟨rest, straps, _, rfl⟩
    · exact hmoves.relates (R := State.NotBefore) (fun _ => .of_eq rfl rfl rfl) (fun _ _ _ => State.NotBefore.trans)
        (fun _ _ h => h.notBefore)
    · simp [hno c rest hpending] at hc
    · unfold State.release
      split
      · exact .of_eq (by simp) (by simp) (by simp)
      · exact .of_eq rfl rfl rfl
  exact hback

/-! ### Runs -/

/-- A record that holds what another one of its run holds, and more (R1, R3, R14). -/
structure RunRecord.Follows (y r : RunRecord) : Prop where
  run : y.run = r.run
  start : r.start ≠ none → y.start = r.start
  splits : ∀ g p, r.splits.getD g none = some p → y.splits.getD g none = some p
  slots : y.splits.length = r.splits.length
  voided : r.voided = true → y.voided = true
  dnfed : r.dnfed = true → y.dnfed = true
  manualStart : r.manualStart = true → y.manualStart = true
  stepped : r.stepped = true → y.stepped = true
  carriesStepped : r.carriesStepped = true → y.carriesStepped = true
  corrected : r.corrected = true → y.corrected = true
  learned : y.learned = r.learned

/-- A record follows itself. -/
theorem RunRecord.Follows.refl (r : RunRecord) : r.Follows r :=
  ⟨rfl, fun _ => rfl, fun _ _ h => h, rfl, id, id, id, id, id, id, rfl⟩

/-- What follows a record that follows another one follows that one. -/
theorem RunRecord.Follows.trans {z y r : RunRecord} (h : z.Follows y) (h' : y.Follows r) : z.Follows r :=
  ⟨h.run.trans h'.run, fun hr => (h.start (h'.start hr ▸ hr)).trans (h'.start hr),
    fun g p hp => h.splits g p (h'.splits g p hp), h.slots.trans h'.slots, h.voided ∘ h'.voided,
    h.dnfed ∘ h'.dnfed, h.manualStart ∘ h'.manualStart, h.stepped ∘ h'.stepped,
    h.carriesStepped ∘ h'.carriesStepped, h.corrected ∘ h'.corrected, h.learned.trans h'.learned⟩

/-- The state of a record that follows another is the same or a later one (R192). -/
theorem RunRecord.Follows.rank_le {y r : RunRecord} (h : y.Follows r) :
    RunState.rank r.state ≤ RunState.rank y.state := by
  refine RunRecord.rank_le h.voided (fun hr => ?_) h.dnfed
  obtain ⟨p, hp⟩ := Option.isSome_iff_exists.1 hr
  rw [RunRecord.finish_eq] at hp
  rw [RunRecord.finish_eq, h.slots, h.splits _ p hp]
  rfl

/-- The record that is stored after a fact follows the one before it (R10 to R12, R19). -/
theorem RunRecord.take_stored_follows (r : RunRecord) (f : Fact) : (r.take f).stored.Follows r := by
  obtain ⟨hvoid, hdnf, hmanual⟩ := r.take_rulings_kept f
  refine ⟨by simp, fun h => ?_, fun g p h => ?_, by simp, ?_, ?_, ?_, by simp, by simp, ?_, by simp⟩
  · simpa using r.take_started f h
  · simpa using r.take_splits_kept f g p h
  · simpa using hvoid
  · simpa using hdnf
  · simpa using hmanual
  · intro h
    unfold RunRecord.stored
    split <;> simp [h]

/-- A record marked STEPPED follows the one before (R13). -/
theorem RunRecord.step_follows (r : RunRecord) : r.step.Follows r :=
  ⟨rfl, fun _ => rfl, fun _ _ h => h, rfl, id, id, id, fun _ => rfl,
    fun h => by simp [h], id, rfl⟩

/-- A run has left the table for good: it has no record, and lies at or below the floor (R7, R9). -/
def State.Gone (s : State) (run : Nat) : Prop := s.lookup run = none ∧ run ≤ s.table.floor

/-- Every record is followed by one, or gone; and what is gone stays gone. -/
def State.RunsKept (s t : State) : Prop :=
  (∀ r ∈ s.table.records, (∃ y ∈ t.table.records, y.Follows r) ∨ t.Gone r.run) ∧
    ∀ run, s.Gone run → t.Gone run

/-- The session changed between two states, or the runs are kept: what every act does (O59). -/
def State.RunsUpward (s t : State) : Prop := s.epoch ≤ t.epoch ∧ (s.epoch < t.epoch ∨ s.RunsKept t)

/-- The runs are kept where the table is. -/
theorem State.RunsUpward.of_eq {s t : State} (hepoch : s.epoch ≤ t.epoch)
    (hrecords : t.table.records = s.table.records) (hfloor : t.table.floor = s.table.floor) :
    s.RunsUpward t := by
  refine ⟨hepoch, .inr ⟨fun r hr => .inl ⟨r, hrecords ▸ hr, .refl r⟩, fun run h => ?_⟩⟩
  unfold State.Gone State.lookup at *
  rwa [hrecords, hfloor]

/-- Runs move upward over several acts. -/
theorem State.RunsUpward.trans {s t u : State} (h : s.RunsUpward t) (h' : t.RunsUpward u) :
    s.RunsUpward u := by
  obtain ⟨hle, h⟩ := h
  obtain ⟨hle', h'⟩ := h'
  refine ⟨BitVec.le_trans hle hle', ?_⟩
  rcases h with hlt | ⟨hkept, hgone⟩
  · exact .inl (Nat.lt_of_lt_of_le hlt hle')
  rcases h' with hlt | ⟨hkept', hgone'⟩
  · exact .inl (Nat.lt_of_le_of_lt hle hlt)
  refine .inr ⟨fun r hr => ?_, fun run h => hgone' run (hgone run h)⟩
  rcases hkept r hr with ⟨y, hy, hfollows⟩ | hg
  · rcases hkept' y hy with ⟨z, hz, hfollows'⟩ | hg'
    · exact .inl ⟨z, hz, hfollows'.trans hfollows⟩
    · exact .inr (hfollows.run ▸ hg')
  · exact .inr (hgone' _ hg)

/-- A run that is gone is not the one a new record is made for. -/
theorem State.Gone.insert {s t : State} {run : Nat} {new : RunRecord} {kept : List RunRecord}
    (h : s.Gone run) (hnew : s.table.floor < new.run) (hkept : kept ⊆ s.table.records)
    (hrecords : t.table.records = insertRecord new kept) (hfloor : s.table.floor ≤ t.table.floor) :
    t.Gone run := by
  obtain ⟨habsent, hle⟩ := h
  refine ⟨?_, hle.trans hfloor⟩
  rw [State.lookup_eq_none] at habsent ⊢
  intro y hy
  rw [hrecords] at hy
  rcases (mem_insertRecord _ _ _).1 hy with rfl | hy
  · omega
  · exact habsent y (hkept hy)

/-- Every act moves runs upward alone (O59). -/
theorem Act.runsUpward {x : Bool} {s t : State} (h : Act x s t) (hs : s.TablesSound) :
    s.RunsUpward t := by
  have hepoch := h.notBefore.2.1
  cases h with
  | unseen h => exact .of_eq hepoch (by rw [h.table]) (by rw [h.table])
  | create run learned habsent hfloor hmax hroom hon hcounter =>
    refine ⟨hepoch, .inr ⟨fun r hr => .inl ⟨r, (mem_insertRecord _ _ _).2 (.inr hr), .refl r⟩,
      fun n hn => hn.insert (new := newRecord s.gates run learned) (by simpa using hfloor)
        (List.Subset.refl _) rfl le_rfl⟩⟩
  | evictCreate r run learned hr habsent hfloor hmax hon hcounter =>
    refine ⟨hepoch, .inr ⟨fun y hy => ?_, fun n hn => hn.insert
      (new := newRecord s.gates run learned) (by simpa using hfloor) (List.filter_subset_self _) rfl
      (le_max_left _ _)⟩⟩
    by_cases hrun : y.run = r.run
    · refine .inr ⟨?_, hrun ▸ le_max_right _ _⟩
      rw [State.lookup_eq_none, hrun]
      intro z hz
      rcases (mem_insertRecord _ _ _).1 hz with rfl | hz
      · exact fun h => (s.lookup_eq_none run).1 habsent r hr (by simpa using h.symm)
      · simpa using (List.mem_filter.1 hz).2
    · exact .inl ⟨y, (mem_insertRecord _ _ _).2 (.inr (List.mem_filter.2 ⟨hy, by simpa using hrun⟩)), .refl y⟩
  | raiseFloor run hmax habsent hon hcounter =>
    exact ⟨hepoch, .inr ⟨fun r hr => .inl ⟨r, hr, .refl r⟩,
      fun n hn => ⟨hn.1, hn.2.trans (le_max_left _ _)⟩⟩⟩
  | store r f hr =>
    refine ⟨hepoch, .inr ⟨fun y hy => .inl ?_, fun n hn => ⟨?_, hn.2⟩⟩⟩
    · by_cases hrun : y.run = r.run
      · have hyr : y = r := by
          have := State.lookup_of_mem hs.1 hy
          rw [hrun, hr] at this
          exact (Option.some.inj this).symm
        exact ⟨_, mem_replaceRecord_self hy (by simp [hrun]), hyr ▸ y.take_stored_follows f⟩
      · exact ⟨y, List.mem_map.2 ⟨y, hy, if_neg (by simpa using hrun)⟩, .refl y⟩
    · have habsent := (s.lookup_eq_none n).1 hn.1
      refine (State.lookup_eq_none _ n).2 fun y hy => ?_
      have hmem : y.run ∈ s.table.records.map (fun r => r.run) :=
        replaceRecord_runs (r.take f).stored s.table.records ▸ List.mem_map_of_mem hy
      obtain ⟨z, hz, hrun⟩ := List.mem_map.1 hmem
      exact hrun ▸ habsent z hz
  | markStepped =>
    refine ⟨hepoch, .inr ⟨fun r hr => .inl ⟨_, List.mem_map_of_mem hr, ?_⟩, fun n hn => ⟨?_, hn.2⟩⟩⟩
    · split
      · exact .refl r
      · exact r.step_follows
    · have habsent := (s.lookup_eq_none n).1 hn.1
      refine (State.lookup_eq_none _ n).2 fun y hy => ?_
      obtain ⟨z, hz, rfl⟩ := List.mem_map.1 hy
      split <;> exact habsent z hz
  | newEpoch e h _ => exact ⟨hepoch, .inl h⟩
  | place e p hp h => exact .of_eq hepoch (by simp [State.place_frame h]) (by simp [State.place_frame h])
  | _ => exact .of_eq hepoch (by simp) (by simp)

/-- Runs move upward over a sequence of acts. -/
theorem Moves.runsUpward {x : Bool} {s t : State} (h : Moves x s t) (hs : s.TablesSound) :
    s.RunsUpward t := by
  induction h with
  | refl => exact .of_eq (BitVec.le_refl _) rfl rfl
  | tail hfirst hlast ih => exact ih.trans (hlast.runsUpward (Moves.keeps (fun _ _ => Act.tables) hfirst hs))

/-- Settles O59: each act keeps a record's facts and marks, and what goes is under the floor, or goes with the
session. -/
theorem runsOnlyMoveUpward : Obligations.RunsOnlyMoveUpward := by
  intro s t r htable hcounter hheld h hr
  rcases step_cases h with ⟨x, hmoves, _⟩ | ⟨_, _, _, _, _, rfl⟩ | ⟨_, _, hstate, _⟩
  · rcases (hmoves.runsUpward ⟨htable, hcounter⟩).2 with hlt | ⟨hkept, _⟩
    · exact .inr (.inr (.inl hlt))
    rcases hkept r hr with ⟨y, hy, hf⟩ | ⟨habsent, hfloor⟩
    · exact .inl ⟨y, hy, hf.run, hf.rank_le, hf.start, hf.splits, hf.voided, hf.dnfed, hf.manualStart,
        hf.stepped, hf.carriesStepped, hf.corrected, hf.learned⟩
    · exact .inr (.inl ⟨(t.lookup_eq_none r.run).1 habsent, hfloor⟩)
  · exact .inr (.inr (.inr rfl))
  · rw [(hheld.atReset hstate).table] at hr
    cases hr

end Sys2Proof.Machine
end

section
/-! PROOFS. The Outbox ring, the Control List and the frame on the line (O54). -/

namespace Sys2Proof.Machine

/-! ### Lists numbered one after the other -/

/-- The entries bear the numbers up to the next one, without a gap (R99, R160). -/
def Numbered {α : Type} (number : α → Byte) (next : Byte) (l : List α) : Prop :=
  ∀ i, ∀ h : i < l.length, number (l[i]'h) = next - BitVec.ofNat 8 (l.length - i)

/-- The list without its first entry is numbered as before. -/
theorem Numbered.tail {α : Type} {number : α → Byte} {next : Byte} {a : α} {l : List α}
    (h : Numbered number next (a :: l)) : Numbered number next l := by
  intro i hi
  have := h (i + 1) (by simpa using hi)
  simpa using this

/-- One more entry takes the next number. -/
theorem Numbered.append {α : Type} {number : α → Byte} {next : Byte} {a : α} {l : List α}
    (h : Numbered number next l) (ha : number a = next) : Numbered number (next + 1) (l ++ [a]) := by
  intro i hi
  by_cases hlt : i < l.length
  · rw [List.getElem_append_left hlt, h i hlt]
    have : (l ++ [a]).length - i = (l.length - i) + 1 := by
      simp only [List.length_append, List.length_singleton]
      omega
    rw [this]
    have hone : (1 : Byte).toNat = 1 := rfl
    apply BitVec.eq_of_toNat_eq
    simp only [BitVec.toNat_sub, BitVec.toNat_add, BitVec.toNat_ofNat, hone]
    omega
  · have hilen : i = l.length := by
      simp only [List.length_append, List.length_singleton] at hi
      omega
    subst hilen
    simp [ha]

/-- Numbers read through an equal reading. -/
theorem Numbered.of_map {α β : Type} {f : α → Byte} {g : β → Byte} {next : Byte} {l : List α} {m : List β}
    (h : Numbered f next l) (hmap : m.map g = l.map f) : Numbered g next m := by
  intro i hi
  have hlen : m.length = l.length := by simpa using congrArg List.length hmap
  have hi' : i < l.length := hlen ▸ hi
  have hget : g m[i] = f l[i] := by
    have := congrArg (fun k => k[i]?) hmap
    simpa [hi, hi'] using this
  rw [hget, hlen, h i hi']

/-! ### The ring -/

/-- The order of the ring: SENT entries come before UNSENT ones (R100). -/
def SentFirst (ring : List RingEntry) : Prop :=
  (ring.map (fun e => e.sent)).Pairwise (fun a b => b = true → a = true)

/-- In a ring that holds a SENT entry the first one is SENT, and it is the one given up (R100). -/
theorem SentFirst.eraseP_eq_tail {ring : List RingEntry} (h : SentFirst ring)
    (hsent : ring.any (fun e => e.sent) = true) :
    ∃ e es, ring = e :: es ∧ e.sent = true ∧ ring.eraseP (fun e => e.sent) = es := by
  cases ring with
  | nil => cases hsent
  | cons e es =>
    have hhead : e.sent = true := by
      by_contra hne
      have hrest : es.any (fun e => e.sent) = true := by simpa [hne] using hsent
      obtain ⟨y, hy, hys⟩ := List.any_eq_true.1 hrest
      obtain ⟨hfirst, _⟩ := List.pairwise_cons.1 (show List.Pairwise _ (e.sent :: es.map _) from h)
      exact hne (hfirst _ (List.mem_map_of_mem hy) hys)
    exact ⟨e, es, rfl, hhead, by simp [hhead]⟩

/-- The ring with room made is the ring, or the ring without its first entry, which is SENT (R100). -/
theorem ringRoom_cases {ring room : List RingEntry} (h : ringRoom ring = some room) (hs : SentFirst ring) :
    (room = ring ∧ ring.length < Config.ringCapacity) ∨ ∃ e, e.sent = true ∧ ring = e :: room := by
  unfold ringRoom at h
  split at h
  next hlen => cases h; exact .inl ⟨rfl, hlen⟩
  · split at h
    next hany =>
      cases h
      obtain ⟨e, es, heq, hsent, herase⟩ := hs.eraseP_eq_tail hany
      exact .inr ⟨e, hsent, by rw [herase]; exact heq⟩
    next => cases h

/-- An UNSENT entry at the end keeps the order (R99). -/
theorem SentFirst.append_unsent {ring : List RingEntry} {e : RingEntry} (h : SentFirst ring)
    (he : e.sent = false) : SentFirst (ring ++ [e]) := by
  unfold SentFirst at *
  rw [List.map_append, List.pairwise_append]
  exact ⟨h, by simp, fun a _ b hb => by simp_all⟩

/-- The frames of a ring stay as its oldest UNSENT entry becomes SENT (R101). -/
theorem markSent_frames (ring : List RingEntry) :
    (markSent ring).map (fun e => e.frame) = ring.map (fun e => e.frame) := by
  induction ring with
  | nil => rfl
  | cons e es ih =>
    unfold markSent
    split <;> simp [ih]

/-- Marking the oldest UNSENT entry SENT keeps the order (R101). -/
theorem SentFirst.markSent {ring : List RingEntry} (h : SentFirst ring) : SentFirst (markSent ring) := by
  induction ring with
  | nil => exact h
  | cons e es ih =>
    obtain ⟨_, hrest⟩ := List.pairwise_cons.1 (show List.Pairwise _ (e.sent :: es.map _) from h)
    unfold Machine.markSent
    split
    next hsent => exact List.pairwise_cons.2 ⟨fun _ _ _ => hsent, ih hrest⟩
    next => exact List.pairwise_cons.2 ⟨fun _ _ _ => rfl, hrest⟩

/-! ### The Outbox's part of the invariants -/

/-- The ring, the Control List and the frame on the line are sound (R99 to R105). -/
def State.OutboxSound (s : State) : Prop := s.RingSound ∧ s.ControlSound ∧ s.SendingSound

section
variable {x : Bool} {s t : State}

/-- The Outbox's invariants read the ring, the Control List, the first beacon, the straps and the transmit
state; the frame on the line, where there is one, is the one that was. -/
theorem State.OutboxSound.congr (h : s.OutboxSound) (hring : t.outbox.ring = s.outbox.ring)
    (hseq : t.outbox.nextSeq = s.outbox.nextSeq) (hcontrol : t.outbox.control = s.outbox.control)
    (hfirst : t.outbox.firstBeaconSent = s.outbox.firstBeaconSent)
    (hstraps : t.station.straps = s.station.straps)
    (htx : ∀ source frame n, t.line.tx = .sending source frame n →
      ∃ m, s.line.tx = .sending source frame m) : t.OutboxSound := by
  obtain ⟨_, _, _, hbyte, _⟩ := State.straps_frame hstraps
  obtain ⟨hr, hc, hs⟩ := h
  refine ⟨?_, ?_, fun source frame n hn => ?_⟩
  · unfold State.RingSound at *
    rwa [hring, hseq, hbyte]
  · unfold State.ControlSound at *
    rwa [hcontrol, hbyte]
  · obtain ⟨m, hm⟩ := htx source frame n hn
    have := hs source frame m hm
    unfold State.oldestUnsent at *
    rwa [hbyte, hfirst, hcontrol, hring]

/-- A part of a sound Control List is sound (R102). -/
theorem State.ControlSound.sublist (h : s.ControlSound) {l : List ControlEntry}
    (hl : l.Sublist s.outbox.control) (hcontrol : t.outbox.control = l)
    (hbyte : t.stationByte = s.stationByte) : t.ControlSound := by
  obtain ⟨hlen, hpair, hcopy⟩ := h
  unfold State.ControlSound
  rw [hcontrol, hbyte]
  exact ⟨hl.length_le.trans hlen, hpair.sublist hl, fun f hf => hcopy f (hl.subset hf)⟩

/-- A frame that takes a place keeps the Outbox sound (R99, R100). -/
theorem State.OutboxSound.place (h : s.OutboxSound) {e : Word16} {p : Payload}
    (hp : p.sequenced = true) (hplace : s.place e p = some t) : t.OutboxSound := by
  obtain ⟨⟨hlen, hframes, hnumbered, hsentFirst⟩, hcontrol, hsending⟩ := h
  have hnumbered : Numbered (fun e : RingEntry => e.frame.header.seq) s.outbox.nextSeq s.outbox.ring :=
    hnumbered
  unfold State.place at hplace
  split at hplace
  next room hroom =>
    cases hplace
    rcases ringRoom_cases hroom hsentFirst with ⟨rfl, hlt⟩ | ⟨old, hold, heq⟩
    · refine ⟨⟨by simpa using hlt, fun y hy => ?_, Numbered.append hnumbered rfl,
        SentFirst.append_unsent hsentFirst rfl⟩, hcontrol, fun source frame n hn => ?_⟩
      · rcases List.mem_append.1 hy with hy | hy
        · exact hframes y hy
        · rw [List.mem_singleton.1 hy]
          exact ⟨hp, rfl⟩
      · obtain ⟨hbyte, hring, hctl⟩ := hsending source frame n hn
        refine ⟨hbyte, fun hs => ⟨(hring hs).1, ?_⟩, hctl⟩
        have := (hring hs).2
        unfold State.oldestUnsent at this ⊢
        obtain ⟨y, hy, hyf⟩ := Option.map_eq_some_iff.1 this
        simp [List.find?_append, hy, hyf]
    · have htail : SentFirst room := by
        rw [heq] at hsentFirst
        exact (List.pairwise_cons.1 (show List.Pairwise _ (old.sent :: room.map _) from hsentFirst)).2
      have hnum : Numbered (fun e : RingEntry => e.frame.header.seq) s.outbox.nextSeq room := by
        rw [heq] at hnumbered
        exact hnumbered.tail
      refine ⟨⟨by simpa [heq] using hlen, fun y hy => ?_, Numbered.append hnum rfl,
        SentFirst.append_unsent htail rfl⟩, hcontrol, fun source frame n hn => ?_⟩
      · rcases List.mem_append.1 hy with hy | hy
        · exact hframes y (by rw [heq]; exact List.mem_cons_of_mem _ hy)
        · rw [List.mem_singleton.1 hy]
          exact ⟨hp, rfl⟩
      · obtain ⟨hbyte, hring, hctl⟩ := hsending source frame n hn
        refine ⟨hbyte, fun hs => ⟨(hring hs).1, ?_⟩, hctl⟩
        have := (hring hs).2
        unfold State.oldestUnsent at this ⊢
        rw [heq, List.find?_cons_of_neg (by simp [hold])] at this
        obtain ⟨y, hy, hyf⟩ := Option.map_eq_some_iff.1 this
        simp [List.find?_append, hy, hyf]
  next => cases hplace

/-- The Control List with an entry offered is the list, or one entry longer (R102). -/
theorem State.addControl_control (s : State) (e : ControlEntry) :
    (s.addControl e).outbox.control = s.outbox.control ∨
      (s.addControl e).outbox.control = s.outbox.control ++ [e] ∧
        s.outbox.control.length < Config.controlCapacity ∧
        ∀ y ∈ s.outbox.control, y.same e = false := by
  unfold State.addControl
  split
  next h => exact .inr ⟨rfl, h.2.1, by simpa using h.2.2⟩
  next => exact .inl rfl

/-- An entry offered keeps the Outbox sound (R102, R103). -/
theorem State.OutboxSound.addControl (h : s.OutboxSound) {e : ControlEntry}
    (he : ∀ f, e = .copy f → ∃ y ∈ s.outbox.ring, y.frame = f) : (s.addControl e).OutboxSound := by
  rcases s.addControl_control e with hsame | ⟨hadd, hlt, hnew⟩
  · exact h.congr (by simp) (by simp) hsame (by simp) (by simp) (fun _ _ n hn => ⟨n, by simpa using hn⟩)
  obtain ⟨hring, ⟨hlen, hpair, hcopy⟩, hsending⟩ := h
  refine ⟨by unfold State.RingSound at *; simpa using hring, ?_, fun source frame n hn => ?_⟩
  · unfold State.ControlSound
    rw [hadd]
    refine ⟨by simpa using hlt, List.pairwise_append.2 ⟨hpair, by simp, fun a ha b hb => ?_⟩, fun f hf => ?_⟩
    · rw [List.mem_singleton.1 hb]
      exact hnew a ha
    · rcases List.mem_append.1 hf with hf | hf
      · simpa using hcopy f hf
      · obtain ⟨y, hy, rfl⟩ := he f (List.mem_singleton.1 hf).symm
        simpa using hring.2.1 y hy
  · obtain ⟨hbyte, hr, _⟩ := hsending source frame n (by simpa using hn)
    have hold : (s.addControl e).oldestUnsent = s.oldestUnsent := by simp [State.oldestUnsent]
    exact ⟨by simpa using hbyte, fun hs => ⟨by simpa using (hr hs).1, hold ▸ (hr hs).2⟩,
      fun _ => by simp [hadd]⟩

/-- REPEATs that are removed keep the Outbox sound: the entry on the line stays (R110, R120). -/
theorem State.OutboxSound.dropRepeats (h : s.OutboxSound) (test : Byte → Byte → Bool) :
    (s.dropRepeats test).OutboxSound := by
  obtain ⟨hring, hcontrol, hsending⟩ := h
  have hsub : (s.dropRepeats test).outbox.control.Sublist s.outbox.control := by
    have := (List.Sublist.refl (s.outbox.control.take s.controlOnLine)).append
      (List.filter_sublist (l := s.outbox.control.drop s.controlOnLine)
        (p := fun e => match e with | .askRepeat o q => !test o q | .copy _ | .gone _ _ _ => true))
    rwa [List.take_append_drop] at this
  refine ⟨hring, hcontrol.sublist hsub rfl rfl, fun source frame n hn => ?_⟩
  obtain ⟨hbyte, hr, hc⟩ := hsending source frame n hn
  refine ⟨hbyte, hr, fun hs => ?_⟩
  have hline : s.controlOnLine = 1 := by
    have hn' : s.line.tx = .sending source frame n := hn
    simp [State.controlOnLine, hn', hs]
  have hne := hc hs
  simp only [State.dropRepeats, hline]
  cases hlist : s.outbox.control with
  | nil => exact absurd hlist hne
  | cons e es => simp

/-- The frame that the Outbox chooses stands in it (R105). -/
theorem State.OutboxSound.chooseFrame (h : s.OutboxSound) {source : TxSource} {frame : Frame}
    (hchoose : s.chooseFrame = some (source, frame)) :
    frame.header.station = s.stationByte ∧
      (source = .ring → s.outbox.firstBeaconSent = true ∧ s.oldestUnsent = some frame) ∧
      (source = .control → s.outbox.control ≠ []) := by
  obtain ⟨hring, hcontrol, _⟩ := h
  unfold State.chooseFrame at hchoose
  split at hchoose
  next e es hlist =>
    cases hchoose
    refine ⟨?_, fun h => (nomatch h), fun _ => by simp [hlist]⟩
    cases he : e with
    | copy f => exact (hcontrol.2.2 f (by simp [hlist, he])).2
    | gone _ _ _ => rfl
    | askRepeat _ _ => rfl
  · split at hchoose
    · cases hchoose
      exact ⟨rfl, fun h => (nomatch h), fun h => (nomatch h)⟩
    · split at hchoose
      next hfirst =>
        obtain ⟨f, hf, heq⟩ := Option.map_eq_some_iff.1 hchoose
        cases heq
        refine ⟨?_, fun _ => ⟨hfirst, hf⟩, fun h => nomatch h⟩
        obtain ⟨y, hy, rfl⟩ := Option.map_eq_some_iff.1 hf
        exact (hring.2.1 y (List.mem_of_find?_eq_some hy)).2
      next => cases hchoose

/-- What a silencing error does to the Control List and the transmit state: nothing, or it empties the list
and turns the unit off (R104, R152). -/
theorem State.silence_speaking (s : State) :
    (s.silence.outbox.control = s.outbox.control ∧ s.silence.line.tx = s.line.tx) ∨
      s.silence.outbox.control = [] ∧ s.silence.line.tx = .off := by
  unfold State.silence
  split
  · exact .inl (by simp [State.muteFromListening, State.enter, State.releaseGate])
  · exact .inr (by simp [State.muteFromActive, State.stopSpeaking, State.strayEntries])
  · exact .inr ⟨rfl, rfl⟩
  all_goals exact .inl ⟨rfl, rfl⟩

/-- Every act keeps the Outbox sound (O54). -/
theorem Act.outbox (h : Act x s t) (hs : s.OutboxSound) : t.OutboxSound := by
  have hstraps := h.straps
  cases h with
  | unseen h =>
    exact hs.congr h.ring h.nextSeq h.control h.first hstraps (fun _ _ n hn => ⟨n, h.tx ▸ hn⟩)
  | silence c _ _ =>
    rcases (s.raise c).silence_speaking with ⟨hcontrol, htx⟩ | ⟨hcontrol, htx⟩
    · exact hs.congr (by simp) (by simp) (by simpa using hcontrol) (by simp) hstraps
        (fun _ _ n hn => ⟨n, by simpa [htx] using hn⟩)
    · obtain ⟨hring, hctl, _⟩ := hs
      refine ⟨by unfold State.RingSound at *; simpa using hring,
        hctl.sublist (List.nil_sublist _) hcontrol (by simp), fun _ _ _ hn => ?_⟩
      rw [htx] at hn
      cases hn
  | enterActive _ _ =>
    exact hs.congr (by simp) (by simp) (by simp) (by simp) hstraps
      (fun _ _ n hn => by simp [State.becomeActive] at hn)
  | place e p hp h => exact hs.place hp h
  | addControl e he => exact hs.addControl he
  | dropRepeats test => exact hs.dropRepeats test
  | line l _ hsending => exact hs.congr rfl rfl rfl rfl hstraps hsending
  | startSending source frame l due hchoose hl _ _ =>
    obtain ⟨hring, hcontrol, _⟩ := id hs
    refine ⟨hring, hcontrol, fun source' frame' n hn => ?_⟩
    have hn' : l.tx = .sending source' frame' n := hn
    rw [hl] at hn'
    cases hn'
    exact hs.chooseFrame hchoose
  | frameSent source frame hfree =>
    obtain ⟨⟨hlen, hframes, hnumbered, hsentFirst⟩, hcontrol, hsending⟩ := id hs
    have hnone : ∀ u : State, u.line = s.line → u.SendingSound := by
      intro u hu source' frame' n hn
      rw [hu] at hn
      simp [State.sending, hn] at hfree
    cases source with
    | control =>
      exact ⟨⟨hlen, hframes, hnumbered, hsentFirst⟩, hcontrol.sublist (List.drop_sublist 1 _) rfl rfl,
        hnone _ rfl⟩
    | beacon => exact ⟨⟨hlen, hframes, hnumbered, hsentFirst⟩, hcontrol, hnone _ rfl⟩
    | ring =>
      have hmap := markSent_frames s.outbox.ring
      have hlen' : (markSent s.outbox.ring).length = s.outbox.ring.length := by
        simpa using congrArg List.length hmap
      have hnum : Numbered (fun e : RingEntry => e.frame.header.seq) s.outbox.nextSeq s.outbox.ring :=
        hnumbered
      have hnum' : Numbered (fun e : RingEntry => e.frame.header.seq) s.outbox.nextSeq
          (markSent s.outbox.ring) :=
        hnum.of_map (by
          have hseq := congrArg (List.map (fun f : Frame => f.header.seq)) hmap
          rw [List.map_map, List.map_map] at hseq
          exact hseq)
      have hfirst : SentFirst s.outbox.ring := hsentFirst
      refine ⟨⟨hlen'.trans_le hlen, fun y hy => ?_, hnum', hfirst.markSent⟩, hcontrol, hnone _ rfl⟩
      have hmem : y.frame ∈ s.outbox.ring.map (fun e => e.frame) := hmap ▸ List.mem_map_of_mem hy
      obtain ⟨z, hz, hzy⟩ := List.mem_map.1 hmem
      exact hzy ▸ hframes z hz
  | _ => exact hs.congr (by simp) (by simp) (by simp) (by simp) hstraps (fun _ _ n hn => ⟨n, by simpa using hn⟩)

/-- The empty Outbox of a reset state is sound (R99, R102). -/
theorem State.AtReset.outboxSound (h : s.AtReset) : s.OutboxSound := by
  have hout := h.outbox
  refine ⟨?_, ?_, fun source frame n hn => ?_⟩
  · unfold State.RingSound
    rw [hout]
    simp [Outbox.reset]
  · unfold State.ControlSound
    rw [hout]
    simp [Outbox.reset]
  · rw [h.tx] at hn
    cases hn

/-! ### The settled line -/

/-- A unit is settled where it is IDLE only if it was, and the Outbox has what it had (R131). -/
theorem State.LineSettled.congr (h : s.LineSettled) (htx : t.line.tx = .idle → s.line.tx = .idle)
    (hready : t.frameReady = s.frameReady) : t.LineSettled :=
  fun hidle => hready.trans (h (htx hidle))

/-- A unit that settles is settled (R131). -/
theorem State.settleLine_lineSettled (s : State) : s.settleLine.LineSettled := by
  intro hidle
  unfold State.settleLine at *
  split at hidle
  next h => simp [State.startWaiting] at hidle
  next h =>
    rw [if_neg h]
    exact Bool.eq_false_iff.2 fun hready => h ⟨hidle, hready⟩

/-- A unit is settled after a frame (R136, R137). -/
theorem State.afterFrame_lineSettled (s : State) : s.afterFrame.LineSettled := by
  intro hidle
  have hready : s.afterFrame.frameReady = s.frameReady := by simp [State.frameReady]
  rw [hready]
  by_contra hne
  simp [State.afterFrame, hne, State.startWaiting] at hidle

/-- The readiness of a frame is read from the Outbox alone (R105). -/
theorem State.frameReady_congr (hring : t.outbox.ring = s.outbox.ring)
    (hcontrol : t.outbox.control = s.outbox.control)
    (hfirst : t.outbox.firstBeaconSent = s.outbox.firstBeaconSent)
    (hdue : t.outbox.beaconDue = s.outbox.beaconDue) : t.frameReady = s.frameReady := by
  unfold State.frameReady
  rw [hring, hcontrol, hfirst, hdue]

/-- A line unit that keeps its transmit state, or gives up a count of gap and slot, is IDLE only where it
was (R133). -/
theorem LineUnit.madeBusy_idle {l : LineUnit} (h : l.madeBusy.tx = .idle) : l.tx = .idle := by
  rcases l.madeBusy_tx_cases with ⟨_, _, _, _, hb⟩ | hb <;> rw [hb] at h
  · cases h
  · exact h

/-- TRANSMIT_START leaves the unit IDLE only with no frame to send (R132). -/
theorem transmitStart_lineSettled (hs : s.LineSettled) (h : exec .transmitStart s = .next t) :
    t.LineSettled := by
  cases h
  split
  · split
    next => exact fun hidle => nomatch hidle
    next hnone =>
      intro _
      unfold State.chooseFrame at hnone
      simp only [State.withLine, State.frameReady]
      split at hnone
      · cases hnone
      next hcontrol =>
        split at hnone
        · cases hnone
        next hdue =>
          split at hnone
          next hfirst =>
            have : s.outbox.ring.find? (fun e => !e.sent) = none := by
              simpa [State.oldestUnsent] using hnone
            have hany : s.outbox.ring.any (fun e => !e.sent) = false := by
              simpa using this
            simp [hcontrol, hdue, hany]
          next hfirst => simp [hcontrol, hdue, hfirst]
  · exact hs

/-- A silencing error leaves a settled unit settled: it is off, or as it was (R104, R152). -/
theorem State.LineSettled.silence (h : s.LineSettled) : s.silence.LineSettled := by
  unfold State.silence
  split
  · exact h.congr (by simp [State.muteFromListening, State.enter, State.releaseGate])
      (State.frameReady_congr (by simp [State.muteFromListening, State.enter, State.releaseGate])
        (by simp [State.muteFromListening, State.enter, State.releaseGate])
        (by simp [State.muteFromListening, State.enter, State.releaseGate])
        (by simp [State.muteFromListening, State.enter, State.releaseGate]))
  · intro hidle
    simp [State.muteFromActive, State.stopSpeaking, State.strayEntries] at hidle
  · exact fun hidle => nomatch hidle
  all_goals exact h

/-- READBACK_MISMATCH leaves the unit settled (R137, R139). -/
theorem readbackMismatch_lineSettled (hs : s.LineSettled) (h : exec .readbackMismatch s = .next t) :
    t.LineSettled := by
  have hraise : ∀ u : State, u.LineSettled → (u.raise .e02).LineSettled := fun u hu =>
    hu.congr (by simp) (State.frameReady_congr (by simp) (by simp) (by simp) (by simp))
  cases h
  split
  · dsimp only
    split
    · exact (hraise _ (State.afterFrame_lineSettled _)).silence
    · exact State.afterFrame_lineSettled _
  all_goals exact hs

/-- A command that does not settle the unit leaves its transmit state, or gives up a count, and leaves the
Outbox's frames. -/
theorem exec_lineSettled {c : Instr} (hreset : resets c = false) (hrelease : ∀ straps, c ≠ .resetReleased straps)
    (hs : s.LineSettled) (h : exec c s = .next t) : t.LineSettled := by
  have hline : ∀ (P : Prop) [Decidable P] (l : LineUnit), (l.tx = .idle → s.line.tx = .idle) →
      (if P then s.withLine l else s).LineSettled := fun P _ l hl => by
    split
    · exact hs.congr hl rfl
    · exact hs
  have hsame : ∀ u : State, u.line.tx = s.line.tx → u.outbox = s.outbox → u.LineSettled :=
    fun u htx hout => hs.congr (fun h => htx ▸ h)
      (State.frameReady_congr (by rw [hout]) (by rw [hout]) (by rw [hout]) (by rw [hout]))
  have hfall : ∀ l : LineUnit, l.tx = s.line.madeBusy.tx → l.tx = .idle → s.line.tx = .idle :=
    fun l hl h => LineUnit.madeBusy_idle (hl ▸ h)
  have hif : ∀ (P : Prop) [Decidable P] (u : State), u.line.tx = s.line.tx → u.outbox = s.outbox →
      (if P then u else s).LineSettled := fun P _ u htx hout => by
    split
    · exact hsame u htx hout
    · exact hs
  cases c with
  | resetAsserted | clockLoss => cases hreset
  | resetReleased straps => exact absurd rfl (hrelease straps)
  | transmitStart => exact transmitStart_lineSettled hs h
  | readbackMismatch => exact readbackMismatch_lineSettled hs h
  | powerFallDuringReset =>
    cases h
    split
    · exact hs
    · exact hsame _ rfl rfl
  | listenEnd =>
    cases h
    split
    · exact State.settleLine_lineSettled _
    · exact hs
  | millisecondTick =>
    cases h
    split
    · dsimp only
      split
      · exact State.settleLine_lineSettled _
      · exact hsame _ rfl rfl
    · exact hs
  | beaconTimerEnd | receiveBeacon | receiveStart | receiveCross | receiveRuling | receiveSession
  | receiveRepeat | receiveGone | retryDeadline => cases h; exact State.settleLine_lineSettled _
  | freshSpanEnd =>
    cases h
    exact hs.congr (by simp) (State.frameReady_congr (by simp) (by simp) (by simp) (by simp))
  | gateCandidateLatch | gateActiveAtRelease | candidateRejected | holdoffEnd | rulingKeyLong
  | keyCandidateLatch | tripOrAckRelease | peerSilent => cases h; exact hif _ _ rfl rfl
  | gateCleared | gateBlocked | replyShiftedOut | ackPress =>
    cases h
    exact hif _ _ (by simp [State.acceptKey]) (by simp [State.acceptKey])
  | crossingAccepted =>
    cases h
    split
    · split
      · exact State.settleLine_lineSettled _
      · exact hs
    · exact hs
  | pendingEntryExpiry =>
    cases h
    split
    · exact hif _ _ (by simp) (by simp)
    · exact hs
  | tripPress =>
    cases h
    split
    · dsimp only
      split
      · exact State.settleLine_lineSettled _
      · exact hsame _ (by simp [State.acceptKey]) (by simp [State.acceptKey])
    · exact hs
  | rulingKeyPress key =>
    cases h
    split
    · split
      all_goals exact hsame _ (by simp [State.pressRuling]) (by simp [State.pressRuling])
    · exact hs
  | rulingKeyRelease key =>
    cases h
    split
    · dsimp only
      split
      · exact hsame _ rfl rfl
      · split
        · exact State.settleLine_lineSettled _
        · exact hsame _ (by simp [State.releaseRuling, State.acceptKey])
            (by simp [State.releaseRuling, State.acceptKey])
    · exact hs
  | combinationFires =>
    cases h
    split
    · dsimp only
      split
      · exact State.settleLine_lineSettled _
      · exact hsame _ (by simp) (by simp)
    · exact hs
  | resultHoldEnd | runNumberHoldEnd | toneStepEnd => cases h; exact hsame _ (by simp) (by simp)
  | badFrameDropped | restEnd => cases h; exact hline _ _ id
  | waitingForAFrame => cases h; exact hline _ _ (by simp [LineUnit.idlePassed])
  | lineDefer | lineBusy => cases h; exact hline _ _ (hfall _ (by simp [LineUnit.fall]))
  | frameAbandoned cause =>
    cases h
    split
    · split
      · split
        · exact hsame _ (by simp [State.withLine, LineUnit.idlePassed]) rfl
        · exact hs.congr (hfall _ (by simp [State.withLine, LineUnit.heldDominant])) rfl
        · exact hsame _ rfl rfl
      · exact hs
    all_goals exact hs
  | byteTaken ended =>
    cases h
    split
    · split
      · exact hs.congr (hfall _ (by simp [State.withLine])) rfl
      · exact hs.congr (hfall _ (by simp [State.withLine, LineUnit.heldDominant])) rfl
    · exact hs
  | transmitComplete =>
    cases h
    split
    · exact State.afterFrame_lineSettled _
    all_goals exact hs
  | xselFall =>
    cases h
    split <;> exact hsame _ rfl rfl
  | next | peek | status => cases h; exact hif _ _ rfl rfl
  | unknownCommand b =>
    cases h
    split
    · exact hs
    · exact hif _ _ rfl rfl
  | transferComplete =>
    cases h
    split
    · split <;> exact hsame _ rfl rfl
    · exact hs
  | transferAbort =>
    cases h
    split
    · exact hif _ _ rfl rfl
    · exact hif _ _ rfl rfl
    · exact hsame _ rfl rfl
    · exact hs

/-! ### The settled line over a step -/

/-- What no count of the crystal touches: course time, the Outbox, the errors and the failed attempts; and none
makes the unit IDLE. -/
structure State.Counts (s t : State) : Prop where
  time : t.clock.courseTime = s.clock.courseTime
  outbox : t.outbox = s.outbox
  errors : t.station.errors = s.station.errors
  failed : t.line.failed = s.line.failed
  idle : t.line.tx = .idle → s.line.tx = .idle

/-- No count at all. -/
theorem State.Counts.refl (s : State) : s.Counts s := ⟨rfl, rfl, rfl, rfl, id⟩

/-- Counts after counts. -/
theorem State.Counts.trans {s t u : State} (h : s.Counts t) (h' : t.Counts u) : s.Counts u :=
  ⟨h'.time.trans h.time, h'.outbox.trans h.outbox, h'.errors.trans h.errors, h'.failed.trans h.failed, h.idle ∘ h'.idle⟩

/-- Several counts, each of which keeps what counts keep. -/
theorem State.counts_counts (l : List (State → State × List Instr)) (h : ∀ f ∈ l, ∀ s : State, s.Counts (f s).1)
    (s : State) : s.Counts (s.counts l).1 := by
  induction l generalizing s with
  | nil => exact .refl s
  | cons f fs ih => exact (h f (by simp) s).trans (ih (fun g hg => h g (by simp [hg])) _)

/-- The crystal's counts on the gate, the panel, the port and the clock leave the line. -/
theorem State.Counts.of_line {s t : State} (htime : t.clock.courseTime = s.clock.courseTime)
    (houtbox : t.outbox = s.outbox)
    (herrors : t.station.errors = s.station.errors) (hline : t.line = s.line) : s.Counts t :=
  ⟨htime, houtbox, herrors, by rw [hline], by rw [hline]; exact id⟩

/-- The counts of the timing line: none makes the unit IDLE (R132, R136). -/
theorem State.countLine_counts (s : State) : s.Counts s.countLine.1 := by
  refine State.counts_counts _ (fun f hf t => ?_) _
  simp only [List.mem_cons, List.not_mem_nil, or_false] at hf
  rcases hf with rfl | rfl | rfl | rfl
  · unfold State.countIdle
    split
    · exact .refl t
    · exact ⟨rfl, rfl, rfl, rfl, fun h => by
        have h : t.line.tx.countIdle (t.line.idlePeriods + 1) = .idle := h
        unfold TxState.countIdle at h
        split at h <;> simp_all⟩
  · unfold State.countReading
    split
    next r _ =>
      obtain ⟨htx, hfailed, _⟩ := LineUnit.settleRest_frame { t.line with reading := (r.count t.lineLevel).1 }
      exact ⟨rfl, rfl, rfl, hfailed, fun h => htx.symm.trans h⟩
    · exact .refl t
  · unfold State.countSending
    split
    · exact ⟨rfl, rfl, rfl, rfl, fun h => nomatch h⟩
    all_goals exact .refl t
  · exact ⟨rfl, rfl, rfl, rfl, id⟩

/-- A panel is no part of the line. -/
theorem State.withPanel_counts (s : State) (p : Panel) : s.Counts (s.withPanel p) := .of_line rfl rfl rfl rfl

/-- The key samples are counts of the panel. -/
theorem State.countKeys_counts (s : State) : s.Counts s.countKeys.1 := by
  unfold State.countKeys
  split
  · exact s.withPanel_counts _
  · refine (s.withPanel_counts _).trans
      (State.counts_counts _ (fun f hf t => ?_) _)
    simp only [List.mem_cons, List.not_mem_nil, or_false] at hf
    rcases hf with rfl | rfl | rfl | rfl | rfl | rfl | rfl
    · unfold State.comboSample
      repeat' split
      all_goals exact t.withPanel_counts _
    · unfold State.holdSample
      dsimp only
      repeat' split
      all_goals exact t.withPanel_counts _
    · unfold State.holdSample
      dsimp only
      repeat' split
      all_goals exact t.withPanel_counts _
    all_goals
      unfold State.keySample
      dsimp only
      repeat' split
      all_goals exact t.withPanel_counts _

/-- One crystal period, or a command that falls due, as far as the Outbox and the transmit state go. -/
theorem State.idleStep_counts (s : State) : s.Counts s.idleStep := by
  unfold State.idleStep
  split
  · split
    · refine State.Counts.trans (State.counts_counts
        [State.countPhase, State.countListening, State.countGate, State.countKeys, State.countLine,
          State.countTone, State.countPort] (fun f hf t => ?_) s) (.of_line rfl rfl rfl rfl)
      simp only [List.mem_cons, List.not_mem_nil, or_false] at hf
      rcases hf with rfl | rfl | rfl | rfl | rfl | rfl | rfl
      · unfold State.countPhase
        split <;> exact .of_line rfl rfl rfl rfl
      · unfold State.countListening
        split <;> exact .of_line rfl rfl rfl rfl
      · unfold State.countGate State.gateSample
        dsimp only
        repeat' split
        all_goals exact .of_line rfl rfl rfl rfl
      · exact t.countKeys_counts
      · exact t.countLine_counts
      · exact .of_line rfl rfl rfl rfl
      · obtain ⟨_, hport⟩ := t.countPort_frame
        rw [hport]
        exact .of_line rfl rfl rfl rfl
    · exact .of_line rfl rfl rfl rfl
  · exact .refl s

/-- Every step leaves a unit that is IDLE with no frame ready (R131). -/
theorem step_lineSettled (hheld : s.ResetHeld) (hs : s.LineSettled) (h : step s = .next t) :
    t.LineSettled := by
  have hreset : ∀ u : State, u.AtReset → u.LineSettled := fun u hu hidle => by
    rw [hu.tx] at hidle
    cases hidle
  unfold step at h
  split at h
  next c rest hpending =>
    have hs' : State.LineSettled { s with pending := rest } := hs
    by_cases hplain : resets c = false ∧ ∀ straps, c ≠ .resetReleased straps
    · exact exec_lineSettled hplain.1 hplain.2 hs' h
    rcases exec_cases h with _ | ⟨_, cause, rfl⟩ | ⟨straps, hstate, rfl⟩
    · cases c with
      | resetAsserted input =>
        cases h
        split
        · exact hreset _ (State.assertReset_atReset _ _)
        · split <;> exact hs'
      | clockLoss =>
        cases h
        split
        · exact hreset _ (State.assertReset_atReset _ _)
        · exact hs'
      | resetReleased straps =>
        cases h
        split
        · exact hs'
        next hoff =>
          have hstate : s.station.state = .reset := s.running_eq_false_iff.1 (Bool.eq_false_iff.2 hoff)
          exact hreset _ (((hheld.atReset hstate).withPending rest).release straps)
      | _ => exact absurd ⟨rfl, fun _ h => nomatch h⟩ hplain
    · exact hreset _ (State.assertReset_atReset _ _)
    · exact hreset _ (((hheld.atReset hstate).withPending rest).release straps)
  next =>
    cases h
    have hcounts := s.idleStep_counts
    exact hs.congr hcounts.idle
      (State.frameReady_congr (by rw [hcounts.outbox]) (by rw [hcounts.outbox]) (by rw [hcounts.outbox])
        (by rw [hcounts.outbox]))

/-- Settles O54: the ring, the Control List and the frame on the line act by act, and the settled line
command by command. -/
theorem stepsKeepTheOutbox : Obligations.StepsKeepTheOutbox := by
  intro s t hheld _ hring hcontrol hsending hsettled h
  obtain ⟨hring', hcontrol', hsending'⟩ :=
    step_keeps (P := State.OutboxSound) (fun _ _ _ hact hs => hact.outbox hs) (fun _ hs => hs.outboxSound) hheld
      ⟨hring, hcontrol, hsending⟩ h
  exact ⟨hring', hcontrol', hsending', step_lineSettled hheld hsettled h⟩

end

end Sys2Proof.Machine
end

section
/-! PROOFS. The Peer Table (O55) and the Result Queue (O56), act by act. -/

namespace Sys2Proof.Machine

section
variable {x : Bool} {s t : State}

/-! ### The Peer Table -/

/-- Sixteen sound entries, the station's own at its reset values (R108, R111, R115). -/
def State.PeerTableSound (s : State) : Prop := s.PeersSound ∧ s.OwnEntrySound

/-- Nothing changes in the Peer Table where the peers stay. -/
theorem State.PeerTableSound.congr (h : s.PeerTableSound) (hpeers : t.receiver.peers = s.receiver.peers)
    (hstraps : t.station.straps = s.station.straps)
    (hstate : t.station.state = .reset ↔ s.station.state = .reset) : t.PeerTableSound := by
  obtain ⟨⟨hlen, hsound⟩, hown⟩ := h
  refine ⟨⟨hpeers ▸ hlen, hpeers ▸ hsound⟩, fun hrun => ?_⟩
  have hown := hown (mt hstate.2 hrun)
  simp only [State.peer, State.number, State.config] at *
  rwa [hpeers, hstraps]

/-- Every act keeps the Peer Table sound: an entry that changes changes soundly, and it is not the station's
own (O55). -/
theorem Act.peerTable (h : Act x s t) (hs : s.PeerTableSound) : t.PeerTableSound := by
  have hstraps := h.straps
  have hreset := h.state_eq_iff .reset (.inl rfl)
  cases h with
  | unseen h => exact hs.congr h.peers hstraps hreset
  | place e p hp h => exact hs.congr (by simp [State.place_frame h]) hstraps hreset
  | peers l hlen hsound hown =>
    obtain ⟨⟨hlength, hpeers⟩, hownEntry⟩ := hs
    refine ⟨⟨hlen.trans hlength, fun p hp => ?_⟩, fun hrun => hown (hownEntry hrun)⟩
    obtain ⟨i, hi, rfl⟩ := List.mem_iff_getElem.1 hp
    have hi' : i < s.receiver.peers.length := hlen ▸ hi
    have h := hsound i (by
      rw [State.peer, List.getD_eq_getElem _ _ hi']
      exact hpeers _ (List.getElem_mem hi'))
    rwa [List.getD_eq_getElem _ _ hi] at h
  | _ => exact hs.congr (by simp) hstraps hreset

/-- The Peer Table of a reset state is sound (R108). -/
theorem State.AtReset.peerTable (h : s.AtReset) : s.PeerTableSound := by
  have hreceiver := h.receiver
  refine ⟨?_, fun _ => ?_⟩
  · unfold State.PeersSound
    rw [hreceiver]
    simp [Receiver.reset, Peer.reset, Peer.MissingSound]
  · have hstn : s.number < Config.stationCount := s.config.stn.isLt
    rw [State.peer, hreceiver]
    simp [Receiver.reset, hstn]

/-- Settles O55: each act keeps the Peer Table sound. -/
theorem stepsKeepThePeerTable : Obligations.StepsKeepThePeerTable :=
  fun _ _ hheld hpeers hown h =>
    step_keeps (fun _ _ _ hact hs => hact.peerTable hs) (fun _ hs => hs.peerTable) hheld ⟨hpeers, hown⟩ h

/-! ### The Result Queue -/

/-- The queue is sound where it and course time are the same. -/
theorem State.QueueSound.congr (h : s.QueueSound) (hresults : t.results = s.results)
    (hclock : s.clock.courseTime ≤ t.clock.courseTime) : t.QueueSound := by
  obtain ⟨hlen, hlost, hnum, hsorted, hle⟩ := h
  unfold State.QueueSound
  rw [hresults]
  exact ⟨hlen, hlost, hnum, hsorted, fun r hr => (hle r hr).trans hclock⟩

/-- A queue that gives up its oldest record is sound (R160, R168). -/
theorem State.QueueSound.drop (h : s.QueueSound) (lost : Nat) (hlost : lost ≤ 255) :
    State.QueueSound
      { s with results := { s.results with records := s.results.records.drop 1, lost := lost } } := by
  obtain ⟨hlen, _, hnum, hsorted, hle⟩ := h
  have hnumbered : Numbered (fun r : ResultRecord => r.seq) s.results.counter s.results.records := hnum
  refine ⟨by simp only [List.length_drop]; omega, hlost, ?_, ?_, fun r hr => hle r (List.mem_of_mem_drop hr)⟩
  · show Numbered (fun r : ResultRecord => r.seq) s.results.counter (s.results.records.drop 1)
    cases hrec : s.results.records with
    | nil => exact fun i hi => absurd hi (by simp)
    | cons r rs => exact Numbered.tail (hrec ▸ hnumbered)
  · exact hsorted.sublist ((List.drop_sublist 1 _).map _)

/-- A record that joins the end takes the counter and the course time (R159). -/
theorem State.QueueSound.push (h : s.QueueSound) (hroom : s.results.records.length < Config.queueCapacity)
    {r : ResultRecord} (hseq : r.seq = s.results.counter) (htime : r.courseTime = s.clock.courseTime) :
    State.QueueSound
      { s with
        results :=
          { s.results with
            records := s.results.records ++ [r], counter := s.results.counter + 1 } } := by
  obtain ⟨_, hlost, hnum, hsorted, hle⟩ := h
  have hnumbered : Numbered (fun r : ResultRecord => r.seq) s.results.counter s.results.records := hnum
  refine ⟨by simpa using hroom, hlost, hnumbered.append hseq, ?_, fun y hy => ?_⟩
  · simp only [List.map_append, List.pairwise_append, List.map_cons, List.map_nil, List.pairwise_singleton,
      List.mem_map, List.mem_singleton, true_and]
    refine ⟨hsorted, ?_⟩
    rintro _ ⟨y, hy, rfl⟩ _ rfl
    exact htime ▸ hle y hy
  · rcases List.mem_append.1 hy with hy | hy
    · exact hle y hy
    · rw [List.mem_singleton.1 hy, htime]

/-- An append keeps the queue sound: a full queue gives up its oldest first (R160). -/
theorem State.QueueSound.append (h : s.QueueSound) (c : ResultContents) : (s.append c).QueueSound := by
  unfold State.append
  dsimp only
  split
  next hroom => exact h.push hroom rfl rfl
  next hfull =>
    have hdropped := h.drop (min 255 (s.results.lost + 1)) (Nat.min_le_left _ _)
    refine (hdropped.push (r := _) ?_ rfl rfl).congr rfl le_rfl
    have := h.1
    simp only [List.length_drop]
    unfold Config.queueCapacity at *
    omega

/-- STRAY results keep the queue sound. -/
theorem State.QueueSound.strays (h : s.QueueSound) (reason : StrayReason) (l : List PendingEntry) :
    (s.strays reason l).QueueSound := by
  induction l generalizing s with
  | nil => exact h
  | cons e es ih => exact ih (h.append _)

/-- A list that leaves as STRAY results keeps the queue sound (R70, R75). -/
theorem State.QueueSound.strayEntries (h : s.QueueSound) (reason : StrayReason) :
    (s.strayEntries reason).QueueSound :=
  State.QueueSound.strays (s := s.withEntries []) (h.congr rfl le_rfl) _ _

/-- The close keeps the queue sound (R38). -/
theorem State.QueueSound.close (h : s.QueueSound) : s.closeAtLimit.QueueSound := by
  unfold State.closeAtLimit
  split
  · have hclosed : State.QueueSound
        { s with station := { s.station with state := .closed, closedSpeaking := s.isActive } } :=
      h.congr rfl le_rfl
    exact ((hclosed.strayEntries .closed).congr (by simp) (by simp)).append _
  · exact h

/-- A silencing error keeps the queue sound (R152). -/
theorem State.QueueSound.silence (h : s.QueueSound) : s.silence.QueueSound := by
  unfold State.silence
  split
  · exact State.QueueSound.close (h.congr (by simp [State.releaseGate, State.enter])
      (by simp [State.releaseGate, State.enter]))
  · exact State.QueueSound.strayEntries (s := (s.enter .mute).stopSpeaking) (h.congr rfl le_rfl) _
  · exact h.congr (by simp) (by simp)
  all_goals exact h

/-- Every act keeps the queue sound (O56). -/
theorem Act.queue (h : Act x s t) (hs : s.QueueSound) : t.QueueSound := by
  cases h with
  | unseen h => exact hs.congr h.results (by rw [h.clock])
  | clock c hle _ _ _ => exact hs.congr rfl hle
  | append c => exact hs.append c
  | removeOldest => exact hs.drop 0 (Nat.zero_le _)
  | silence c _ _ => exact State.QueueSound.silence (hs.congr (by simp) (by simp))
  | closeAtLimit => exact hs.close
  | enterActive _ _ => exact State.QueueSound.close (hs.congr (by simp) (by simp))
  | place e p hp h => exact hs.congr (by simp [State.place_frame h]) (by simp [State.place_frame h])
  | _ => exact hs.congr (by simp) (by simp)

/-- Settles O56: each act keeps the queue sound, reset empties it, and release leaves it. -/
theorem stepsKeepTheResultQueue : Obligations.StepsKeepTheResultQueue := by
  intro s t _ hs h
  rcases step_cases h with ⟨x, hmoves, _⟩ | ⟨_, rest, cause, _, _, rfl⟩ | ⟨rest, straps, _, rfl⟩
  · exact hmoves.keeps (fun _ _ hact => hact.queue) hs
  · have hreset := State.assertReset_atReset { s with pending := rest } cause
    unfold State.QueueSound
    rw [hreset.results]
    simp [Results.reset]
  · unfold State.release
    split
    · exact hs.congr (by simp) (by simp)
    · exact hs.congr rfl le_rfl

end

end Sys2Proof.Machine
end

section
/-! PROOFS. The Pending Crossing List and HELD (O53): act by act, and the end of a joining walk for the
joining marks. -/

namespace Sys2Proof.Machine

section
variable {x : Bool} {s t : State}

/-! ### The list and HELD, act by act -/

/-- The Pending Crossing List and HELD as `State.AssignSound` has them, but for the joining marks. -/
structure State.ListSound (s : State) : Prop where
  length : s.assign.entries.length ≤ Config.pendingCapacity
  sorted : (s.assign.entries.map (fun e => e.time)).Pairwise (· ≤ ·)
  deadlines : ∀ e ∈ s.assign.entries, e.deadline = e.time + Config.pendingWait
  holds : s.assign.entries ≠ [] → s.isActive = true ∧ s.isAssigner = true ∧ s.assign.held = false
  held : s.assign.held = true → s.isAssigner = true ∧ s.onCourse = true
  boundary : s.assign.held = false → s.assign.boundary = 0

/-- The list that was put in place. -/
@[simp] theorem State.withEntries_entries (s : State) (l : List PendingEntry) :
    (s.withEntries l).assign.entries = l := rfl

/-- The list is sound where it is the same, or shorter, and the station is in the same state. -/
theorem State.ListSound.sublist (h : s.ListSound) (hentries : t.assign.entries.Sublist s.assign.entries)
    (hheld : t.assign.held = s.assign.held) (hboundary : t.assign.boundary = s.assign.boundary)
    (hstate : t.station.state = s.station.state) (hstraps : t.station.straps = s.station.straps) :
    t.ListSound := by
  have hactive : t.isActive = s.isActive := by simp [State.isActive, hstate]
  have hcourse : t.onCourse = s.onCourse := by simp [State.onCourse, hstate]
  obtain ⟨_, _, _, _, hassigner⟩ := State.straps_frame hstraps
  refine ⟨hentries.length_le.trans h.length, h.sorted.sublist (hentries.map _),
    fun e he => h.deadlines e (hentries.subset he), fun hne => ?_, ?_, ?_⟩
  · rw [hactive, hassigner, hheld]
    exact h.holds fun hnil => hne (List.sublist_nil.1 (hnil ▸ hentries))
  · rw [hheld, hassigner, hcourse]
    exact h.held
  · rw [hheld, hboundary]
    exact h.boundary

/-- An empty list is sound where HELD is as it was, on a station that is on course if it was. -/
theorem State.ListSound.emptied (h : s.ListSound) (hentries : t.assign.entries = [])
    (hheld : t.assign.held = s.assign.held) (hboundary : t.assign.boundary = s.assign.boundary)
    (hcourse : s.onCourse = true → t.onCourse = true) (hstraps : t.station.straps = s.station.straps) :
    t.ListSound := by
  obtain ⟨_, _, _, _, hassigner⟩ := State.straps_frame hstraps
  refine ⟨by simp [hentries], by simp [hentries], by simp [hentries], fun hne => absurd hentries hne,
    fun hset => ?_, ?_⟩
  · rw [hassigner]
    obtain ⟨h1, h2⟩ := h.held (hheld ▸ hset)
    exact ⟨h1, hcourse h2⟩
  · rw [hheld, hboundary]
    exact h.boundary

/-- No crossing waits outside ACTIVE (R70). -/
theorem State.ListSound.empty (h : s.ListSound) (hs : s.isActive = false) : s.assign.entries = [] := by
  by_contra hne
  simp [(h.holds hne).1] at hs

/-- A crossing that joins is one of the list, with the others. -/
theorem mem_insertEntry (e y : PendingEntry) (l : List PendingEntry) :
    y ∈ insertEntry e l ↔ y = e ∨ y ∈ l := by
  induction l with
  | nil => simp [insertEntry]
  | cons z zs ih =>
    unfold insertEntry
    split <;> simp [ih, or_left_comm]

/-- A crossing that joins in its place keeps the times ascending (R62). -/
theorem insertEntry_sorted (e : PendingEntry) (l : List PendingEntry)
    (h : (l.map (fun e => e.time)).Pairwise (· ≤ ·)) :
    ((insertEntry e l).map (fun e => e.time)).Pairwise (· ≤ ·) := by
  induction l with
  | nil => simp [insertEntry]
  | cons z zs ih =>
    simp only [List.map_cons, List.pairwise_cons, List.mem_map, forall_exists_index, and_imp,
      forall_apply_eq_imp_iff₂] at h
    obtain ⟨hz, hzs⟩ := h
    unfold insertEntry
    split
    next hlt =>
      simp only [List.map_cons, List.pairwise_cons, List.mem_cons, List.mem_map, forall_eq_or_imp,
        forall_exists_index, and_imp, forall_apply_eq_imp_iff₂]
      exact ⟨⟨hlt.le, fun y hy => hlt.le.trans (hz y hy)⟩, hz, hzs⟩
    next hle =>
      simp only [List.map_cons, List.pairwise_cons, List.mem_map, forall_exists_index, and_imp,
        forall_apply_eq_imp_iff₂]
      refine ⟨fun y hy => ?_, ih hzs⟩
      rcases (mem_insertEntry e y zs).1 hy with rfl | hy
      · omega
      · exact hz y hy

/-- A crossing that joins makes the list one longer. -/
theorem insertEntry_length (e : PendingEntry) (l : List PendingEntry) :
    (insertEntry e l).length = l.length + 1 := by
  induction l with
  | nil => rfl
  | cons z zs ih =>
    unfold insertEntry
    split <;> simp [ih]

/-- No entry stays in a list that leaves as STRAY results (R70). -/
@[simp] theorem State.strayEntries_entries (s : State) (reason : StrayReason) :
    (s.strayEntries reason).assign.entries = [] := by
  simp [State.strayEntries]

/-- No entry stays at the close (R38, R70). -/
@[simp] theorem State.close_entries (s : State) : s.close.assign.entries = [] := by
  simp [State.close]

/-- A close leaves HELD as it is, and no entry in a list that was sound (R38, R70). -/
theorem State.closeAtLimit_assign (s : State) :
    s.closeAtLimit = s ∨ s.closeAtLimit.assign.entries = [] := by
  rcases s.closeAtLimit_cases with ⟨_, _, heq⟩ | ⟨_, heq⟩
  · exact .inr (by simp [heq])
  · exact .inl heq

/-- A silencing error leaves the list, or no entry in it (R70, R152). -/
theorem State.silence_assign (s : State) :
    s.silence.assign.entries = s.assign.entries ∨ s.silence.assign.entries = [] := by
  unfold State.silence
  split
  · rcases State.closeAtLimit_cases ((s.settleEpoch.enter .mute).releaseGate) with ⟨_, _, heq⟩ | ⟨_, heq⟩
    · exact .inr (by rw [State.muteFromListening, heq]; simp)
    · exact .inl (by rw [State.muteFromListening, heq]; simp [State.releaseGate, State.enter])
  · exact .inr (by simp [State.muteFromActive])
  · exact .inl (by simp)
  all_goals exact .inl rfl

/-- A silencing error leaves no entry in a sound list: the station is not ACTIVE after it (R70, R152). -/
theorem State.ListSound.silence (h : s.ListSound) : s.silence.assign.entries = [] := by
  by_cases hactive : s.station.state = .active
  · simp [State.silence, hactive, State.muteFromActive]
  · have hempty := h.empty (by simpa [State.isActive] using hactive)
    rcases s.silence_assign with heq | heq
    · rw [heq, hempty]
    · exact heq

/-- Every act keeps the Pending Crossing List and HELD sound, but for the joining marks (O53). -/
theorem Act.listSound (h : Act x s t) (hs : s.ListSound) : t.ListSound := by
  have hcourse : s.onCourse = true → t.onCourse = true := h.onCourse
  have hstraps := h.straps
  cases h with
  | unseen h =>
    exact hs.sublist (h.entries ▸ List.Sublist.refl _) h.held h.boundary h.state hstraps
  | silence c _ _ =>
    have hraised : (s.raise c).ListSound :=
      hs.sublist (by simp) (by simp) (by simp) (by simp) (by simp)
    exact hs.emptied hraised.silence (by simp) (by simp) hcourse hstraps
  | closeAtLimit =>
    rcases s.closeAtLimit_assign with heq | heq
    · rwa [heq]
    · exact hs.emptied heq (by simp) (by simp) hcourse hstraps
  | enterActive hlistening _ =>
    have hidle : s.onCourse = false := by simp [State.onCourse, hlistening]
    have hempty := hs.empty (by simp [State.isActive, hlistening])
    have hclear : s.assign.held = false := Bool.eq_false_iff.2 fun hset => by simp [(hs.held hset).2] at hidle
    have hentered : s.decideHeld.becomeActive.ListSound := by
      have hdecided : s.decideHeld.assign.entries = [] ∧
          (s.decideHeld.assign.held = true → s.isAssigner = true) ∧
          (s.decideHeld.assign.held = false → s.decideHeld.assign.boundary = 0) := by
        unfold State.decideHeld
        split
        next h => exact ⟨hempty, fun _ => h.1, fun h => nomatch h⟩
        next => exact ⟨hempty, fun h => absurd h (by simp [hclear]), hs.boundary⟩
      obtain ⟨hnone, hassigner, hboundary⟩ := hdecided
      exact ⟨by simp [hempty], by simp [hempty], by simp [hempty], fun hne => absurd (by simpa using hnone) hne,
        fun hset => ⟨by simpa using hassigner (by simpa using hset),
          by simp [State.becomeActive, State.onCourse, State.enter, State.releaseGate]⟩,
        fun hset => by simpa using hboundary (by simpa using hset)⟩
    rcases State.closeAtLimit_assign s.decideHeld.becomeActive with heq | heq
    · rwa [heq]
    · exact hentered.emptied heq (by simp) (by simp)
        (fun _ => by rcases s.enterActive_state with h | h <;> simp [State.onCourse, h]) (by simp)
  | newEpoch e h _ =>
    exact ⟨by simp [State.clearAssign], by simp [State.clearAssign], by simp [State.clearAssign],
      fun hne => absurd rfl hne, (fun hset => nomatch hset), fun _ => rfl⟩
  | entries l h => exact hs.sublist h rfl rfl rfl rfl
  | hold b ha hc =>
    exact ⟨by simp, by simp, by simp, fun hne => absurd rfl hne, fun _ => ⟨ha, hc⟩, fun hset => nomatch hset⟩
  | boundary b h =>
    exact ⟨hs.length, hs.sorted, hs.deadlines, hs.holds, hs.held, fun hset => by simp [h] at hset⟩
  | releaseHeld =>
    exact ⟨hs.length, hs.sorted, hs.deadlines,
      fun hne => ⟨(hs.holds hne).1, (hs.holds hne).2.1, rfl⟩, (fun hset => nomatch hset), fun _ => rfl⟩
  | insertEntry e kept hx hactive hassigner hheld hkept hlen he =>
    refine ⟨?_, insertEntry_sorted e kept (hs.sorted.sublist (hkept.map _)), fun y hy => ?_,
      fun _ => ⟨hactive, hassigner, hheld⟩, hs.held, hs.boundary⟩
    · show (Machine.insertEntry e kept).length ≤ _
      rw [Machine.insertEntry_length]
      exact hlen
    · rcases (mem_insertEntry e y kept).1 hy with rfl | hy
      · exact he
      · exact hs.deadlines y (hkept.subset hy)
  | clearJoining l hx h =>
    have hkept : (s.withEntries l).ListSound := hs.sublist h rfl rfl rfl rfl
    refine ⟨by simpa using hkept.length, ?_, fun y hy => ?_, fun hne => ?_, hs.held, hs.boundary⟩
    · simpa [Function.comp_def] using hkept.sorted
    · obtain ⟨z, hz, rfl⟩ := List.mem_map.1 hy
      exact hkept.deadlines z hz
    · exact hkept.holds fun hnil => hne (List.map_eq_nil_iff.2 hnil)
  | place e p hp h =>
    exact hs.sublist (by simp [State.place_frame h]) (by simp [State.place_frame h]) (by simp [State.place_frame h])
      (by simp [State.place_frame h]) hstraps
  | _ => exact hs.sublist (by simp) (by simp) (by simp) (by simp) hstraps

/-! ### The joining marks -/

/-- No entry of the list is joining (R67). -/
def State.NoneJoining (s : State) : Prop := ∀ e ∈ s.assign.entries, e.joining = false

/-- An act outside a crossing's hand-over adds no entry. -/
theorem Act.entries_subset (h : Act false s t) : t.assign.entries ⊆ s.assign.entries := by
  cases h with
  | unseen h => rw [h.entries]; exact List.Subset.refl _
  | silence c _ _ =>
    rcases (s.raise c).silence_assign with heq | heq <;> simp [heq]
  | closeAtLimit =>
    rcases s.closeAtLimit_cases with ⟨_, _, heq⟩ | ⟨_, heq⟩ <;> simp [heq]
  | enterActive _ _ =>
    rcases s.decideHeld.becomeActive.closeAtLimit_cases with ⟨_, _, heq⟩ | ⟨_, heq⟩ <;>
      simp [heq]
  | newEpoch e h _ => simp [State.clearAssign]
  | entries l h => exact h.subset
  | hold b ha hc => exact List.nil_subset _
  | insertEntry _ _ hx => cases hx
  | clearJoining _ hx => cases hx
  | place e p hp h => simp [State.place_frame h]
  | _ => simp

/-- An act outside a crossing's hand-over leaves no entry joining. -/
theorem Act.noneJoining (h : Act false s t) (hs : s.NoneJoining) : t.NoneJoining :=
  fun e he => hs e (h.entries_subset he)

/-- The joining walk clears every mark (R67). -/
theorem State.endJoining_noneJoining (s : State) : s.endJoining.NoneJoining := by
  intro e he
  simp only [State.endJoining, State.strays_frame, State.withEntries_entries, List.mem_map] at he
  obtain ⟨_, _, rfl⟩ := he
  rfl

/-- A crossing that is handed on leaves no entry joining. -/
theorem State.takeCrossing_noneJoining (hs : s.NoneJoining) (time : Nat) (manual : Bool) :
    (s.takeCrossing time manual).NoneJoining := by
  have hstray : ∀ reason, (s.stray reason time manual).NoneJoining := fun reason e he =>
    hs e (by simpa using he)
  unfold State.takeCrossing
  split
  · exact hstray _
  · exact hstray _
  · split
    · exact hstray _
    · exact State.endJoining_noneJoining _
  all_goals exact hs

/-- The marks are the same where the Assignment Unit is. -/
theorem State.NoneJoining.congr (hs : s.NoneJoining) (h : t.assign = s.assign) : t.NoneJoining :=
  fun e he => hs e (h ▸ he)

/-- A sensor crossing that is handed on leaves no entry joining (R50, R51). -/
theorem State.handSensor_noneJoining (hs : s.NoneJoining) (time : Nat) : (s.handSensor time).NoneJoining := by
  unfold State.handSensor
  split
  · split
    · exact hs.congr (by simp)
    · exact hs.congr (by simp)
    · exact hs.congr (by simp)
    all_goals exact hs
  · exact State.takeCrossing_noneJoining hs _ _

/-- A TRIP crossing leaves no entry joining (R53). -/
theorem State.handTrip_noneJoining (hs : s.NoneJoining) (time : Nat) : (s.handTrip time).NoneJoining := by
  unfold State.handTrip
  split
  · exact hs.congr (by simp)
  · exact State.takeCrossing_noneJoining hs _ _

/-- The unit that settles has no part in the list. -/
theorem State.NoneJoining.settleLine (hs : s.NoneJoining) : s.settleLine.NoneJoining := hs.congr (by simp)

/-- CROSSING_ACCEPTED and TRIP_PRESS leave no entry joining. -/
theorem exec_noneJoining {c : Instr} (hc : crosses c = true) (hs : s.NoneJoining) (h : exec c s = .next t) :
    t.NoneJoining := by
  cases c with
  | crossingAccepted =>
    cases h
    split
    next time _ =>
      split
      · exact (State.handSensor_noneJoining (s := s.withGate true _) hs time).settleLine
      · exact hs
    · exact hs
  | tripPress =>
    cases h
    split
    · dsimp only
      split
      · exact (State.handTrip_noneJoining (s := s.acceptKey .trip true) hs _).settleLine
      · exact State.NoneJoining.congr (s := s) hs (by simp [State.acceptKey])
    · exact hs
  | _ => cases hc

/-- Settles O53: the list and HELD act by act, and the joining marks at the end of a hand-over. -/
theorem stepsKeepThePendingCrossings : Obligations.StepsKeepThePendingCrossings := by
  intro s t hheld ⟨hlen, hsorted, hentries, hholds, hset, hboundary⟩ h
  have hlist : t.ListSound :=
    step_keeps (fun _ _ _ hact hs => hact.listSound hs)
      (fun u hu => by
        constructor <;> simp [hu.assign, Assign.reset])
      hheld ⟨hlen, hsorted, fun e he => (hentries e he).1, hholds, hset, hboundary⟩ h
  have hnone : s.NoneJoining := fun e he => (hentries e he).2
  have hjoining : t.NoneJoining := by
    have hreset : ∀ u : State, u.AtReset → u.NoneJoining := fun u hu => by
      simp [State.NoneJoining, hu.assign, Assign.reset]
    rcases step_cases h with ⟨x, hmoves, hx⟩ | ⟨_, _, _, _, _, rfl⟩ | ⟨_, _, hstate, rfl⟩
    · cases x with
      | false => exact hmoves.keeps (fun _ _ hact => hact.noneJoining) hnone
      | true =>
        obtain ⟨c, rest, _, hc, hexec⟩ := hx rfl
        exact exec_noneJoining (s := { s with pending := rest }) hc hnone hexec
    · exact hreset _ (State.assertReset_atReset _ _)
    · exact hreset _ (((hheld.atReset hstate).withPending _).release _)
  exact ⟨hlist.length, hlist.sorted, fun e he => ⟨hlist.deadlines e he, hjoining e he⟩, hlist.holds, hlist.held,
    hlist.boundary⟩

end

end Sys2Proof.Machine
end

section
/-! PROOFS. The clock, the mode and the state held in RESET (O50). -/

namespace Sys2Proof.Machine

section
variable {x : Bool} {s t : State}

/-! ### Keys -/

/-- An accepted change of a key is the panel's alone (R174). -/
@[simp] theorem State.acceptKey_frame (s : State) (k : Key) (press : Bool) :
    (s.acceptKey k press).clock = s.clock ∧ (s.acceptKey k press).gate = s.gate ∧
    (s.acceptKey k press).table = s.table ∧ (s.acceptKey k press).assign = s.assign ∧
    (s.acceptKey k press).epoch = s.epoch ∧ (s.acceptKey k press).outbox = s.outbox ∧
    (s.acceptKey k press).receiver = s.receiver ∧ (s.acceptKey k press).line = s.line ∧
    (s.acceptKey k press).results = s.results ∧ (s.acceptKey k press).port = s.port ∧
    (s.acceptKey k press).station = s.station ∧ (s.acceptKey k press).freeIndex = s.freeIndex ∧
    (s.acceptKey k press).pending = s.pending ∧ (s.acceptKey k press).number = s.number ∧
    (s.acceptKey k press).gates = s.gates ∧ (s.acceptKey k press).stationByte = s.stationByte ∧
    (s.acceptKey k press).isGateStation = s.isGateStation ∧
    (s.acceptKey k press).isAssigner = s.isAssigner ∧ (s.acceptKey k press).isFinish = s.isFinish ∧
    (s.acceptKey k press).receives = s.receives ∧ (s.acceptKey k press).onCourse = s.onCourse ∧
    (s.acceptKey k press).isActive = s.isActive ∧ (s.acceptKey k press).running = s.running ∧
    (s.acceptKey k press).speaking = s.speaking ∧ (s.acceptKey k press).sending = s.sending ∧
    (s.acceptKey k press).now = s.now :=
  s.withPanel_frame _

/-- An accepted press of a ruling key is the panel's alone (R176, R177). -/
@[simp] theorem State.pressRuling_frame (s : State) (k : RulingKey) :
    (s.pressRuling k).clock = s.clock ∧ (s.pressRuling k).gate = s.gate ∧
    (s.pressRuling k).table = s.table ∧ (s.pressRuling k).assign = s.assign ∧
    (s.pressRuling k).epoch = s.epoch ∧ (s.pressRuling k).outbox = s.outbox ∧
    (s.pressRuling k).receiver = s.receiver ∧ (s.pressRuling k).line = s.line ∧
    (s.pressRuling k).results = s.results ∧ (s.pressRuling k).port = s.port ∧
    (s.pressRuling k).station = s.station ∧ (s.pressRuling k).freeIndex = s.freeIndex ∧
    (s.pressRuling k).pending = s.pending ∧ (s.pressRuling k).number = s.number ∧
    (s.pressRuling k).gates = s.gates ∧ (s.pressRuling k).stationByte = s.stationByte ∧
    (s.pressRuling k).isGateStation = s.isGateStation ∧ (s.pressRuling k).isAssigner = s.isAssigner ∧
    (s.pressRuling k).isFinish = s.isFinish ∧ (s.pressRuling k).receives = s.receives ∧
    (s.pressRuling k).onCourse = s.onCourse ∧ (s.pressRuling k).isActive = s.isActive ∧
    (s.pressRuling k).running = s.running ∧ (s.pressRuling k).speaking = s.speaking ∧
    (s.pressRuling k).sending = s.sending ∧ (s.pressRuling k).now = s.now :=
  s.withPanel_frame _

/-- An accepted release of a ruling key is the panel's alone (R177). -/
@[simp] theorem State.releaseRuling_frame (s : State) (k : RulingKey) :
    (s.releaseRuling k).clock = s.clock ∧ (s.releaseRuling k).gate = s.gate ∧
    (s.releaseRuling k).table = s.table ∧ (s.releaseRuling k).assign = s.assign ∧
    (s.releaseRuling k).epoch = s.epoch ∧ (s.releaseRuling k).outbox = s.outbox ∧
    (s.releaseRuling k).receiver = s.receiver ∧ (s.releaseRuling k).line = s.line ∧
    (s.releaseRuling k).results = s.results ∧ (s.releaseRuling k).port = s.port ∧
    (s.releaseRuling k).station = s.station ∧ (s.releaseRuling k).freeIndex = s.freeIndex ∧
    (s.releaseRuling k).pending = s.pending ∧ (s.releaseRuling k).number = s.number ∧
    (s.releaseRuling k).gates = s.gates ∧ (s.releaseRuling k).stationByte = s.stationByte ∧
    (s.releaseRuling k).isGateStation = s.isGateStation ∧
    (s.releaseRuling k).isAssigner = s.isAssigner ∧ (s.releaseRuling k).isFinish = s.isFinish ∧
    (s.releaseRuling k).receives = s.receives ∧ (s.releaseRuling k).onCourse = s.onCourse ∧
    (s.releaseRuling k).isActive = s.isActive ∧ (s.releaseRuling k).running = s.running ∧
    (s.releaseRuling k).speaking = s.speaking ∧ (s.releaseRuling k).sending = s.sending ∧
    (s.releaseRuling k).now = s.now :=
  s.withPanel_frame _

/-! ### Course time -/

/-- Course time as `State.ClockSound` has it, but for the close at the limit. -/
structure State.TimeSound (s : State) : Prop where
  day : s.clock.courseTime ≤ Config.timeLimit
  phase : s.clock.phase < Config.periodsPerMs
  closed : s.station.state = .closed → s.clock.courseTime = Config.timeLimit
  stopped : s.clock.stopTicks ≠ 0 → s.clock.courseTime = Config.timeLimit

/-- Course time is sound where the clock and the state stay. -/
theorem State.TimeSound.congr (h : s.TimeSound) (hclock : t.clock = s.clock)
    (hclosed : t.station.state = .closed → s.station.state = .closed ∨ s.clock.courseTime = Config.timeLimit) :
    t.TimeSound := by
  obtain ⟨hday, hphase, hclose, hstop⟩ := h
  refine ⟨hclock ▸ hday, hclock ▸ hphase, fun hc => ?_, hclock ▸ hstop⟩
  rw [hclock]
  exact (hclosed hc).elim hclose id

/-- A close at the limit closes at the limit (R38). -/
theorem State.closeAtLimit_closed (h : s.closeAtLimit.station.state = .closed) :
    s.station.state = .closed ∨ s.clock.courseTime = Config.timeLimit := by
  rcases s.closeAtLimit_cases with ⟨hlimit, _, _⟩ | ⟨_, heq⟩
  · exact .inr hlimit
  · exact .inl (heq ▸ h)

/-- A silencing error closes at the limit alone (R152). -/
theorem State.silence_closed (h : s.silence.station.state = .closed) :
    s.station.state = .closed ∨ s.clock.courseTime = Config.timeLimit := by
  unfold State.silence at h
  split at h
  · rcases State.closeAtLimit_closed h with h | h
    · simp [State.releaseGate, State.enter] at h
    · exact .inr (by simpa [State.releaseGate, State.enter] using h)
  · simp [State.muteFromActive, State.strayEntries, State.enter] at h
  next hclosed => exact .inl hclosed
  all_goals exact .inl h

/-- Every act keeps course time sound, but for the close at the limit (O50). -/
theorem Act.timeSound (h : Act x s t) (hs : s.TimeSound) : t.TimeSound := by
  cases h with
  | unseen h => exact hs.congr h.clock (fun hc => .inl (h.state ▸ hc))
  | clock c hle hlimit hphase hstop =>
    refine ⟨hlimit hs.day, hphase, fun hc => le_antisymm (hlimit hs.day) (hs.closed hc ▸ hle), fun hne => ?_⟩
    by_cases heq : c.stopTicks = s.clock.stopTicks
    · exact le_antisymm (hlimit hs.day) (hs.stopped (heq ▸ hne) ▸ hle)
    · exact le_antisymm (hlimit hs.day) (hstop heq)
  | silence c _ _ => exact hs.congr (by simp) (fun hc => by simpa using State.silence_closed hc)
  | closeAtLimit => exact hs.congr (by simp) State.closeAtLimit_closed
  | enterActive _ _ =>
    refine hs.congr (by simp) (fun hc => ?_)
    rcases State.closeAtLimit_closed hc with h | h
    · simp [State.becomeActive, State.releaseGate, State.enter] at h
    · exact .inr (by simpa using h)
  | place e p hp h => exact hs.congr (by simp [State.place_frame h]) (fun hc => .inl (by simpa [State.place_frame h] using hc))
  | _ => exact hs.congr (by simp) (fun hc => .inl (by simpa using hc))

/-! ### Open stations -/

/-- The station is not one in ACTIVE or MUTE that stands at the limit (R38). -/
def State.Open (s : State) : Prop :=
  s.station.state = .active ∨ s.station.state = .mute → s.clock.courseTime ≠ Config.timeLimit

/-- A station is open where the state and course time stay. -/
theorem State.Open.congr (h : s.Open) (hclock : t.clock.courseTime = s.clock.courseTime)
    (hstate : t.station.state = s.station.state) : t.Open := by
  unfold State.Open at *
  rwa [hclock, hstate]

/-- A close at the limit leaves the station open (R38). -/
theorem State.closeAtLimit_open (s : State) : s.closeAtLimit.Open := by
  rcases s.closeAtLimit_cases with ⟨_, _, heq⟩ | ⟨hno, heq⟩ <;> rw [heq]
  · intro h
    simp at h
  · exact fun h hlimit => hno ⟨hlimit, h⟩

/-- A silencing error leaves an open station open (R39, R152). -/
theorem State.Open.silence (h : s.Open) : s.silence.Open := by
  unfold State.silence
  split
  · exact State.closeAtLimit_open _
  next hactive =>
    intro _
    simpa [State.muteFromActive, State.strayEntries, State.enter] using h (.inl hactive)
  next hclosed =>
    intro hopen
    simp [hclosed] at hopen
  all_goals exact h

/-- An act that leaves course time leaves an open station open. -/
theorem Act.open (h : Act x s t) (htime : t.clock.courseTime = s.clock.courseTime) (hs : s.Open) : t.Open := by
  cases h with
  | unseen h => exact hs.congr htime h.state
  | silence c _ _ => exact State.Open.silence (hs.congr (by simp) (by simp))
  | closeAtLimit => exact s.closeAtLimit_open
  | enterActive _ _ => exact State.closeAtLimit_open _
  | place e p hp h => exact hs.congr htime (by simp [State.place_frame h])
  | _ => exact hs.congr htime (by simp)

/-- Acts that leave course time leave an open station open: course time goes back at none of them. -/
theorem Moves.open (h : Moves x s t) (htime : t.clock.courseTime = s.clock.courseTime) (hs : s.Open) :
    t.Open := by
  have hback : ∀ {u v : State}, Moves x u v → u.clock.courseTime ≤ v.clock.courseTime := fun h =>
    h.relates (R := fun u v => u.clock.courseTime ≤ v.clock.courseTime) (fun _ => le_rfl)
      (fun _ _ _ => le_trans) (fun _ _ h => h.notBefore.1)
  induction h with
  | refl => exact hs
  | tail hfirst hlast ih =>
    have h1 := hback hfirst
    have h2 := hlast.notBefore.1
    exact hlast.open (by omega) (ih (by omega))

/-! ### The change of course time -/

/-- What falls together ends open where the close is among it (R38). -/
theorem State.takeAll_open (l : List Together) (h : s.Open ∨ .close ∈ l) : (s.takeAll l).Open := by
  induction l generalizing s with
  | nil => exact h.elim id (fun h => nomatch h)
  | cons y ys ih =>
    refine ih ?_
    rcases h with hs | hmem
    · exact .inl ((State.takeTogether_moves (x := false) s y).open (by simp) hs)
    rcases List.mem_cons.1 hmem with rfl | hmem
    · exact .inl s.closeAtLimit_open
    · exact .inr hmem

/-- Expiries first, or not: the same happenings are taken. -/
theorem mem_expiriesFirst (y : Together) (l : List Together) : y ∈ expiriesFirst l ↔ y ∈ l := by
  simp only [expiriesFirst, List.mem_append, List.mem_filter]
  constructor
  · rintro (h | h) <;> exact h.1
  · intro h
    by_cases hy : y = .expire
    · exact .inl ⟨h, by simp [hy]⟩
    · exact .inr ⟨h, by simpa using hy⟩

/-- What falls together at a change of course time leaves the station open (R38). -/
theorem State.fallTogether_open (s : State) (isStep : Bool) : (s.fallTogether isStep).Open := by
  unfold State.fallTogether
  refine State.takeAll_open _ ?_
  by_cases hs : s.Open
  · exact .inl hs
  · right
    have hclose : Together.close ∈ s.together := by
      unfold State.Open at hs
      push Not at hs
      simp [State.together, hs.1, hs.2]
    have hpick : Together.close ∈ pickOrder s.together.length s.freeIndex s.together :=
      (pickOrder_perm _ _ _ le_rfl).mem_iff.2 hclose
    split
    · exact (mem_expiriesFirst _ _).2 hpick
    · exact hpick

/-- An adopted time leaves an open station open (R31, R38). -/
theorem State.takeTime_open (hs : s.Open) (time : Nat) : (s.takeTime time).Open := by
  unfold State.takeTime
  split
  · exact hs
  · exact State.fallTogether_open _ _

/-- A beacon's content leaves an open station open. -/
theorem State.beaconContent_open (hs : s.Open) (f : Frame) (b : BeaconPayload) (older : Bool) :
    (s.beaconContent f b older).Open := by
  have htime : State.Open
      (if b.courseTime.toNat ≤ Config.timeLimit then s.takeTime b.courseTime.toNat else s) := by
    split
    · exact State.takeTime_open hs _
    · exact hs
  unfold State.beaconContent
  generalize (if b.courseTime.toNat ≤ Config.timeLimit then s.takeTime b.courseTime.toNat else s) = u at htime
  dsimp only
  split
  · split <;> exact htime.congr (by simp) (by simp)
  · exact htime

/-- The content of a frame leaves an open station open. -/
theorem State.content_open (hs : s.Open) (f : Frame) (applied older : Bool) : (s.content f applied older).Open := by
  by_cases hbeacon : ∃ b, f.payload = .beacon b
  · obtain ⟨b, hb⟩ := hbeacon
    have hcontent : s.content f applied older = s.beaconContent f b older := by simp [State.content, hb]
    rw [hcontent]
    exact State.beaconContent_open hs f b older
  · refine (State.content_moves (x := false) s f applied older).open ?_ hs
    unfold State.content
    split
    next b hb => exact absurd ⟨b, hb⟩ hbeacon
    all_goals repeat' split
    all_goals simp

/-- An accepted frame leaves an open station open. -/
theorem State.accept_open (hs : s.Open) (f : Frame) (hp : f.header.station.toNat ≠ s.number)
    (hr : s.receives = true) : (s.accept f).Open := by
  have hheard : Moves false s ((s.leaveMismatch f.header.station.toNat).hear f.header.station.toNat) :=
    (s.leaveMismatch_moves hp).trans (State.hear_moves _ (by simpa using hp))
  have htested := (hheard.trans (State.book_moves (x := false) _ f (by simpa [State.hear] using hp))).trans
    (State.epochStep_moves _ f (by simpa [State.hear] using hr))
  exact State.content_open (htested.open (by simp [State.hear]) hs) f _ _

/-- A unit that settles leaves an open station open. -/
theorem State.Open.settleLine (hs : s.Open) : s.settleLine.Open := hs.congr (by simp) (by simp)

/-- A received frame leaves an open station open. -/
theorem State.receive_open (hs : s.Open) (f : Frame) : (s.receive f).Open := by
  have hhanded : s.frameHandedOn.Open := hs
  unfold State.receive
  split
  next hr =>
    dsimp only
    split
    · split
      · unfold State.ownNumber
        split
        · exact hhanded
        · exact State.Open.silence (hhanded.congr (by simp) (by simp))
      next hother =>
        have hp : f.header.station.toNat ≠ s.frameHandedOn.number := fun h =>
          hother (BitVec.eq_of_toNat_eq (h.trans s.frameHandedOn.stationByte_toNat.symm))
        split
        · exact hhanded
        · exact hhanded.congr (by simp) (by simp)
        · exact State.accept_open hhanded f hp hr
    · exact hhanded
  · exact hs

/-- MILLISECOND_TICK leaves an open station open (R38). -/
theorem millisecondTick_open (hs : s.Open) (h : exec .millisecondTick s = .next t) : t.Open := by
  cases h
  split
  · dsimp only
    split
    · exact (State.fallTogether_open _ _).settleLine
    next hno =>
      intro hopen hlimit
      have hlimit' : s.clock.tick.courseTime = Config.timeLimit := hlimit
      have hreached : ¬ s.clock.courseTime < Config.timeLimit := fun hlt => hno ⟨hlt, hlimit', hopen⟩
      refine hs hopen ?_
      rwa [Clock.tick, if_neg hreached] at hlimit'
  · exact hs

/-- The latch of a reply leaves course time (R165). -/
theorem State.latch_clock (s : State) (b : Byte) (reply : List Byte) (seq : Option Byte) :
    (s.latch b reply seq).clock.courseTime = s.clock.courseTime := by
  unfold State.latch
  split <;> rfl

/-- Every command but those that assert or release reset leaves an open station open (R38). -/
theorem exec_open {c : Instr} (hreset : resets c = false) (hrelease : ∀ straps, c ≠ .resetReleased straps)
    (hs : s.Open) (h : exec c s = .next t) : t.Open := by
  have hmoves : t.clock.courseTime = s.clock.courseTime → t.Open := fun htime => by
    obtain ⟨u, hu, hmoves⟩ := exec_moves c hreset hrelease s
    rw [hu] at h
    cases h
    exact hmoves.open htime hs
  cases c with
  | millisecondTick => exact millisecondTick_open hs h
  | receiveBeacon | receiveStart | receiveCross | receiveRuling | receiveSession | receiveRepeat | receiveGone =>
    cases h
    exact (State.receive_open hs _).settleLine
  | resetAsserted | clockLoss => cases hreset
  | resetReleased straps => exact absurd rfl (hrelease straps)
  | next | peek | status =>
    refine hmoves ?_
    cases h
    exact State.latch_clock _ _ _ _
  | unknownCommand b =>
    refine hmoves ?_
    cases h
    split
    · rfl
    · exact State.latch_clock _ _ _ _
  | readbackMismatch =>
    refine hmoves ?_
    cases h
    split
    · dsimp only
      split <;> simp
    all_goals rfl
  | _ =>
    refine hmoves ?_
    cases h
    repeat' split
    all_goals simp

/-! ### What leads out of RESET, and into it -/

/-- Release leads to CONFIG FAULT or LISTENING, with the straps sampled, and leaves the clock and the epoch
(R145, R147). -/
theorem State.release_frame (s : State) (straps : Straps) :
    (s.release straps).clock = s.clock ∧ (s.release straps).epoch = s.epoch ∧
      (s.release straps).station.straps = some straps ∧
      (s.release straps).station.state = if straps.gct = 7#3 then .configFault else .listening := by
  unfold State.release
  split <;> simp [*]

/-- Every step leaves an open station open (R38). -/
theorem step_open (hs : s.Open) (h : step s = .next t) : t.Open := by
  unfold step at h
  split at h
  next c rest _ =>
    have hs' : State.Open { s with pending := rest } := hs
    by_cases hplain : resets c = false ∧ ∀ straps, c ≠ .resetReleased straps
    · exact exec_open hplain.1 hplain.2 hs' h
    cases c with
    | resetAsserted input =>
      cases h
      split
      · exact fun hopen => absurd hopen (by simp [State.assertReset, StationControl.reset])
      · split <;> exact hs'
    | clockLoss =>
      cases h
      split
      · exact fun hopen => absurd hopen (by simp [State.assertReset, StationControl.reset])
      · exact hs'
    | resetReleased straps =>
      cases h
      split
      · exact hs'
      · intro hopen
        obtain ⟨_, _, _, hstate⟩ := State.release_frame { s with pending := rest } straps
        rw [hstate] at hopen
        split at hopen <;> simp at hopen
    | _ => exact absurd ⟨rfl, fun _ h => nomatch h⟩ hplain
  next =>
    cases h
    exact (s.idleStep_moves (x := false)).open s.idleStep_counts.time hs

/-- Every step keeps course time sound (O50). -/
theorem step_clockSound (hs : s.ClockSound) (h : step s = .next t) : t.ClockSound := by
  obtain ⟨hday, hphase, hopen, hclosed, hstop⟩ := hs
  have htime : t.TimeSound := by
    have hs : s.TimeSound := ⟨hday, hphase, hclosed, hstop⟩
    rcases step_cases h with ⟨x, hmoves, _⟩ | ⟨_, rest, cause, _, _, rfl⟩ | ⟨rest, straps, _, rfl⟩
    · exact hmoves.keeps (fun _ _ hact => hact.timeSound) hs
    · exact ⟨Nat.zero_le _, Nat.zero_lt_succ _, (fun hc => nomatch hc), fun hne => absurd rfl hne⟩
    · obtain ⟨hclock, _, _, hstate⟩ := State.release_frame { s with pending := rest } straps
      refine hs.congr hclock (fun hc => ?_)
      rw [hstate] at hc
      split at hc <;> simp at hc
  have hopen' : t.Open := step_open (fun hstate => (hopen hstate).ne) h
  exact ⟨htime.day, htime.phase, fun hstate => lt_of_le_of_ne htime.day (hopen' hstate), htime.closed,
    htime.stopped⟩

/-! ### The mode -/

/-- A settled epoch is an epoch (R85). -/
theorem State.settleEpoch_ne (s : State) : s.settleEpoch.epoch ≠ 0#16 := by
  unfold State.settleEpoch
  split
  · exact (by decide : (1#16 : Word16) ≠ 0#16)
  next h => exact h

/-- A silencing error in LISTENING settles the epoch (R152). -/
theorem State.silence_listening (h : s.station.state = .listening) : s.silence.epoch = s.settleEpoch.epoch := by
  simp [State.silence, h, State.muteFromListening, State.releaseGate, State.enter]

/-- Every act keeps the mode one that the straps and the epoch allow (O50). -/
theorem Act.mode (h : Act x s t) (hs : s.ModeSound) : t.ModeSound := by
  obtain ⟨hstraps, hgct, hnone, hepoch⟩ := hs
  have hsame := h.straps
  have hreset := h.state_eq_iff .reset (.inl rfl)
  have hfault := h.state_eq_iff .configFault (.inr rfl)
  have hconfig := (State.straps_frame hsame).1
  have hback := h.notBefore.2.1
  refine ⟨by rw [hsame, hreset, hstraps], fun hrun => by rw [hconfig, hfault, hgct (mt hreset.2 hrun)],
    fun hoff => ?_, fun hcourse => ?_⟩
  · have hoff' : s.station.state = .reset ∨ s.station.state = .configFault := by rwa [hreset, hfault] at hoff
    have hidle : s.onCourse = false := by rcases hoff' with h | h <;> simp [State.onCourse, h]
    have hlistening : s.station.state ≠ .listening := by rcases hoff' with h | h <;> simp [h]
    rw [← hnone hoff']
    cases h with
    | unseen h => exact h.epoch
    | silence c _ _ =>
      rcases (s.raise c).silence_epoch with h | ⟨h, _⟩
      · simpa using h
      · exact absurd (by simpa using h) hlistening
    | newEpoch e _ hcourse => simp [hidle] at hcourse
    | raiseEpoch e _ hl => exact absurd hl hlistening
    | place e p hp h => simp [State.place_frame h]
    | _ => simp
  · by_cases hs : s.onCourse = true
    · have hne := hepoch hs
      intro heq
      rw [heq] at hback
      exact hne (BitVec.le_antisymm hback (Nat.zero_le _))
    · cases h with
      | silence c _ _ =>
        by_cases hlistening : (s.raise c).station.state = .listening
        · rw [State.silence_listening hlistening]
          exact State.settleEpoch_ne _
        · have hstate : (s.raise c).silence.station.state = s.station.state := by
            rcases (s.raise c).silence_state with h | ⟨h | h, _⟩
            · simpa using h
            · exact absurd h hlistening
            · exact absurd (by simp [State.onCourse, show s.station.state = .active by simpa using h]) hs
          simp only [State.onCourse, hstate] at hcourse hs
          exact absurd hcourse hs
      | unseen h => exact absurd (by simpa [State.onCourse, h.state] using hcourse) hs
      | closeAtLimit =>
        rcases s.closeAtLimit_cases with ⟨_, h | h, _⟩ | ⟨_, heq⟩
        · exact absurd (by simp [State.onCourse, h]) hs
        · exact absurd (by simp [State.onCourse, h]) hs
        · exact absurd (heq ▸ hcourse) hs
      | newEpoch e _ hon => exact absurd hon hs
      | enterActive _ he => simpa using he
      | place e p hp h => exact absurd (by simpa [State.place_frame h] using hcourse) hs
      | _ => exact absurd (by simpa [State.onCourse] using hcourse) hs

/-- Every step keeps the mode one that the straps and the epoch allow (O50). -/
theorem step_modeSound (hs : s.ModeSound) (h : step s = .next t) : t.ModeSound := by
  rcases step_cases h with ⟨x, hmoves, _⟩ | ⟨_, rest, cause, _, _, rfl⟩ | ⟨rest, straps, hreset, rfl⟩
  · exact hmoves.keeps (fun _ _ hact => hact.mode) hs
  · refine ⟨by simp [State.assertReset, StationControl.reset], fun hrun => absurd rfl hrun, fun _ => rfl,
      fun hcourse => by simp [State.assertReset, StationControl.reset, State.onCourse] at hcourse⟩
  · obtain ⟨_, hepoch, hstraps, hstate⟩ := State.release_frame { s with pending := rest } straps
    have hconfig : (State.release { s with pending := rest } straps).config = straps := by
      simp [State.config, hstraps]
    have hzero : s.epoch = 0#16 := hs.2.2.1 (.inl hreset)
    refine ⟨?_, fun _ => ?_, fun _ => hepoch.trans hzero, fun hcourse => ?_⟩
    · rw [hstraps, hstate]
      split <;> simp
    · rw [hconfig, hstate]
      split <;> simp_all
    · by_cases hgct : straps.gct = 7#3 <;> simp [State.onCourse, hstate, hgct] at hcourse

/-! ### RESET -/

/-- The station held in RESET, with the levels of its pins, the recorded cause, the free order's counter and the
queue (R142, R144, R146). -/
def heldState (gate line xsel xclk trip void dnf ack : Bool) (cause : ResetCause) (free : Nat)
    (queue : List Instr) : State :=
  { State.reset with
    gate := { State.reset.gate with high := gate }
    line := { State.reset.line with dominant := line }
    port := { State.reset.port with xselLow := xsel, xclkHigh := xclk }
    panel :=
      { State.reset.panel with
        trip := { State.reset.panel.trip with down := trip }
        void := { State.reset.panel.void with down := void }
        dnf := { State.reset.panel.dnf with down := dnf }
        ack := { State.reset.panel.ack with down := ack } }
    station := { State.reset.station with cause := cause }
    freeIndex := free
    pending := queue }

/-- RESET's state is held exactly where it is one of those. -/
theorem heldState_resetHeld (gate line xsel xclk trip void dnf ack : Bool) (cause : ResetCause) (free : Nat)
    (queue : List Instr) : (heldState gate line xsel xclk trip void dnf ack cause free queue).ResetHeld :=
  fun _ => rfl

/-- Every peer is at its reset values in RESET (R108). -/
theorem heldState_peer (gate line xsel xclk trip void dnf ack : Bool) (cause : ResetCause) (free : Nat)
    (queue : List Instr) (p : Nat) :
    (heldState gate line xsel xclk trip void dnf ack cause free queue).peer p = Peer.reset := by
  simp [State.peer, heldState, State.reset, Receiver.reset, List.getD_eq_getElem?_getD, List.getElem?_replicate]
  split <;> rfl

/-- No command but release leads out of RESET's held state. -/
theorem exec_heldState {c : Instr} (hrelease : ∀ straps, c ≠ .resetReleased straps)
    (gate line xsel xclk trip void dnf ack : Bool) (cause : ResetCause) (free : Nat) (queue : List Instr)
    (h : exec c (heldState gate line xsel xclk trip void dnf ack cause free queue) = .next t) :
    ∃ xsel' cause', t = heldState gate line xsel' xclk trip void dnf ack cause' free queue := by
  cases c with
  | resetReleased straps => exact absurd rfl (hrelease straps)
  | resetAsserted input => cases input <;> cases h <;> exact ⟨_, _, rfl⟩
  | unknownCommand b =>
    cases h
    split <;> exact ⟨_, _, rfl⟩
  | peerSilent peer =>
    cases h
    rw [heldState_peer]
    exact ⟨_, _, rfl⟩
  | retryDeadline peer seq =>
    cases h
    unfold State.retryOne State.retryDue
    rw [heldState_peer]
    exact ⟨_, _, rfl⟩
  | _ => cases h; exact ⟨_, _, rfl⟩

/-- RESET's held state stays held over every step, and an asserted reset holds it (O50). -/
theorem step_resetHeld (hs : s.ResetHeld) (h : step s = .next t) : t.ResetHeld := by
  have hassert : ∀ (u : State) (cause : ResetCause), (u.assertReset cause).ResetHeld := fun u cause _ => rfl
  have hrelease : ∀ (u : State) (straps : Straps), (u.release straps).ResetHeld := fun u straps hreset => by
    obtain ⟨_, _, _, hstate⟩ := u.release_frame straps
    rw [hstate] at hreset
    split at hreset <;> cases hreset
  by_cases hreset : s.station.state = .reset
  · have heq := hs hreset
    cases hpending : s.pending with
    | nil =>
      unfold step at h
      rw [hpending] at h
      cases h
      have hidle : s.idleStep = s := by simp [State.idleStep, State.running, hreset]
      rwa [hidle]
    | cons c rest =>
      unfold step at h
      rw [hpending] at h
      by_cases hc : ∃ straps, c = .resetReleased straps
      · obtain ⟨straps, rfl⟩ := hc
        cases h
        split
        next hrun => exact absurd hrun (by simp [State.running, hreset])
        · exact hrelease _ straps
      · have hsame : ({ s with pending := rest } : State) =
            heldState s.gate.high s.line.dominant s.port.xselLow s.port.xclkHigh s.panel.trip.down
              s.panel.void.down s.panel.dnf.down s.panel.ack.down s.station.cause s.freeIndex rest := by
          conv_lhs => rw [heq]
          rfl
        have h : exec c { s with pending := rest } = .next t := h
        rw [hsame] at h
        obtain ⟨xsel', cause', rfl⟩ := exec_heldState (fun straps hst => hc ⟨straps, hst⟩) _ _ _ _ _ _ _ _ _ _ _ h
        exact heldState_resetHeld _ _ _ _ _ _ _ _ _ _ _
  · rcases step_cases h with ⟨x, hmoves, _⟩ | ⟨_, rest, cause, _, _, rfl⟩ | ⟨rest, straps, _, rfl⟩
    · have hstill : t.station.state ≠ .reset :=
        hmoves.keeps (P := fun u => u.station.state ≠ .reset)
          (fun _ _ hact hu => mt (hact.state_eq_iff .reset (.inl rfl)).1 hu) hreset
      exact fun h => absurd h hstill
    · exact hassert _ cause
    · exact hrelease _ straps

/-- Settles O50: the clock, the mode and RESET's state, each by its own step lemma. -/
theorem stepsKeepClockModeAndReset : Obligations.StepsKeepClockModeAndReset :=
  fun _ _ h => ⟨fun hs => step_clockSound hs h, fun hs => step_modeSound hs h, fun hs => step_resetHeld hs h⟩

end

end Sys2Proof.Machine
end

section
/-! PROOFS. The pending errors, speaking and the failed attempts (O51). -/

namespace Sys2Proof.Machine

section
variable {x : Bool} {s t : State}

/-! ### The pending set -/

/-- A code that is raised is pending, and every other as it was (R155). -/
theorem State.raise_has (s : State) (c d : ErrorCode) :
    (s.raise c).station.errors.has d = (s.station.errors.has d || decide (d = c)) := by
  unfold State.raise
  split
  next h =>
    by_cases hd : d = c
    · simp [hd, h]
    · simp [hd]
  next h => cases c <;> cases d <;> simp [ErrorSet.put, ErrorSet.has]

/-- A code that is removed is not pending, and every other as it was (R156). -/
theorem State.clearError_has (s : State) (c d : ErrorCode) :
    (s.clearError c).station.errors.has d = (s.station.errors.has d && !decide (d = c)) := by
  cases c <;> cases d <;> simp [State.clearError, ErrorSet.put, ErrorSet.has]

/-- The codes that follow the mode, and speaking in CLOSED, as they stand out of RESET (R38, R104, R147, R152). -/
structure State.CodesSound (s : State) : Prop where
  fault : s.station.errors.has .e03 = true ↔ s.station.state = .configFault
  closed : s.station.errors.has .e10 = true ↔ s.station.state = .closed
  silenced : s.station.errors.has .e01 = true ∨ s.station.errors.has .e02 = true →
    s.station.state = .mute ∨ s.station.state = .closed
  mute : s.station.state = .mute → s.station.errors.has .e01 = true ∨ s.station.errors.has .e02 = true
  speaking : s.station.closedSpeaking = true ↔
    s.station.state = .closed ∧ s.station.errors.has .e01 = false ∧ s.station.errors.has .e02 = false

/-- The codes are sound where those of the mode, the state and the speaking stay. -/
theorem State.CodesSound.congr (h : s.CodesSound)
    (hcodes : ∀ c : ErrorCode, c.ordinary = false → t.station.errors.has c = s.station.errors.has c)
    (hstate : t.station.state = s.station.state)
    (hspeaking : t.station.closedSpeaking = s.station.closedSpeaking) : t.CodesSound := by
  have he01 := hcodes .e01 rfl
  have he02 := hcodes .e02 rfl
  have he03 := hcodes .e03 rfl
  have he10 := hcodes .e10 rfl
  obtain ⟨h1, h2, h3, h4, h5⟩ := h
  exact ⟨by rwa [he03, hstate], by rwa [he10, hstate], by rwa [he01, he02, hstate], by rwa [he01, he02, hstate],
    by rwa [he01, he02, hstate, hspeaking]⟩

/-- No unit is OFF, and no timer stopped, on a station that speaks; nothing waits on one that does not (R104). -/
structure State.VoiceSound (s : State) : Prop where
  unit : s.line.tx = .off ↔ s.speaking = false
  timer : s.outbox.beaconTimer = none ↔ s.speaking = false
  silent : s.speaking = false → s.outbox.control = [] ∧ s.outbox.beaconDue = false

/-- Speaking is sound where the unit, the timer and the Outbox are, and the station speaks as it did. -/
theorem State.VoiceSound.congr (h : s.VoiceSound) (hspeaking : t.speaking = s.speaking)
    (hunit : t.line.tx = .off ↔ s.line.tx = .off)
    (htimer : t.outbox.beaconTimer = none ↔ s.outbox.beaconTimer = none)
    (hsilent : s.speaking = false → s.outbox.control = [] ∧ s.outbox.beaconDue = false →
      t.outbox.control = [] ∧ t.outbox.beaconDue = false) : t.VoiceSound :=
  ⟨hunit.trans (hspeaking ▸ h.unit), htimer.trans (hspeaking ▸ h.timer),
    fun hs => hsilent (hspeaking ▸ hs) (h.silent (hspeaking ▸ hs))⟩

/-- The errors and the speaking of a station out of RESET. -/
def State.SignsSound (s : State) : Prop := s.CodesSound ∧ s.VoiceSound

/-- The close keeps the errors and the speaking: an ACTIVE station speaks on, a MUTE one stays silent (R38,
R104). -/
theorem State.SignsSound.closeAtLimit (h : s.SignsSound) : s.closeAtLimit.SignsSound := by
  rcases s.closeAtLimit_cases with ⟨_, hstate, heq⟩ | ⟨_, heq⟩
  swap
  · rwa [heq]
  rw [heq]
  obtain ⟨hcodes, hvoice⟩ := h
  have hhas : ∀ c, s.close.station.errors.has c = (s.station.errors.has c || decide (c = .e10)) := fun c => by
    simp [State.close, State.raise_has, State.strayEntries]
  have hspeak : s.close.station.closedSpeaking = s.isActive := by simp [State.close, State.strayEntries]
  have hline : s.close.line = s.line := by simp
  have hout : s.close.outbox = s.outbox := by simp
  have hspeaking : s.close.speaking = s.speaking := by
    rcases hstate with h | h <;> simp [State.speaking, h, hspeak, State.isActive]
  refine ⟨⟨?_, ?_, fun _ => .inr s.close_state, fun h => by simp at h, ?_⟩,
    hvoice.congr hspeaking (by rw [hline]) (by rw [hout]) (by rw [hout]; exact fun _ => id)⟩
  · simp [hhas, hcodes.fault]
    rcases hstate with h | h <;> simp [h]
  · simp [hhas]
  · rw [hspeak]
    simp only [State.close_state, hhas, State.isActive, true_and]
    rcases hstate with h | h
    · have hno : ¬ (s.station.errors.has .e01 = true ∨ s.station.errors.has .e02 = true) := fun he => by
        simpa [h] using hcodes.silenced he
      simpa [h] using hno
    · have he := hcodes.mute h
      rcases he with he | he <;> simp [h, he]

/-- The codes are sound once a silencing code is pending in MUTE, or in a CLOSED station that is silent (R152). -/
theorem State.CodesSound.withSilencingCode (h : s.CodesSound) {c : ErrorCode} (hc : c = .e01 ∨ c = .e02)
    (hhas : ∀ d, t.station.errors.has d = (s.station.errors.has d || decide (d = c)))
    (hstate : t.station.state = .mute ∧ s.station.state ≠ .closed ∨
      t.station.state = .closed ∧ s.station.state = .closed)
    (hfault : s.station.state ≠ .configFault) (hspeaking : t.station.closedSpeaking = false) :
    t.CodesSound := by
  have hset : t.station.errors.has .e01 = true ∨ t.station.errors.has .e02 = true := by
    rcases hc with rfl | rfl <;> simp [hhas]
  have h03 : t.station.errors.has .e03 = s.station.errors.has .e03 := by
    rcases hc with rfl | rfl <;> simp [hhas]
  have h10 : t.station.errors.has .e10 = s.station.errors.has .e10 := by
    rcases hc with rfl | rfl <;> simp [hhas]
  refine ⟨?_, ?_, fun _ => hstate.imp (fun h => h.1) (fun h => h.1), fun _ => hset, ?_⟩
  · rw [h03, h.fault]
    rcases hstate with ⟨h, _⟩ | ⟨h, _⟩ <;> simp [h, hfault]
  · rw [h10, h.closed]
    rcases hstate with ⟨h, h'⟩ | ⟨h, h'⟩ <;> simp [h, h']
  · rw [hspeaking]
    refine ⟨(fun h => nomatch h), fun ⟨_, h1, h2⟩ => ?_⟩
    rw [h1, h2] at hset
    rcases hset with h | h <;> cases h

/-- A station that has stopped speaking is silent (R104). -/
theorem State.stopSpeaking_voice (s : State) (h : s.stopSpeaking.speaking = false) :
    s.stopSpeaking.VoiceSound :=
  ⟨⟨fun _ => h, fun _ => rfl⟩, ⟨fun _ => h, fun _ => rfl⟩, fun _ => ⟨rfl, rfl⟩⟩

/-- A silencing error keeps the errors and the speaking (R104, R152). -/
theorem State.SignsSound.silence (h : s.SignsSound) {c : ErrorCode} (hc : c = .e01 ∨ c = .e02)
    (hreceives : s.receives = true) : (s.raise c).silence.SignsSound := by
  obtain ⟨hcodes, hvoice⟩ := h
  have hhas := s.raise_has c
  have hraised : (s.raise c).VoiceSound :=
    hvoice.congr (by simp) (by simp) (by simp) (by simp)
  have hclear : s.station.state ≠ .closed → s.station.closedSpeaking = false := fun hne =>
    Bool.eq_false_iff.2 fun h => hne (hcodes.speaking.1 h).1
  unfold State.silence
  have hstate : (s.raise c).station.state = s.station.state := by simp
  cases hs : s.station.state with
  | reset | configFault => simp [State.receives, hs] at hreceives
  | listening =>
    rw [hstate, hs]
    refine State.SignsSound.closeAtLimit ⟨hcodes.withSilencingCode hc (fun d => ?_) (.inl ⟨rfl, by simp [hs]⟩)
      (by simp [hs]) ?_, hraised.congr ?_ ?_ ?_ ?_⟩
    · simpa [State.releaseGate, State.enter] using hhas d
    · simpa [State.releaseGate, State.enter] using hclear (by simp [hs])
    · simp [State.speaking, State.releaseGate, State.enter, hs]
    · simp [State.releaseGate, State.enter]
    · simp [State.releaseGate, State.enter]
    · simp [State.releaseGate, State.enter]
  | active =>
    rw [hstate, hs]
    have hmute : ((s.raise c).enter .mute).stopSpeaking.VoiceSound := State.stopSpeaking_voice _ rfl
    refine ⟨hcodes.withSilencingCode hc (fun d => ?_) (.inl ⟨?_, by simp [hs]⟩) (by simp [hs]) ?_,
      hmute.congr ?_ ?_ ?_ ?_⟩
    all_goals simp [State.muteFromActive, State.strayEntries]
    · simpa [State.enter] using hhas d
    · rfl
    · rfl
  | closed =>
    rw [hstate, hs]
    exact ⟨hcodes.withSilencingCode hc (fun d => by simpa using hhas d) (.inr ⟨by simp [hs], hs⟩) (by simp [hs]) rfl,
      State.stopSpeaking_voice _ (by simp [State.speaking, State.stopSpeaking, hs])⟩
  | mute =>
    rw [hstate, hs]
    exact ⟨hcodes.withSilencingCode hc hhas (.inl ⟨by simp [hs], by simp [hs]⟩) (by simp [hs])
      (by simpa using hclear (by simp [hs])), hraised⟩

/-- The entry to ACTIVE begins to speak (R35, R104, R135). -/
theorem State.SignsSound.becomeActive (h : s.SignsSound) (hl : s.station.state = .listening) :
    s.decideHeld.becomeActive.SignsSound := by
  obtain ⟨hcodes, _⟩ := h
  have hstate : s.decideHeld.becomeActive.station.state = .active := rfl
  have herrors : s.decideHeld.becomeActive.station.errors = s.station.errors := by
    simp
  have hspeaking : s.decideHeld.becomeActive.speaking = true := by simp [State.speaking, hstate]
  refine ⟨⟨?_, ?_, fun he => ?_, fun h => by simp [hstate] at h, ?_⟩, ?_, ?_, ?_⟩
  · rw [herrors, hcodes.fault, hl, hstate]; simp
  · rw [herrors, hcodes.closed, hl, hstate]; simp
  · rw [herrors] at he
    have := hcodes.silenced he
    simp [hl] at this
  · have hclear : s.decideHeld.becomeActive.station.closedSpeaking = s.station.closedSpeaking := by simp
    rw [hclear, hcodes.speaking, hl, hstate]
    simp
  · exact ⟨(fun h => nomatch h), fun h => absurd (hspeaking.symm.trans h) (by decide)⟩
  · exact ⟨(fun h => nomatch h), fun h => absurd (hspeaking.symm.trans h) (by decide)⟩
  · exact fun h => absurd (hspeaking.symm.trans h) (by decide)

/-- Out of RESET every act keeps the errors and the speaking (O51). -/
theorem Act.signs (h : Act x s t) (hrun : s.station.state ≠ .reset) (hs : s.SignsSound) : t.SignsSound := by
  obtain ⟨hcodes, hvoice⟩ := id hs
  have hspeaks : s.line.tx ≠ .off → s.speaking = true := fun h => by
    simpa using mt hvoice.unit.2 h
  cases h with
  | unseen h =>
    refine ⟨hcodes.congr (fun _ _ => by rw [h.errors]) h.state h.closedSpeaking,
      hvoice.congr ?_ (by rw [h.tx]) (by rw [h.timer]) (by rw [h.control, h.due]; exact fun _ => id)⟩
    unfold State.speaking
    rw [h.state, h.closedSpeaking]
  | raise c hord =>
    refine ⟨hcodes.congr (fun d hd => ?_) (by simp) (by simp),
      hvoice.congr (by simp) (by simp) (by simp) (by simp)⟩
    have hne : d ≠ c := fun h => by simp [← h, hd] at hord
    simp [State.raise_has, hne]
  | clearError c hord =>
    refine ⟨hcodes.congr (fun d hd => ?_) (by simp) (by simp),
      hvoice.congr (by simp) (by simp) (by simp) (by simp)⟩
    have hne : d ≠ c := fun h => by simp [← h, hd] at hord
    simp [State.clearError_has, hne]
  | silence c hc h =>
    refine hs.silence hc (h.elim id fun htx => ?_)
    have hspeak := hspeaks htx
    unfold State.speaking at hspeak
    unfold State.receives
    split at hspeak <;> simp_all
  | closeAtLimit => exact hs.closeAtLimit
  | enterActive hl _ => exact (hs.becomeActive hl).closeAtLimit
  | addControl e _ =>
    refine ⟨hcodes.congr (by simp) (by simp) (by simp), hvoice.congr (by simp) (by simp) (by simp) (fun hoff h => ?_)⟩
    have hsame : s.addControl e = s := by simp [State.addControl, hoff]
    rwa [hsame]
  | dropRepeats test =>
    refine ⟨hcodes.congr (by simp) (by simp) (by simp), hvoice.congr (by simp) (by simp) (by simp) (fun _ h => ?_)⟩
    simp [State.dropRepeats, h]
  | beaconTimerEnd h =>
    have hspeak : s.speaking = true := by simpa using mt hvoice.timer.2 h
    exact ⟨hcodes.congr (by simp [State.endBeaconTimer]) rfl rfl,
      hvoice.congr rfl Iff.rfl (by simp [State.endBeaconTimer, h]) (fun hoff => by simp [hspeak] at hoff)⟩
  | beaconAgain h =>
    exact ⟨hcodes.congr (fun _ _ => rfl) rfl rfl,
      hvoice.congr rfl Iff.rfl Iff.rfl (fun hoff => by simp [hspeaks h] at hoff)⟩
  | line l hoff _ => exact ⟨hcodes.congr (fun _ _ => rfl) rfl rfl, hvoice.congr rfl hoff Iff.rfl (fun _ => id)⟩
  | startSending source frame l due _ hl hon _ =>
    exact ⟨hcodes.congr (fun _ _ => rfl) rfl rfl,
      hvoice.congr rfl (by simp [hl, hon]) Iff.rfl (fun hoff => by simp [hspeaks hon] at hoff)⟩
  | frameSent source frame _ =>
    refine ⟨hcodes.congr (fun _ _ => rfl) rfl rfl, hvoice.congr rfl Iff.rfl ?_ (fun _ h => ?_)⟩
    · cases source <;> exact Iff.rfl
    · cases source <;> simp [Outbox.frameSent, h]
  | place e p hp h =>
    exact ⟨hcodes.congr (by simp [State.place_frame h]) (by simp [State.place_frame h]) (by simp [State.place_frame h]),
      hvoice.congr (by simp [State.place_frame h]) (by simp [State.place_frame h]) (by simp [State.place_frame h])
        (by simp [State.place_frame h])⟩
  | _ =>
    exact ⟨hcodes.congr (by simp) (by simp) (by simp),
      hvoice.congr (by simp [State.speaking]) (by simp) (by simp) (by simp)⟩

/-! ### The failed attempts -/

/-- No act removes a code that a station's state depends on (R155, R156). -/
theorem Act.keepsCode {x : Bool} {d : ErrorCode} (h : Act x s t) (hd : d.ordinary = false)
    (hs : s.station.errors.has d = true) : t.station.errors.has d = true := by
  have hclose : ∀ {u : State}, u.station.errors.has d = true → u.closeAtLimit.station.errors.has d = true :=
    fun {u} hu => by
      rcases u.closeAtLimit_cases with ⟨_, _, heq⟩ | ⟨_, heq⟩ <;> rw [heq]
      · simp [State.close, State.raise_has, State.strayEntries, hu]
      · exact hu
  cases h with
  | unseen h => rwa [h.errors]
  | raise c _ => simp [State.raise_has, hs]
  | clearError c hord =>
    have hne : d ≠ c := fun h => by simp [← h, hd] at hord
    simp [State.clearError_has, hs, hne]
  | silence c _ _ =>
    have hraised : (s.raise c).station.errors.has d = true := by simp [State.raise_has, hs]
    unfold State.silence
    split
    · exact hclose (by simpa [State.releaseGate, State.enter] using hraised)
    · simpa [State.muteFromActive, State.strayEntries, State.enter] using hraised
    · simpa using hraised
    all_goals exact hraised
  | closeAtLimit => exact hclose hs
  | enterActive _ _ => exact hclose (by simpa using hs)
  | place e p hp h => simpa [State.place_frame h] using hs
  | _ => simpa using hs

/-- The unit that was put in place. -/
@[simp] theorem State.withLine_line (s : State) (l : LineUnit) : (s.withLine l).line = l := rfl

/-- A dominant level, one that begins no byte, and an idle run leave the failed attempts (R131). -/
@[simp] theorem LineUnit.levels_failed (l : LineUnit) :
    l.fall.failed = l.failed ∧ l.heldDominant.failed = l.failed ∧ l.idlePassed.failed = l.failed := by
  simp [LineUnit.fall, LineUnit.heldDominant, LineUnit.idlePassed]

/-- A received frame leaves the failed attempts (R131). -/
@[simp] theorem State.receive_failed (s : State) (f : Frame) : (s.receive f).line.failed = s.line.failed := by
  unfold State.receive
  dsimp only
  repeat' split
  all_goals simp [State.frameHandedOn]

/-- A command leaves the failed attempts, but for the end of a transmission (R136, R137). -/
theorem exec_failed {c : Instr} (hreset : resets c = false) (hrelease : ∀ straps, c ≠ .resetReleased straps)
    (hcomplete : c ≠ .transmitComplete) (hmismatch : c ≠ .readbackMismatch) (h : exec c s = .next t) :
    t.line.failed = s.line.failed := by
  cases c with
  | resetAsserted | clockLoss => cases hreset
  | resetReleased straps => exact absurd rfl (hrelease straps)
  | transmitComplete => exact absurd rfl hcomplete
  | readbackMismatch => exact absurd rfl hmismatch
  | next | peek | status =>
    cases h
    unfold State.latch
    split <;> rfl
  | unknownCommand b =>
    cases h
    unfold State.latch
    repeat' split
    all_goals rfl
  | millisecondTick =>
    cases h
    split
    · dsimp only
      split <;> simp
    · rfl
  | _ =>
    cases h
    repeat' split
    all_goals simp

/-- The sixteenth failed attempt is there only with E02 pending (R139). -/
def State.SixteenSilences (s : State) : Prop :=
  s.line.failed ≤ Config.maxFailed ∧ (s.line.failed = Config.maxFailed → s.station.errors.has .e02 = true)

/-- A silencing error leaves the failed attempts and E02 (R139). -/
theorem State.silence_e02 (s : State) (h : s.station.errors.has .e02 = true) :
    s.silence.line.failed = s.line.failed ∧ s.silence.station.errors.has .e02 = true := by
  refine ⟨by simp, ?_⟩
  have hclose : ∀ {u : State}, u.station.errors.has .e02 = true → u.closeAtLimit.station.errors.has .e02 = true :=
    fun hu => (Act.closeAtLimit (crossing := false)).keepsCode rfl hu
  unfold State.silence
  split
  · exact hclose (by simpa [State.releaseGate, State.enter] using h)
  · simpa [State.muteFromActive, State.strayEntries, State.enter] using h
  · simpa using h
  all_goals exact h

/-- READBACK_MISMATCH counts a failed attempt, and raises E02 at the sixteenth (R137, R139). -/
theorem readbackMismatch_sixteen (hs : s.SixteenSilences) (h : exec .readbackMismatch s = .next t) :
    t.SixteenSilences := by
  cases h
  split
  · dsimp only
    split
    next hsixteen =>
      obtain ⟨hfailed, he02⟩ := State.silence_e02 (State.raise _ .e02) (by simp [State.raise_has])
      exact ⟨by rw [hfailed]; simp, fun _ => he02⟩
    next hbelow =>
      exact ⟨by simp, fun hsixteen => absurd (by simpa using hsixteen) hbelow⟩
  all_goals exact hs

/-- Every step leaves the sixteenth failed attempt with E02 alone (R139). -/
theorem step_sixteen (hheld : s.ResetHeld) (hs : s.SixteenSilences) (h : step s = .next t) : t.SixteenSilences := by
  have hsame : ∀ {u v : State} {x : Bool}, u.SixteenSilences → Moves x u v → v.line.failed = u.line.failed →
      v.SixteenSilences := fun hu hmoves hfailed =>
    ⟨hfailed ▸ hu.1, fun h => hmoves.keeps (fun _ _ hact he => hact.keepsCode rfl he) (hu.2 (hfailed ▸ h))⟩
  have hreset : ∀ u : State, u.AtReset → u.SixteenSilences := fun u hu => by
    simp [State.SixteenSilences, hu.failed, Config.maxFailed]
  unfold step at h
  split at h
  next c rest _ =>
    have hs' : State.SixteenSilences { s with pending := rest } := hs
    by_cases hplain : resets c = false ∧ ∀ straps, c ≠ .resetReleased straps
    · obtain ⟨u, hu, hmoves⟩ := exec_moves c hplain.1 hplain.2 { s with pending := rest }
      have htu : t = u := by rw [hu] at h; cases h; rfl
      subst htu
      by_cases hcomplete : c = .transmitComplete
      · subst hcomplete
        cases h
        split
        · exact ⟨by simp, fun hsixteen => by simp [Config.maxFailed] at hsixteen⟩
        all_goals exact hs'
      by_cases hmismatch : c = .readbackMismatch
      · subst hmismatch
        exact readbackMismatch_sixteen hs' h
      · exact hsame hs' hmoves (exec_failed hplain.1 hplain.2 hcomplete hmismatch h)
    rcases exec_cases h with hmoves | ⟨_, cause, rfl⟩ | ⟨straps, hstate, rfl⟩
    · cases c with
      | resetAsserted input =>
        cases h
        split
        · exact hreset _ (State.assertReset_atReset _ _)
        · split <;> exact hs'
      | clockLoss =>
        cases h
        split
        · exact hreset _ (State.assertReset_atReset _ _)
        · exact hs'
      | resetReleased straps =>
        cases h
        split
        · exact hs'
        next hoff =>
          have hstate : s.station.state = .reset := s.running_eq_false_iff.1 (Bool.eq_false_iff.2 hoff)
          exact hreset _ (((hheld.atReset hstate).withPending rest).release straps)
      | _ => exact absurd ⟨rfl, fun _ h => nomatch h⟩ hplain
    · exact hreset _ (State.assertReset_atReset _ _)
    · exact hreset _ (((hheld.atReset hstate).withPending rest).release straps)
  next =>
    cases h
    exact hsame (x := false) hs s.idleStep_moves s.idleStep_counts.failed

/-! ### A step -/

/-- A station at its reset values, with no error pending, is silent in every state before ACTIVE (R104, R155). -/
theorem State.AtReset.signs (h : s.AtReset) (hoff : s.speaking = false) (hcodes : s.CodesSound) : s.SignsSound := by
  have hout := h.outbox
  refine ⟨hcodes, ?_, ?_, fun _ => ?_⟩
  · simp [hoff, h.tx]
  · simp [hoff, hout, Outbox.reset]
  · simp [hout, Outbox.reset]

/-- RESET's held state has no error pending and is silent (R142, R155). -/
theorem State.ResetHeld.signs (h : s.ResetHeld) (hs : s.station.state = .reset) :
    s.SignsSound ∧ s.station.errors = ErrorSet.none ∧ s.station.closedSpeaking = false := by
  have heq := h hs
  have herrors : s.station.errors = ErrorSet.none := by rw [heq]; rfl
  have hclosed : s.station.closedSpeaking = false := by rw [heq]; rfl
  refine ⟨(h.atReset hs).signs (by simp [State.speaking, hs]) ?_, herrors, hclosed⟩
  constructor <;> simp [herrors, hclosed, hs, ErrorSet.none, ErrorSet.has]

/-- Release raises E03 in CONFIG FAULT alone, and the station does not speak (R104, R147). -/
theorem State.ResetHeld.release_signs (h : s.ResetHeld) (hs : s.station.state = .reset) (rest : List Instr)
    (straps : Straps) : (State.release { s with pending := rest } straps).SignsSound := by
  obtain ⟨_, herrors, hclosed⟩ := h.signs hs
  obtain ⟨_, _, _, hstate⟩ := State.release_frame { s with pending := rest } straps
  have hcodes : (State.release { s with pending := rest } straps).CodesSound := by
    have hno : ∀ c, ErrorSet.none.has c = false := fun c => by cases c <;> rfl
    by_cases hgct : straps.gct = 7#3
    · have hhas : ∀ c, (State.release { s with pending := rest } straps).station.errors.has c =
          decide (c = .e03) := fun c => by
        unfold State.release
        rw [if_pos hgct, State.raise_has]
        simp [herrors, hno]
      have hspeak : (State.release { s with pending := rest } straps).station.closedSpeaking = false := by
        simp [State.release, hgct, hclosed]
      constructor <;> simp [hhas, hstate, hspeak, hgct]
    · have hhas : ∀ c, (State.release { s with pending := rest } straps).station.errors.has c = false :=
        fun c => by simp [State.release, hgct, herrors, hno]
      have hspeak : (State.release { s with pending := rest } straps).station.closedSpeaking = false := by
        simp [State.release, hgct, hclosed]
      constructor <;> simp [hhas, hstate, hspeak, hgct]
  refine (((h.atReset hs).withPending rest).release straps).signs ?_ hcodes
  by_cases hgct : straps.gct = 7#3 <;> simp [State.speaking, hstate, hgct]

/-- Every step keeps the errors and the speaking (O51). -/
theorem step_signs (hheld : s.ResetHeld) (hs : s.SignsSound) (h : step s = .next t) : t.SignsSound := by
  have hheld' := step_resetHeld hheld h
  by_cases hreset : t.station.state = .reset
  · exact (hheld'.signs hreset).1
  rcases step_cases h with ⟨x, hmoves, _⟩ | ⟨_, _, _, _, _, rfl⟩ | ⟨rest, straps, hstate, rfl⟩
  · have hrun : s.station.state ≠ .reset := fun hin => hreset
      (hmoves.keeps (P := fun u => u.station.state = .reset)
        (fun _ _ hact hu => (hact.state_eq_iff .reset (.inl rfl)).2 hu) hin)
    exact (hmoves.keeps (P := fun u => u.station.state ≠ .reset ∧ u.SignsSound)
      (fun _ _ hact hu => ⟨mt (hact.state_eq_iff .reset (.inl rfl)).1 hu.1, hact.signs hu.1 hu.2⟩)
      ⟨hrun, hs⟩).2
  · exact absurd rfl hreset
  · exact hheld.release_signs hstate rest straps

/-- Settles O51: the errors and the speaking act by act out of RESET, and the failed attempts command by
command. -/
theorem stepsKeepErrorsAndSpeaking : Obligations.StepsKeepErrorsAndSpeaking := by
  intro s t hheld _ ⟨hunit, htimer, hsilent⟩ ⟨hfault, hclosed, hsilenced, hmute, _, hspeaking⟩ hfailures h
  obtain ⟨hcodes, hvoice⟩ :=
    step_signs hheld ⟨⟨hfault, hclosed, hsilenced, hmute, hspeaking⟩, hunit, htimer, hsilent⟩ h
  have hnone : t.station.state = .reset → t.station.errors = ErrorSet.none := fun hreset =>
    ((step_resetHeld hheld h).signs hreset).2.1
  exact ⟨⟨hcodes.fault, hcodes.closed, hcodes.silenced, hcodes.mute, hnone, hcodes.speaking⟩,
    ⟨hvoice.unit, hvoice.timer, hvoice.silent⟩, step_sixteen hheld hfailures h⟩

end

end Sys2Proof.Machine
end

section
/-! PROOFS. Facts in any order (O58), frames and their bytes (O60), the step and its commands (O1, O2), and the
state after reset (O49). -/

namespace Sys2Proof.Machine

/-! ### What facts leave of a record, whatever their order -/

/-- What a record says but for its times: its run and marks, its rulings, and which of its start time and slots
are filled. -/
structure Outline where
  run : Nat
  started : Bool
  slots : List Bool
  voided : Bool
  dnfed : Bool
  manualStart : Bool
  learned : Bool
  stepped : Bool
  carriesStepped : Bool

/-- The outline of a record. -/
def RunRecord.outline (r : RunRecord) : Outline :=
  { run := r.run, started := r.start.isSome, slots := r.splits.map Option.isSome, voided := r.voided
    dnfed := r.dnfed, manualStart := r.manualStart, learned := r.learned, stepped := r.stepped
    carriesStepped := r.carriesStepped }

/-- What a fact adds to an outline (R10 to R12). -/
def Outline.take (o : Outline) : Fact → Outline
  | .start _ _ m => { o with started := true, manualStart := o.manualStart || m }
  | .cross _ g _ st _ _ _ => { o with started := o.started || st.isSome, slots := o.slots.set (g - 1) true }
  | .ruling _ .void => { o with voided := true }
  | .ruling _ .dnf => { o with dnfed := true }

/-- A slot that holds something already is filled. -/
theorem set_true_of_getD {l : List Bool} {i : Nat} (h : l.getD i false = true) : l.set i true = l := by
  rw [List.getD_eq_getElem?_getD] at h
  cases hi : l[i]? with
  | none => simp [hi] at h
  | some b =>
    obtain ⟨hlt, rfl⟩ := List.getElem?_eq_some_iff.1 hi
    have hb : l[i] = true := by simpa [hi] using h
    rw [← hb, List.set_getElem_self]

/-- The outline follows the facts (R10 to R12). -/
theorem RunRecord.take_outline (r : RunRecord) (f : Fact) : (r.take f).outline = r.outline.take f := by
  cases f with
  | start run t m =>
    simp [RunRecord.take, RunRecord.takeStart, RunRecord.outline, Outline.take, RunRecord.fillStart]
  | ruling run v => cases v <;> rfl
  | cross run g t st m l d =>
    have hstart : (r.start <|> st).isSome = (r.start.isSome || st.isSome) := by
      cases r.start <;> cases st <;> rfl
    simp only [RunRecord.take, RunRecord.takeCross, RunRecord.outline, Outline.take, RunRecord.fillStart, hstart]
    by_cases hpassed : r.passed g = true
    · have hslot : (r.splits.map Option.isSome).getD (g - 1) false = true := by
        rw [RunRecord.passed, List.getD_eq_getElem?_getD] at hpassed
        rw [List.getD_eq_getElem?_getD, List.getElem?_map]
        cases hslot : r.splits[g - 1]? <;> simp_all
      rw [if_pos hpassed, set_true_of_getD hslot]
    · rw [if_neg hpassed, List.map_set]
      rfl

/-- Two facts add the same in either order. -/
theorem Outline.take_comm (o : Outline) (f g : Fact) : (o.take f).take g = (o.take g).take f := by
  have hset : ∀ (l : List Bool) (i j : Nat), (l.set i true).set j true = (l.set j true).set i true :=
    fun l i j => by
      by_cases h : i = j
      · rw [h]
      · exact List.set_comm _ _ h
  rcases f with _ | _ | ⟨_, v⟩ <;> rcases g with _ | _ | ⟨_, w⟩ <;> (try cases v) <;> (try cases w) <;>
    simp [Outline.take, Bool.or_assoc, Bool.or_comm, Bool.or_left_comm, hset]

/-- The outline after several facts. -/
theorem RunRecord.foldl_outline (r : RunRecord) (l : List Fact) :
    (l.foldl RunRecord.take r).outline = l.foldl Outline.take r.outline := by
  induction l generalizing r with
  | nil => rfl
  | cons f fs ih => rw [List.foldl_cons, List.foldl_cons, ih, r.take_outline]

/-- The finish is passed where the last slot is filled (R2). -/
theorem RunRecord.finish_isSome (r : RunRecord) :
    r.finish.isSome = (r.splits.map Option.isSome).getLast?.getD false := by
  unfold RunRecord.finish
  rw [List.getLast?_map]
  cases r.splits.getLast? with
  | none => rfl
  | some p => cases p <;> rfl

/-- The state is read from the outline (R3). -/
theorem RunRecord.state_of_outline {a b : RunRecord} (h : a.outline = b.outline) : a.state = b.state := by
  obtain ⟨_, _, hslots, hvoided, hdnfed, _⟩ := Outline.mk.inj h
  unfold RunRecord.state
  rw [a.finish_isSome, b.finish_isSome, hslots, hvoided, hdnfed]

/-- No fact touches the STEPPED marks (R14). -/
theorem Outline.foldl_stepped (o : Outline) (l : List Fact) :
    (l.foldl Outline.take o).stepped = o.stepped ∧ (l.foldl Outline.take o).carriesStepped = o.carriesStepped := by
  induction l generalizing o with
  | nil => exact ⟨rfl, rfl⟩
  | cons f fs ih =>
    obtain ⟨h1, h2⟩ := ih (o.take f)
    rcases f with _ | _ | ⟨_, v⟩ <;> (try cases v) <;> exact ⟨h1, h2⟩

/-- Settles O58: the outline is the same in every order. -/
theorem factsInAnyOrderGiveTheSameRun : Obligations.FactsInAnyOrderGiveTheSameRun := by
  intro r l m hperm a b
  have ha : a.outline = l.foldl Outline.take r.outline := r.foldl_outline l
  have hb : b.outline = m.foldl Outline.take r.outline := r.foldl_outline m
  have hfold : l.foldl Outline.take r.outline = m.foldl Outline.take r.outline :=
    hperm.foldl_eq' (fun f _ g _ o => o.take_comm f g) _
  have hab : a.outline = b.outline := by rw [ha, hb, hfold]
  obtain ⟨hrun, hstarted, hslots, hvoided, hdnfed, hmanual, hlearned, hstepped, hcarries⟩ := Outline.mk.inj hab
  obtain ⟨hs, hc⟩ := Outline.foldl_stepped r.outline l
  rw [← ha] at hs hc
  exact ⟨hvoided, hdnfed, hmanual, hslots, hstarted, RunRecord.state_of_outline hab, hrun, hlearned, hstepped,
    hcarries, hs, hc⟩

/-! ### Frames and their bytes -/

/-- Two bytes spell the two-byte field they came from (R186). -/
theorem word16_bytes (w : Word16) : word16 (w.extractLsb' 8 8) (w.extractLsb' 0 8) = w := by
  apply BitVec.eq_of_getLsbD_eq
  intro i hi
  simp only [word16, BitVec.getLsbD_append, BitVec.getLsbD_extractLsb']
  by_cases h : i < 8
  · simp [h]
  · have hsub : 8 + (i - 8) = i := by omega
    have hlt : i - 8 < 8 := by omega
    simp [h, hlt, hsub]

/-- Four bytes spell the four-byte field they came from (R186). -/
theorem word32_bytes (w : Word32) :
    word32 (w.extractLsb' 24 8) (w.extractLsb' 16 8) (w.extractLsb' 8 8) (w.extractLsb' 0 8) = w := by
  apply BitVec.eq_of_getLsbD_eq
  intro i hi
  simp only [word32, BitVec.getLsbD_append, BitVec.getLsbD_extractLsb']
  by_cases h : i < 8
  · simp [h]
  by_cases h2 : i - 8 < 8
  · have hsub : 8 + (i - 8) = i := by omega
    simp [h, h2, hsub]
  by_cases h3 : i - 8 - 8 < 8
  · have hsub : 16 + (i - 8 - 8) = i := by omega
    simp [h, h2, h3, hsub]
  · have hsub : 24 + (i - 8 - 8 - 8) = i := by omega
    have hlt : i - 8 - 8 - 8 < 8 := by omega
    simp [h, h2, h3, hlt, hsub]

/-- A payload's bytes and kind read back as the payload (R187). -/
theorem readPayload_bytes (p : Payload) : readPayload p.kindCode p.bytes = some p := by
  cases p with
  | beacon b =>
    obtain ⟨t, l, g, f, h, o⟩ := b
    cases o <;> simp [readPayload, Payload.kindCode, Payload.bytes, bytes16, bytes32, word16_bytes, word32_bytes]
  | _ => simp [readPayload, Payload.kindCode, Payload.bytes, bytes16, bytes32, word16_bytes, word32_bytes]

/-- No payload is longer than 12 bytes (R186). -/
theorem payload_length_le (p : Payload) : p.bytes.length ≤ 12 := by
  cases p with
  | beacon b =>
    obtain ⟨t, l, g, f, h, o⟩ := b
    cases o <;> simp [Payload.bytes, bytes16, bytes32]
  | _ => simp [Payload.bytes, bytes16, bytes32]

/-- A well-formed frame's bytes read back as the frame (R186). -/
theorem readFrame_bytes (f : Frame) (h : f.wellFormed = true) : readFrame f.bytes = some f := by
  obtain ⟨⟨station, epoch, seq⟩, p⟩ := f
  have hlen : (BitVec.ofNat 8 p.bytes.length).toNat = p.bytes.length := by
    have := payload_length_le p
    simp only [BitVec.toNat_ofNat]
    omega
  have hbytes : Frame.bytes ⟨⟨station, epoch, seq⟩, p⟩ =
      preamble :: p.kindCode :: station :: epoch.extractLsb' 8 8 :: epoch.extractLsb' 0 8 :: seq ::
        BitVec.ofNat 8 p.bytes.length ::
          (p.bytes ++ bytes16 (crc (Frame.body ⟨⟨station, epoch, seq⟩, p⟩))) := rfl
  rw [hbytes]
  simp only [readFrame, hlen, List.take_left, List.drop_left]
  rw [if_pos ⟨trivial, rfl⟩, readPayload_bytes]
  simp only [word16_bytes]
  rw [if_pos h]

/-- Settles O60: the bytes read back, so no two frames have the same. -/
theorem framesReadBack : Obligations.FramesReadBack := by
  intro f g hf
  refine ⟨readFrame_bytes f hf, fun hg hbytes => ?_⟩
  have hsome : some g = some f := by rw [← readFrame_bytes g hg, ← readFrame_bytes f hf, hbytes]
  exact Option.some.inj hsome

/-! ### The step and its commands -/

/-- Settles O1: that is the step on a queue with a front. -/
theorem stepRunsTheFrontCommand : Obligations.StepRunsTheFrontCommand := by
  intro c rest s
  rfl

/-- A received frame leaves the queue of commands. -/
@[simp] theorem State.receive_pending (s : State) (f : Frame) : (s.receive f).pending = s.pending := by
  unfold State.receive
  dsimp only
  repeat' split
  all_goals simp [State.frameHandedOn]

/-- The latch of a reply leaves the queue of commands. -/
@[simp] theorem State.latch_pending (s : State) (b : Byte) (reply : List Byte) (seq : Option Byte) :
    (s.latch b reply seq).pending = s.pending := by
  unfold State.latch
  split <;> rfl

/-- Settles O2: every command's answer is a next state, with the queue it was given. -/
theorem commandsNeverStopAndLeaveTheQueue : Obligations.CommandsNeverStopAndLeaveTheQueue := by
  intro c s
  cases c with
  | resetAsserted input =>
    refine ⟨_, rfl, ?_⟩
    split
    · rfl
    · cases input <;> rfl
  | clockLoss =>
    refine ⟨_, rfl, ?_⟩
    split <;> rfl
  | resetReleased straps =>
    refine ⟨_, rfl, ?_⟩
    split
    · rfl
    · unfold State.release
      split <;> simp
  | millisecondTick =>
    refine ⟨_, rfl, ?_⟩
    split
    · dsimp only
      split <;> simp
    · rfl
  | readbackMismatch =>
    refine ⟨_, rfl, ?_⟩
    split
    · dsimp only
      split <;> simp
    all_goals rfl
  | _ =>
    refine ⟨_, rfl, ?_⟩
    repeat' split
    all_goals simp

/-! ### The state after reset -/

/-- The state after reset is one at its reset values (R144). -/
theorem reset_atReset : State.reset.AtReset := by
  constructor <;> rfl

/-- Settles O49: the lemmas on states at their reset values, and what is plain of the state after reset. -/
theorem resetIsSound : Obligations.ResetIsSound := by
  have hat := reset_atReset
  have hheld : State.reset.ResetHeld := fun _ => rfl
  obtain ⟨htable, hcounter⟩ := hat.tables
  obtain ⟨hring, hcontrol, hsending⟩ := hat.outboxSound
  obtain ⟨hpeers, hown⟩ := hat.peerTable
  obtain ⟨⟨hcodes, hvoice⟩, _, _⟩ := hheld.signs rfl
  have hclock : State.reset.ClockSound := by
    refine ⟨Nat.zero_le _, Nat.zero_lt_succ _, fun h => ?_, (fun h => nomatch h), fun h => absurd rfl h⟩
    rcases h with h | h <;> cases h
  have hmode : State.reset.ModeSound :=
    ⟨by decide, fun h => absurd rfl h, fun _ => rfl, fun h => nomatch h⟩
  have hassign : State.reset.AssignSound :=
    ⟨by decide, List.Pairwise.nil, (fun e he => nomatch he), fun h => absurd rfl h, fun h => (nomatch h), fun _ => rfl⟩
  have hqueue : State.reset.QueueSound :=
    ⟨by decide, by decide, fun i hi => absurd hi (Nat.not_lt_zero i), List.Pairwise.nil, fun r hr => nomatch hr⟩
  exact ⟨hclock, hmode,
    ⟨hcodes.fault, hcodes.closed, hcodes.silenced, hcodes.mute, fun _ => rfl, hcodes.speaking⟩,
    ⟨hvoice.unit, hvoice.timer, hvoice.silent⟩, hheld, htable, hcounter, hassign, hring, hcontrol, hpeers, hown,
    hqueue, ⟨by decide, fun h => by cases h⟩, hsending, fun h => nomatch h⟩

/-! ### A run's state and time -/

/-- Settles O44: VOID over FINISHED over DNF over ON_COURSE, and the elapsed time from the finish split. -/
theorem theStateAndTheTimeOfARun : Obligations.TheStateAndTheTimeOfARun := by
  refine ⟨fun r => ⟨fun hv => ?_, fun hv hf => ?_, fun hv hf hd => ?_, fun hv hf hd => ?_⟩,
    fun r f st hf => ⟨fun hs => ?_, fun hs hlt => ?_, fun hs hle => ?_⟩⟩
  · simp [RunRecord.state, hv]
  · simp [RunRecord.state, hv, Option.isSome_iff_ne_none.2 hf]
  · simp [RunRecord.state, hv, hf, hd]
  · simp [RunRecord.state, hv, hf, hd]
  · simp [RunRecord.elapsed, hs]
  · simp [RunRecord.elapsed, hs, hf]
  · simp [RunRecord.elapsed, hs, hf, Nat.sub_eq_zero_of_le hle]

/-! ### Appends -/

/-- An append to a queue with room joins its end, and nothing else changes (R159). -/
theorem State.append_room (s : State) (c : ResultContents) (h : s.results.records.length < 24) :
    s.append c =
      { s with
        results :=
          { s.results with
            records :=
              s.results.records ++
                [⟨c.kind, c.reason, c.run, c.value, s.clock.courseTime, c.marks, c.gates, s.results.lost,
                  s.results.counter⟩]
            counter := s.results.counter + 1 } } :=
  if_pos h

/-- Settles O40: with room, and with the oldest given up. -/
theorem anAppendStampsAndJoins : Obligations.AnAppendStampsAndJoins := by
  intro s c oldest rest stamped
  refine ⟨fun hroom => s.append_room c hroom, fun hrec hfull hlost => ?_⟩
  have hno : ¬ s.results.records.length < Config.queueCapacity := by
    rw [hfull]
    decide
  have hmin : min 255 (s.results.lost + 1) = if s.results.lost = 255 then 255 else s.results.lost + 1 := by
    split <;> omega
  have hovertaken : (s.port.overtaken || s.overtakes oldest) =
      if (s.port.phase = .reply ∨ s.port.phase = .done) ∧ s.port.latchedSeq = some oldest.seq then true
      else s.port.overtaken := by
    unfold State.overtakes
    by_cases h : (s.port.phase = .reply ∨ s.port.phase = .done) ∧ s.port.latchedSeq = some oldest.seq
    · obtain ⟨h1 | h1, h2⟩ := id h <;> simp [h1, h2]
    · rw [if_neg h]
      cases hov : s.port.overtaken with
      | true => rfl
      | false => simpa using h
  unfold State.append
  dsimp only
  rw [if_neg hno]
  simp only [hrec, List.drop_one, List.tail_cons, List.head?_cons, hmin, hovertaken]
  rfl

/-- Several appends to a queue with room join its end, and leave the port and the lost count (R159). -/
theorem State.foldl_append_room (l : List ResultContents) (s : State)
    (h : s.results.records.length + l.length ≤ 24) :
    ∃ new, (l.foldl State.append s).results.records = s.results.records ++ new ∧ new.length = l.length ∧
      (l.foldl State.append s).port = s.port ∧ (l.foldl State.append s).station = s.station := by
  induction l generalizing s with
  | nil => exact ⟨[], by simp, rfl, rfl, rfl⟩
  | cons c cs ih =>
    have hroom : s.results.records.length < 24 := by
      simp only [List.length_cons] at h
      omega
    have heq := s.append_room c hroom
    obtain ⟨new, hrec, hlen, hport, hstation⟩ := ih (s.append c) (by
      rw [heq]
      simp only [List.length_append, List.length_cons, List.length_nil] at h ⊢
      omega)
    refine ⟨⟨c.kind, c.reason, c.run, c.value, s.clock.courseTime, c.marks, c.gates, s.results.lost,
      s.results.counter⟩ :: new, ?_, by simp [hlen], ?_, ?_⟩
    · rw [List.foldl_cons, hrec, heq]
      simp
    · rw [List.foldl_cons, hport, heq]
    · rw [List.foldl_cons, hstation, heq]

/-- Settles O42: the record that was latched stays the oldest while the queue has room, so the completed
transfer removes it. -/
theorem aCompletedNextRemovesWhatItLatched : Obligations.ACompletedNextRemovesWhatItLatched := by
  intro s t u v r rest l hrun hphase hrec hroom hnext happends hshift
  have ht : t = s.latch 0x4E#8 s.recordReply (some r.seq) := by
    have h : Host.Outcome.next (φ := Fault) (ρ := Refusal)
        (s.latch 0x4E#8 s.recordReply (s.results.records.head?.map (fun r => r.seq))) = .next t := hnext
    rw [hrec] at h
    cases h
    rfl
  have hlatched : t.port.phase = .reply ∧ t.port.latchedSeq = some r.seq ∧ t.port.overtaken = false ∧
      t.results = s.results ∧ t.station = s.station := by
    rw [ht, State.latch, if_pos ⟨hrun, hphase⟩]
    exact ⟨rfl, rfl, rfl, rfl, rfl⟩
  obtain ⟨hreply, hseq, hfree, hresults, hstation⟩ := hlatched
  obtain ⟨new, hnew, hlen, hport, hstation'⟩ := t.foldl_append_room l (by
    rw [hresults, hrec]
    simpa using hroom)
  rw [happends] at hnew hport hstation'
  have hurun : u.running = true := by
    rw [State.running, hstation', hstation]
    exact hrun
  have hv : v = u.withPort { u.port with phase := .done, bits := 136, shown := 136, xclkHigh := true } := by
    have h : Host.Outcome.next (φ := Fault) (ρ := Refusal)
        (if u.running ∧ u.port.phase = .reply then
          u.withPort { u.port with phase := .done, bits := 136, shown := 136, xclkHigh := true }
        else u) = .next v := hshift
    rw [if_pos ⟨hurun, hport ▸ hreply⟩] at h
    cases h
    rfl
  have hvrec : v.results.records = r :: (rest ++ new) := by
    rw [hv]
    simp [hnew, hresults, hrec]
  have hremoves : v.removes = true := by
    rw [hv]
    simp [State.removes, State.withPort, hport, hfree, hseq, hnew, hresults, hrec]
  have hcond : v.running = true ∧ v.port.phase = .done := by
    rw [hv]
    exact ⟨hurun, rfl⟩
  refine ⟨{ v with
      results := { v.results with records := v.results.records.drop 1, lost := 0 }, port := v.port.ended }, new,
    congrArg Host.Outcome.next ((if_pos hcond).trans (if_pos hremoves)), ?_, hlen, rfl, rfl⟩
  simp [hvrec]

end Sys2Proof.Machine
end

section
/-! PROOFS. Reset and release (O4), the end of listening (O5), course time (O6, O7) and the timers (O8). -/

namespace Sys2Proof.Machine

section
variable {s t : State}

/-! ### Reset and release -/

/-- Out of RESET the station runs. -/
theorem State.running_of_ne (h : s.station.state ≠ .reset) : s.running = true := by
  simpa [State.running] using h

/-- Settles O4: the assertion out of RESET and in it, and the release. -/
theorem resetIsAssertedAndReleased : Obligations.ResetIsAssertedAndReleased := by
  refine ⟨fun s hs => ?_, fun s => ⟨fun hs => ?_, fun hs => ?_⟩, fun straps s hs => ⟨fun hgct => ?_,
    fun hgct he03 htone => ?_⟩⟩
  · intro emptied
    have hrun := State.running_of_ne hs
    exact ⟨congrArg Host.Outcome.next (if_pos hrun), congrArg Host.Outcome.next (if_pos hrun),
      congrArg Host.Outcome.next (if_pos hrun)⟩
  · have hoff : ¬ s.running = true := by simp [State.running, hs]
    exact ⟨congrArg Host.Outcome.next (if_neg hoff), congrArg Host.Outcome.next (if_neg hoff),
      congrArg Host.Outcome.next (if_neg hoff), congrArg Host.Outcome.next (if_neg hoff)⟩
  · exact congrArg Host.Outcome.next (if_pos (State.running_of_ne hs))
  · have hoff : ¬ s.running = true := by simp [State.running, hs]
    exact congrArg Host.Outcome.next ((if_neg hoff).trans (if_neg hgct))
  · have hoff : ¬ s.running = true := by simp [State.running, hs]
    refine congrArg Host.Outcome.next ((if_neg hoff).trans ((if_pos hgct).trans ?_))
    rw [State.raise_eq]
    simp [ErrorSet.put, State.alarmed, ErrorSet.has, he03, State.now]

/-! ### The end of listening -/

/-- The count of gap and slot starts alike from an idle unit and one that is off: neither drives the pair (R124,
R132). -/
theorem State.startWaiting_congr (hgap : t.line.gap = s.line.gap) (hbusy : t.line.busy = s.line.busy)
    (hidle : t.line.idlePeriods = s.line.idlePeriods) : t.startWaiting = s.startWaiting := by
  unfold State.startWaiting
  rw [hgap, hbusy, hidle]

/-- A unit that drives nothing is busy as its line is, whatever its transmit state (R124, R126). -/
theorem LineUnit.busy_with_tx (l : LineUnit) (tx : TxState) (h : l.drives = false)
    (htx : { l with tx := tx }.drives = false) : { l with tx := tx }.busy = l.busy := by
  unfold LineUnit.busy LineUnit.level
  rw [h, htx]
  rfl

/-- The HELD decision changes HELD and its boundary alone (R74). -/
theorem State.decideHeld_eq (s : State) :
    s.decideHeld =
      { s with
        assign :=
          { s.assign with
            held :=
              if s.isAssigner = true ∧ s.assign.recEpoch = s.epoch ∧ s.assign.recOldest ≠ 0 then true
              else s.assign.held
            boundary :=
              if s.isAssigner = true ∧ s.assign.recEpoch = s.epoch ∧ s.assign.recOldest ≠ 0 then
                s.assign.recHighest + 1
              else s.assign.boundary } } := by
  unfold State.decideHeld
  split
  next h => simp [h]
  next => simp

/-- The queue after an append is read from the queue and course time alone (R159, R160). -/
theorem State.append_results (hresults : t.results = s.results)
    (hclock : t.clock.courseTime = s.clock.courseTime) (c : ResultContents) :
    (t.append c).results = (s.append c).results := by
  unfold State.append
  rw [hresults, hclock]
  dsimp only
  split <;> rfl

/-- The contents of a CLOSED result (R38). -/
def closedContents (epoch : Word16) : ResultContents :=
  ⟨.closed, .empty, 0, some epoch.toNat, Marks.none, 0⟩

/-- With no crossing pending the close appends one CLOSED result (R38). -/
theorem State.close_results (s : State) (h : s.assign.entries = []) :
    s.close.results = (s.append (closedContents s.epoch)).results := by
  unfold State.close State.strayEntries
  refine (State.append_results (s := s) ?_ (by simp) _).trans ?_
  · simp [h, State.withEntries]
  · simp [closedContents]

/-- The state at the end of listening before the close (R150). -/
def State.listened (s : State) : State :=
  ({ s with station := { s.station with listenCount := s.listenLimit } }.settleEpoch.setCounter
    (decide (s.epoch = 0#16))).decideHeld.becomeActive

/-- LISTEN_END in LISTENING (R150). -/
theorem exec_listenEnd (h : s.station.state = .listening) :
    exec .listenEnd s = .next s.listened.closeAtLimit.settleLine :=
  congrArg Host.Outcome.next (if_pos h)

/-- The whole state at the end of listening before the close (R54, R74, R85, R106, R135, R150). -/
theorem State.listened_eq (s : State) :
    s.listened =
      { s with
        epoch := if s.epoch = 0#16 then 1#16 else s.epoch
        station := { s.station with state := .active, listenCount := 4096 * (1000 + 50 * s.number) }
        table :=
          { s.table with
            nextRun :=
              if s.number = 0 then (if s.epoch = 0#16 then 1 else s.table.markRun + 1)
              else s.table.nextRun }
        assign :=
          { s.assign with
            held :=
              if s.isAssigner = true ∧ s.assign.recEpoch = (if s.epoch = 0#16 then 1#16 else s.epoch) ∧
                  s.assign.recOldest ≠ 0 then true
              else s.assign.held
            boundary :=
              if s.isAssigner = true ∧ s.assign.recEpoch = (if s.epoch = 0#16 then 1#16 else s.epoch) ∧
                  s.assign.recOldest ≠ 0 then s.assign.recHighest + 1
              else s.assign.boundary }
        gate :=
          { s.gate with
            capture := .armed, candidate := none, confirm := 0, holdoff := 0, blocked := 0
            firstSample := true }
        outbox :=
          { s.outbox with
            beaconDue := true, beaconTimer := some (s.now + 250)
            fresh := true, freshEnd := some (s.now + 2000) }
        line := { s.line with tx := .idle } } := by
  have hset : { s with station := { s.station with listenCount := s.listenLimit } }.settleEpoch.setCounter
        (decide (s.epoch = 0#16)) =
      { s with
        epoch := if s.epoch = 0#16 then 1#16 else s.epoch
        station := { s.station with listenCount := s.listenLimit }
        table :=
          { s.table with
            nextRun :=
              if s.number = 0 then (if s.epoch = 0#16 then 1 else s.table.markRun + 1)
              else s.table.nextRun } } := by
    unfold State.setCounter State.settleEpoch
    by_cases he : s.epoch = 0#16 <;> by_cases hn : s.number = 0 <;>
      simp [he, State.withEpoch, State.withNextRun, State.number, State.config] at hn ⊢ <;> simp [hn]
  unfold State.listened
  rw [hset]
  rw [State.decideHeld_eq]
  rfl

/-- The unit of a station that begins to speak waits for its first beacon (R131, R150). -/
theorem State.listened_tx (hs : s.SpeakingSound) (hl : s.station.state = .listening) (u : State)
    (hline : u.line = { s.line with tx := .idle }) (hdue : u.outbox.beaconDue = true) :
    u.settleLine = { u with line := { s.line with tx := s.startWaiting } } := by
  have hoff : s.line.tx = .off := hs.1.2 (by simp [State.speaking, hl])
  have hready : u.frameReady = true := by simp [State.frameReady, hdue]
  have hidle : u.line.tx = .idle := by rw [hline]
  unfold State.settleLine
  rw [if_pos ⟨hidle, hready⟩, hline]
  have hwait : u.startWaiting = s.startWaiting := by
    refine State.startWaiting_congr (by rw [hline]; rfl) ?_ (by rw [hline])
    rw [hline]
    exact s.line.busy_with_tx _ (by simp [LineUnit.drives, hoff]) rfl
  rw [hwait]

/-- Settles O5: below the limit the entry to ACTIVE, and at it the close after the entry. -/
theorem listenEndEntersActive : Obligations.ListenEndEntersActive := by
  refine ⟨fun s hl hs htime => ?_, fun s hl hs htime hempty => ?_⟩
  · intro epoch held
    rw [exec_listenEnd hl]
    have hopen : s.listened.closeAtLimit = s.listened := if_neg fun h => htime (by
      simpa [State.listened_eq] using h.1)
    rw [hopen, State.listened_tx hs hl s.listened (by rw [State.listened_eq]) (by rw [State.listened_eq]),
      State.listened_eq]
  · have hclose : s.listened.closeAtLimit = s.listened.close := if_pos (by
      rw [State.listened_eq]
      exact ⟨htime, .inl rfl⟩)
    have hentries : s.listened.assign.entries = [] := by rw [State.listened_eq]; exact hempty
    rw [exec_listenEnd hl, hclose]
    have hcode : s.listened.close.station.errors = { s.station.errors with e10 := true } := by
      simp [State.close, State.raise_eq, State.strayEntries, ErrorSet.put, State.listened_eq]
    have hresults : s.listened.results = s.results := by rw [State.listened_eq]
    have hclock : s.listened.clock = s.clock := by rw [State.listened_eq]
    have hresult : s.listened.close.results = (s.append (closedContents s.listened.close.epoch)).results := by
      rw [State.close_results _ hentries, State.append_results hresults (by rw [hclock])]
      simp
    refine ⟨_, rfl, ?_⟩
    rw [State.listened_tx hs hl s.listened.close (by simp [State.listened_eq]) (by simp [State.listened_eq])]
    refine ⟨by simp, ?_, hcode, ?_, ?_, ?_, ?_, ?_, rfl, ?_, ?_, ?_, ?_⟩
    · simp [State.speaking, State.close, State.strayEntries, State.isActive, State.listened_eq]
    · simp [State.listened_eq]
    · simp [State.listened_eq]
    · simp [State.listened_eq]
    · simp [State.listened_eq]
    · simp [State.listened_eq]
    · exact hresult
    · simp [State.listened_eq]
    · simp [State.listened_eq]
    · simp [State.listened_eq]

/-! ### The tick -/

/-- MILLISECOND_TICK in a running station (R27, R38). -/
theorem exec_millisecondTick (h : s.running = true) :
    exec .millisecondTick s =
      .next
        (if s.clock.courseTime < Config.timeLimit ∧ s.clock.tick.courseTime = Config.timeLimit ∧
            (s.station.state = .active ∨ s.station.state = .mute) then
          (State.fallTogether { s with clock := s.clock.tick } false).settleLine
        else { s with clock := s.clock.tick }) :=
  congrArg Host.Outcome.next (if_pos h)

/-- Below the limit the tick raises course time (R27). -/
theorem Clock.tick_below {c : Clock} (h : c.courseTime < Config.timeLimit) :
    c.tick = { c with courseTime := c.courseTime + 1, phase := 0 } := if_pos h

/-- At the limit the tick is counted (R29). -/
theorem Clock.tick_stopped {c : Clock} (h : c.courseTime = Config.timeLimit) :
    c.tick = { c with phase := 0, stopTicks := c.stopTicks + 1 } := if_neg (by omega)

/-- Settles O6: a tick below the limit, one at it, and one that reaches it in a station that cannot close. -/
theorem tickRaisesCourseTimeUntilTheLimit : Obligations.TickRaisesCourseTimeUntilTheLimit := by
  intro s hrun
  refine ⟨fun hbelow => ?_, fun hlimit => ?_, fun hreach hstate => ?_⟩
  · rw [exec_millisecondTick hrun, Clock.tick_below (by omega)]
    exact congrArg Host.Outcome.next (if_neg fun ⟨_, h, _⟩ => hbelow.ne h)
  · rw [exec_millisecondTick hrun, Clock.tick_stopped hlimit]
    exact congrArg Host.Outcome.next (if_neg fun ⟨h, _, _⟩ => h.ne hlimit)
  · rw [exec_millisecondTick hrun, Clock.tick_below (by omega), hreach]
    refine congrArg Host.Outcome.next (if_neg fun ⟨_, _, h⟩ => ?_)
    rcases hstate with hs | hs | hs <;> simp [hs] at h

/-! ### What falls together leaves of the peers -/

/-- A peer's entry but for its Missing List is the same (R108). -/
def State.PeersAlike (s t : State) : Prop :=
  ∀ i, (t.peer i).presence = (s.peer i).presence ∧ (t.peer i).lastHeard = (s.peer i).lastHeard ∧
    (t.peer i).silenceEnd = (s.peer i).silenceEnd ∧ (t.peer i).expected = (s.peer i).expected

/-- A Peer Table that stays is alike. -/
theorem State.PeersAlike.of_peers (h : t.receiver.peers = s.receiver.peers) : s.PeersAlike t := fun i => by
  simp [State.peer, h]

/-- Alike over several operations. -/
theorem State.PeersAlike.trans {u : State} (h : s.PeersAlike t) (h' : t.PeersAlike u) : s.PeersAlike u := fun i => by
  obtain ⟨h1, h2, h3, h4⟩ := h i
  obtain ⟨h1', h2', h3', h4'⟩ := h' i
  exact ⟨h1'.trans h1, h2'.trans h2, h3'.trans h3, h4'.trans h4⟩

/-- A Missing List that changes is all that changes (R115). -/
theorem State.withMissing_alike (s : State) (p : Nat) (l : List MissingEntry) : s.PeersAlike (s.withMissing p l) := by
  intro i
  rw [State.withMissing, State.peer_withPeer_eq]
  split
  next h => simp [h.1]
  next => exact ⟨rfl, rfl, rfl, rfl⟩

/-- The Control List is no part of the Peer Table. -/
theorem State.control_alike (s : State) (e : ControlEntry) (test : Byte → Byte → Bool) :
    s.PeersAlike (s.addControl e) ∧ s.PeersAlike (s.dropRepeats test) :=
  ⟨.of_peers (by simp), .of_peers (by simp)⟩

/-- A sequence that leaves the Missing List (R120). -/
theorem State.dropMissing_alike (s : State) (p : Nat) (q : Byte) : s.PeersAlike (s.dropMissing p q) :=
  (s.withMissing_alike p _).trans (State.control_alike _ (.askRepeat 0#8 q) _).2

/-- A loss changes the Missing List alone (R121). -/
theorem State.lose_alike (s : State) (p : Nat) (q : Byte) : s.PeersAlike (s.lose p q) := by
  refine (s.dropMissing_alike p q).trans (.of_peers ?_)
  unfold State.lose
  dsimp only
  split <;> simp

/-- A retry changes the Missing List alone (R117). -/
theorem State.retryOne_alike (s : State) (p : Nat) (q : Byte) : s.PeersAlike (s.retryOne p q) := by
  unfold State.retryOne State.retry
  split
  · split
    · exact (s.withMissing_alike p _).trans (State.control_alike _ _ fun _ _ => true).1
    · exact s.lose_alike p _
  · exact .of_peers rfl

/-- Retries change Missing Lists alone (R117). -/
theorem State.retryAll_alike (l : List (Nat × Byte)) (s : State) : s.PeersAlike (s.retryAll l) := by
  induction l generalizing s with
  | nil => exact .of_peers rfl
  | cons y ys ih => exact (s.retryOne_alike y.1 y.2).trans (ih _)

/-- What falls together changes Missing Lists alone of the Peer Table. -/
theorem State.takeAll_alike (l : List Together) (s : State) : s.PeersAlike (s.takeAll l) := by
  induction l generalizing s with
  | nil => exact .of_peers rfl
  | cons y ys ih =>
    refine State.PeersAlike.trans ?_ (ih _)
    cases y with
    | expire => exact .of_peers (by simp [State.takeTogether])
    | retry => exact State.retryAll_alike _ s
    | close => exact .of_peers (by simp [State.takeTogether])

/-- What falls together at a change of course time changes Missing Lists alone of the Peer Table. -/
theorem State.fallTogether_alike (s : State) (isStep : Bool) : s.PeersAlike (s.fallTogether isStep) :=
  State.PeersAlike.trans (t := { s with freeIndex := s.freeIndex + s.together.length }) (.of_peers rfl)
    (State.takeAll_alike _ _)

/-! ### The close among what falls together -/

/-- The station has closed from the mode it was in: E10 pending, nobody waiting, speaking if it was ACTIVE (R38,
R70, R104). -/
structure State.ClosedFrom (active : Bool) (s : State) : Prop where
  state : s.station.state = .closed
  code : s.station.errors.has .e10 = true
  empty : s.assign.entries = []
  speaking : s.station.closedSpeaking = active

/-- The close leads to a station that has closed. -/
theorem State.close_closedFrom (s : State) : s.close.ClosedFrom s.isActive :=
  ⟨s.close_state, by simp [State.close, State.raise_has], s.close_entries, by simp [State.close, State.strayEntries]⟩

/-- What falls together beside the close leaves a station closed as it is. -/
theorem State.ClosedFrom.takeTogether {active : Bool} (h : s.ClosedFrom active) (y : Together) :
    (s.takeTogether y).ClosedFrom active := by
  have hmoves := State.takeTogether_moves (x := false) s y
  have hcode : (s.takeTogether y).station.errors.has .e10 = true :=
    hmoves.keeps (P := fun u => u.station.errors.has .e10 = true) (fun _ _ hact hu => hact.keepsCode rfl hu) h.code
  have hempty : (s.takeTogether y).assign.entries = [] :=
    hmoves.keeps (P := fun u => u.assign.entries = [])
      (fun _ _ hact hu => List.subset_nil.1 (hu ▸ hact.entries_subset)) h.empty
  refine ⟨?_, hcode, hempty, ?_⟩
  · cases y with
    | expire => simpa [State.takeTogether] using h.state
    | retry => simpa [State.takeTogether] using h.state
    | close => simp [State.takeTogether, State.closeAtLimit, h.state]
  · cases y with
    | expire => simpa [State.takeTogether] using h.speaking
    | retry => simpa [State.takeTogether] using h.speaking
    | close => simpa [State.takeTogether, State.closeAtLimit, h.state] using h.speaking

/-- With the close among what falls together at the limit the station has closed (R38). -/
theorem State.takeAll_closes (l : List Together) (s : State)
    (h : s.ClosedFrom active ∨ .close ∈ l ∧ s.clock.courseTime = Config.timeLimit ∧ s.isActive = active ∧
      (s.station.state = .active ∨ s.station.state = .mute)) : (s.takeAll l).ClosedFrom active := by
  induction l generalizing s with
  | nil => exact h.elim id fun h => nomatch h.1
  | cons y ys ih =>
    refine ih _ ?_
    rcases h with h | ⟨hmem, htime, hactive, hstate⟩
    · exact .inl (h.takeTogether y)
    cases y with
    | close =>
      left
      have heq : s.takeTogether .close = s.close := if_pos ⟨htime, hstate⟩
      rw [heq, ← hactive]
      exact s.close_closedFrom
    | expire =>
      exact .inr ⟨(List.mem_cons.1 hmem).resolve_left (by decide), by simpa [State.takeTogether] using htime,
        by simpa [State.takeTogether] using hactive, by simpa [State.takeTogether] using hstate⟩
    | retry =>
      exact .inr ⟨(List.mem_cons.1 hmem).resolve_left (by decide), by simpa [State.takeTogether] using htime,
        by simpa [State.takeTogether] using hactive, by simpa [State.takeTogether] using hstate⟩

/-- Where the station stands at the limit in ACTIVE or MUTE, it closes among what falls together (R38). -/
theorem State.fallTogether_closes (s : State) (isStep : Bool) (htime : s.clock.courseTime = Config.timeLimit)
    (hstate : s.station.state = .active ∨ s.station.state = .mute) :
    (s.fallTogether isStep).ClosedFrom s.isActive := by
  have hclose : Together.close ∈ pickOrder s.together.length s.freeIndex s.together :=
    (pickOrder_perm _ _ _ le_rfl).mem_iff.2 (by simp [State.together, htime, hstate])
  unfold State.fallTogether
  refine State.takeAll_closes _ _ (.inr ⟨?_, htime, rfl, hstate⟩)
  split
  · exact (mem_expiriesFirst _ _).2 hclose
  · exact hclose

/-- With no entry and nothing missing, the close falls alone. -/
theorem State.together_close (htime : s.clock.courseTime = Config.timeLimit)
    (hstate : s.station.state = .active ∨ s.station.state = .mute) (hempty : s.assign.entries = [])
    (hmissing : ∀ p ∈ s.receiver.peers, p.missing = []) : s.together = [.close] := by
  have hretries : s.retriesDue = [] := by
    unfold State.retriesDue
    rw [List.flatten_eq_nil_iff]
    intro l hl
    obtain ⟨⟨p, i⟩, hmem, rfl⟩ := List.mem_map.1 hl
    have hp : p ∈ s.receiver.peers := (List.mem_zipIdx hmem).2.2 ▸ List.getElem_mem _
    simp [hmissing p hp]
  simp [State.together, hempty, hretries, htime, hstate]

/-- MILLISECOND_TICK that brings course time to the limit in ACTIVE or MUTE (R38). -/
theorem exec_millisecondTick_limit (hreach : s.clock.courseTime + 1 = Config.timeLimit)
    (hstate : s.station.state = .active ∨ s.station.state = .mute) :
    exec .millisecondTick s =
      .next (State.fallTogether
        { s with clock := { s.clock with courseTime := Config.timeLimit, phase := 0 } } false).settleLine := by
  have hrun : s.running = true := State.running_of_ne (by rcases hstate with h | h <;> simp [h])
  rw [exec_millisecondTick hrun, Clock.tick_below (by omega), hreach]
  exact congrArg Host.Outcome.next (if_pos ⟨by omega, rfl, hstate⟩)

/-- Settles O7: the close is among what falls together, whatever its order, and the rest of it leaves what the
statement names. -/
theorem tickAtTheLimitCloses : Obligations.TickAtTheLimitCloses := by
  refine ⟨fun s hreach hstate => ?_, fun s hreach hstate hempty hmissing => ?_⟩
  · have hclosed := State.fallTogether_closes
      { s with clock := { s.clock with courseTime := Config.timeLimit, phase := 0 } } false rfl hstate
    have halike := State.fallTogether_alike
      { s with clock := { s.clock with courseTime := Config.timeLimit, phase := 0 } } false
    refine ⟨_, exec_millisecondTick_limit hreach hstate, ?_⟩
    refine ⟨by simpa using hclosed.state, by simp, by simpa [ErrorSet.has] using hclosed.code,
      by simpa using hclosed.empty, ?_, by simp, by simp, by simp, by simp, by simp, by simp, by simp, by simp, by simp,
      by simp, fun i _ => ?_⟩
    · simp only [State.settleLine_frame, State.speaking, hclosed.state]
      exact hclosed.speaking
    · simpa [State.peer] using halike i
  · have htogether := State.together_close
      (s := { s with clock := { s.clock with courseTime := Config.timeLimit, phase := 0 } }) rfl hstate hempty hmissing
    have hclose : State.fallTogether
        { s with clock := { s.clock with courseTime := Config.timeLimit, phase := 0 } } false =
        State.close
          { s with
            clock := { s.clock with courseTime := Config.timeLimit, phase := 0 }, freeIndex := s.freeIndex + 1 } := by
      unfold State.fallTogether
      rw [htogether]
      exact if_pos ⟨rfl, hstate⟩
    refine ⟨_, exec_millisecondTick_limit hreach hstate, ?_, ?_⟩
    · rw [hclose]
      simp only [State.settleLine_frame]
      exact (State.close_results _ (by exact hempty)).trans (State.append_results (by rfl) (by rfl) _)
    · rw [hclose]
      simp

/-! ### Timers -/

/-- A timer whose end is reached is due, and one whose end lies ahead is not (R29). -/
theorem State.due_some (s : State) (e : Nat) : s.due (some e) = decide (e ≤ s.clock.courseTime + s.clock.stopTicks) :=
  rfl

/-- The steps of a pattern, one after the other (R183). -/
theorem Pattern.next_step (p : Pattern) (k : Nat) :
    p.steps[k + 1]? =
      if p = .double ∧ k < 2 then some (decide (k = 1), 100)
      else if p = .refuse ∧ k < 2 then some (decide (k = 1), 50)
      else none := by
  match k with
  | 0 => cases p <;> rfl
  | 1 => cases p <;> rfl
  | k + 2 =>
    have hlt : ¬ k + 2 < 2 := by omega
    cases p <;> simp [Pattern.steps]

/-- The beacon timer, the fresh span (R35, R106). -/
theorem beaconTimers_end (s : State) (e : Nat) :
    (s.outbox.beaconTimer = some e → e ≤ s.clock.courseTime + s.clock.stopTicks →
       exec .beaconTimerEnd s =
         .next
           { s with
             outbox :=
               { s.outbox with
                 beaconDue := true
                 beaconTimer := some (s.clock.courseTime + s.clock.stopTicks + 250) }
             line := { s.line with tx := if s.line.tx = .idle then s.startWaiting else s.line.tx } }) ∧
     (s.outbox.beaconTimer = some e → s.clock.courseTime + s.clock.stopTicks < e → s.LineSettled →
       exec .beaconTimerEnd s = .next s) ∧
     (s.outbox.freshEnd = some e → e ≤ s.clock.courseTime + s.clock.stopTicks →
       exec .freshSpanEnd s =
         .next
           { s with
             outbox :=
               { s.outbox with
                 freshEnd := none, fresh := s.outbox.fresh && !s.outbox.firstBeaconSent } }) ∧
     (s.outbox.freshEnd = some e → s.clock.courseTime + s.clock.stopTicks < e →
       exec .freshSpanEnd s = .next s) := by
  refine ⟨fun ht he => ?_, fun ht he hsettled => ?_, fun ht he => ?_, fun ht he => ?_⟩
  · have hdue : s.due s.outbox.beaconTimer = true := by simp [ht, State.due_some, he]
    have hstep : s.beaconTimerStep = s.endBeaconTimer := if_pos hdue
    refine congrArg Host.Outcome.next ?_
    rw [hstep, State.settleLine_eq]
    have hready : s.endBeaconTimer.frameReady = true := by simp [State.frameReady, State.endBeaconTimer]
    simp only [State.waitIf, hready, and_true]
    rfl
  · have hdue : ¬ s.due s.outbox.beaconTimer = true := by simp [ht, State.due_some, he]
    have hstep : s.beaconTimerStep = s := if_neg hdue
    refine congrArg Host.Outcome.next ?_
    rw [hstep, s.settleLine_settled hsettled]
  · exact congrArg Host.Outcome.next (if_pos (by simp [ht, State.due_some, he]))
  · exact congrArg Host.Outcome.next (if_neg (by simp [ht, State.due_some, he]))

/-- The display holds and the tone's step (R180, R183). -/
theorem panelTimers_end (s : State) (h : ResultHold) (g : RunHold) (p : Pattern) (k e : Nat) :
    (s.panel.resultHold = some h → h.endsAt ≤ s.clock.courseTime + s.clock.stopTicks →
       exec .resultHoldEnd s = .next { s with panel := { s.panel with resultHold := none } }) ∧
     (s.panel.resultHold = some h → s.clock.courseTime + s.clock.stopTicks < h.endsAt →
       exec .resultHoldEnd s = .next s) ∧
     (s.panel.runHold = some g → g.endsAt ≤ s.clock.courseTime + s.clock.stopTicks →
       exec .runNumberHoldEnd s = .next { s with panel := { s.panel with runHold := none } }) ∧
     (s.panel.runHold = some g → s.clock.courseTime + s.clock.stopTicks < g.endsAt →
       exec .runNumberHoldEnd s = .next s) ∧
     (s.panel.tone = some ⟨p, k, e⟩ → s.clock.courseTime + s.clock.stopTicks < e →
       exec .toneStepEnd s = .next s) ∧
     (s.panel.tone = some ⟨p, k, e⟩ → e ≤ s.clock.courseTime + s.clock.stopTicks →
       exec .toneStepEnd s =
         .next
           { s with
             panel :=
               { s.panel with
                 tone :=
                   if p = .double ∧ k < 2 then some ⟨p, k + 1, e + 100⟩
                   else if p = .refuse ∧ k < 2 then some ⟨p, k + 1, e + 50⟩
                   else none } }) := by
  refine ⟨fun ht he => ?_, fun ht he => ?_, fun ht he => ?_, fun ht he => ?_, fun ht he => ?_, fun ht he => ?_⟩
  · exact congrArg Host.Outcome.next (if_pos (by simp [ht, State.due_some, he]))
  · exact congrArg Host.Outcome.next (if_neg (by simp [ht, State.due_some, he]))
  · exact congrArg Host.Outcome.next (if_pos (by simp [ht, State.due_some, he]))
  · exact congrArg Host.Outcome.next (if_neg (by simp [ht, State.due_some, he]))
  · exact congrArg Host.Outcome.next (if_neg (by simp [ht, State.due_some, he]))
  · refine congrArg Host.Outcome.next ((if_pos (by simp [ht, State.due_some, he])).trans ?_)
    unfold State.endToneStep
    simp only [ht, p.next_step k]
    by_cases h1 : p = .double ∧ k < 2
    · simp [h1]
    by_cases h2 : p = .refuse ∧ k < 2
    · simp [h2]
    · simp only [if_neg h1, if_neg h2]

/-- PENDING_ENTRY_EXPIRY with a crossing that waits (R68). -/
theorem exec_pendingEntryExpiry {e : PendingEntry} {rest : List PendingEntry} (h : s.assign.entries = e :: rest) :
    exec .pendingEntryExpiry s =
      .next (if e.deadline ≤ s.now then (s.withEntries rest).stray .noRun e.time e.manual else s) := by
  refine congrArg Host.Outcome.next ?_
  rw [h]

/-- Settles O8: each timer at its end and before it. -/
theorem timersEndWhereTheirEndsAreReached : Obligations.TimersEndWhereTheirEndsAreReached := by
  refine ⟨beaconTimers_end, panelTimers_end, fun s p e ht => ⟨fun hpresent he => ?_, fun hno => ?_⟩,
    fun s e rest hentries => ⟨fun he => ?_, fun he => ?_⟩⟩
  · exact exec_peerSilent_due (by simpa [State.silenceDue, hpresent, ht, State.due_some, State.now] using he)
  · refine congrArg Host.Outcome.next (if_neg fun hdue => ?_)
    simp only [State.silenceDue, ht, State.due_some, Bool.and_eq_true, beq_iff_eq, decide_eq_true_eq] at hdue
    rcases hno with hno | hno
    · exact hno hdue.1
    · unfold State.now at hno
      omega
  · rw [exec_pendingEntryExpiry hentries, if_pos (show e.deadline ≤ s.now from he), State.stray_eq]
    rfl
  · rw [exec_pendingEntryExpiry hentries, if_neg (Nat.not_le.2 he : ¬ e.deadline ≤ s.now)]

end

end Sys2Proof.Machine
end

section
/-! PROOFS. The Run Table's operations case by case: a fact in a record that is held, the record found or made
for an absent run, and station 0's counter. -/

namespace Sys2Proof.Machine

section
variable {s t : State}

/-! ### The queue, the port and the tone as values -/

/-- The queue after an append at a course time (R159, R160). -/
def Results.queued (q : Results) (time : Nat) (c : ResultContents) : Results :=
  let record : ResultRecord :=
    { kind := c.kind, reason := c.reason, run := c.run, value := c.value
      courseTime := time, marks := c.marks, gates := c.gates, lost := q.lost, seq := q.counter }
  if q.records.length < Config.queueCapacity then
    { q with records := q.records ++ [record], counter := q.counter + 1 }
  else
    { records := q.records.drop 1 ++ [record], lost := min 255 (q.lost + 1), counter := q.counter + 1 }

/-- The port after an append to a queue (R170). -/
def Port.queued (p : Port) (q : Results) : Port :=
  if q.records.length < Config.queueCapacity then p
  else
    { p with
      overtaken :=
        p.overtaken ||
          (match q.records.head? with
            | some oldest =>
              (p.phase == .reply || p.phase == .done) && p.latchedSeq == some oldest.seq
            | none => false) }

/-- An append through the queue and the port alone. -/
theorem State.append_queued (s : State) (c : ResultContents) :
    s.append c =
      { s with results := s.results.queued s.clock.courseTime c, port := s.port.queued s.results } := by
  unfold State.append State.overtakes Results.queued Port.queued
  dsimp only
  split <;> rfl

/-- One more result, through the queue and the port alone. -/
theorem State.appended_queued (s : State) (c : ResultContents) :
    s.appended c =
      { s with results := s.results.queued s.clock.courseTime c, port := s.port.queued s.results } := by
  rw [← State.append_eq, State.append_queued]

/-- The tone that plays after a request (R183, R184). -/
def Pattern.requested (p : Pattern) (tone : Option TonePlay) (now : Nat) : Option TonePlay :=
  match tone with
  | some t => if t.pattern = .alarm ∧ p ≠ .alarm then tone else some ⟨p, 0, now + (p.steps.getD 0 (false, 0)).2⟩
  | none => some ⟨p, 0, now + (p.steps.getD 0 (false, 0)).2⟩

/-- A request through the tone and the timers' clock alone. -/
theorem State.requestTone_requested (s : State) (p : Pattern) :
    s.requestTone p = { s with panel := { s.panel with tone := p.requested s.panel.tone s.now } } := by
  unfold State.requestTone State.playTone Pattern.requested
  cases htone : s.panel.tone with
  | none => rfl
  | some t =>
    dsimp only
    split
    · rw [← htone]
    · rfl

/-! ### A fact in a record that is held -/

/-- A FINISHED record handed to the Panel Unit: the RESULT hold, and at the finish the DOUBLE (R20, R184). -/
theorem State.handFinished_eq (s : State) (r : RunRecord) :
    s.handFinished r =
      { s with
        panel :=
          { s.panel with
            resultHold := if r.state = .finished then some ⟨s.now + 5000, r.elapsed⟩ else s.panel.resultHold
            tone :=
              if r.state = .finished ∧ s.number + 1 = s.gates then Pattern.double.requested s.panel.tone s.now
              else s.panel.tone } } := by
  unfold State.handFinished
  by_cases hr : r.state = .finished
  · by_cases hf : s.number + 1 = s.gates
    · rw [if_pos hr, if_pos (by simp [State.isFinish, hf]), State.requestTone_requested, if_pos hr, if_pos ⟨hr, hf⟩]
      rfl
    · rw [if_pos hr, if_neg (by simp [State.isFinish, hf]), if_pos hr, if_neg (fun h => hf h.2)]
      rfl
  · rw [if_neg hr, if_neg hr, if_neg (fun h => hr h.1)]

/-- The station with a record stored, and what the Panel Unit is handed with it (R19, R20). -/
def State.stored (s : State) (x : RunRecord) (handed : Bool) : State :=
  { s with
    table := { s.table with records := replaceRecord x s.table.records }
    panel :=
      { s.panel with
        resultHold :=
          if x.state = .finished ∧ handed = true then some ⟨s.now + 5000, x.elapsed⟩ else s.panel.resultHold
        tone :=
          if x.state = .finished ∧ handed = true ∧ s.number + 1 = s.gates then
            (s.requestTone .double).panel.tone
          else s.panel.tone } }

/-- A record is stored, its result appended, and the Panel Unit handed it, whose part does not touch the queue
(R19, R20). -/
theorem State.stored_appended (s : State) (x : RunRecord) (c : ResultContents) :
    ((s.withRecords (replaceRecord x s.table.records)).append c).handFinished x =
      (s.stored x true).appended c := by
  rw [State.handFinished_eq, State.append_queued, State.appended_queued]
  simp only [State.stored, State.requestTone_requested, true_and, and_true]
  rfl

/-- A record stored that the Panel Unit is not handed. -/
theorem State.stored_quiet (s : State) (x : RunRecord) :
    s.stored x false = s.withRecords (replaceRecord x s.table.records) := by
  simp only [State.stored, Bool.false_eq_true, false_and, and_false, if_false]
  rfl

/-- The fact as the record takes it (R10 to R12), slot by slot. -/
theorem RunRecord.take_eq (r : RunRecord) (f : Fact) :
    r.take f =
      match f with
      | .start _ time manual =>
        { r with
          start := if r.start = none then some time else r.start
          manualStart := r.manualStart || manual }
      | .cross _ gate time start manual late disturbed =>
        { r with
          start := if r.start = none then start else r.start
          splits :=
            if (r.splits.getD (gate - 1) none).isSome then r.splits
            else r.splits.set (gate - 1) (some ⟨time, manual, late, disturbed⟩) }
      | .ruling _ .void => { r with voided := true }
      | .ruling _ .dnf => { r with dnfed := true } := by
  have hfill : ∀ start : Option Nat, (r.start <|> start) = if r.start = none then start else r.start := by
    intro start
    cases r.start <;> rfl
  cases f with
  | start _ time manual => simp [RunRecord.take, RunRecord.takeStart, RunRecord.fillStart, hfill]
  | cross _ gate time start manual late disturbed =>
    simp [RunRecord.take, RunRecord.takeCross, RunRecord.fillStart, hfill, RunRecord.passed]
  | ruling _ v => cases v <;> rfl

/-- A sound record reports its state once it is settled, and nothing before (R19). -/
theorem RunRecord.Sound.reported {gates : Nat} {r : RunRecord} (h : r.Sound gates) :
    r.reported = if r.state = .onCourse then none else some r.state := by
  obtain ⟨-, -, -, hreported⟩ := h
  rw [hreported]
  cases hs : r.state <;> simp [RunRecord.settled, hs]

/-- A fact for a run of a sound table is taken by its record (R7). -/
theorem State.takeFact_held (hs : s.TableSound) (hc : s.CounterSound) {f : Fact} {r : RunRecord}
    (hmem : r ∈ s.table.records) (hrun : r.run = f.run) :
    s.takeFact f = (s.settle (r.take f), noticeDue r (r.take f)) := by
  obtain ⟨-, -, -, -, hzero⟩ := hc
  have hlookup : s.lookup f.run = some r := hrun ▸ State.lookup_of_mem hs hmem
  exact s.takeFact_known f r hlookup (fun h0 => hrun ▸ (hzero h0).2 r hmem)

/-- A record whose state stays is stored (R19). -/
theorem State.settle_same {r : RunRecord} {f : Fact} (h : r.Sound s.gates) (hstate : (r.take f).state = r.state) :
    s.settle (r.take f) = s.stored (r.take f) false := by
  rw [State.stored_quiet]
  refine State.settle_quiet s _ ?_
  rw [(r.take_frame f).1, h.reported, hstate]
  by_cases hr : r.state = .onCourse
  · exact .inl hr
  · exact .inr (if_neg hr)

/-- A run that settles appends its settlement (R19, R20). -/
theorem State.settle_settles {r : RunRecord} {f : Fact} (h : r.Sound s.gates)
    (hstate : (r.take f).state ≠ .onCourse) (hr : r.state = .onCourse) :
    s.settle (r.take f) =
      (s.stored { r.take f with reported := some (r.take f).state } true).appended
        (RunRecord.contents { r.take f with reported := some (r.take f).state } (r.take f).state.kind .empty) := by
  have hreported : (r.take f).reported = none := by rw [(r.take_frame f).1, h.reported, if_pos hr]
  rw [State.settle_first s _ hstate hreported, State.stored_appended]

/-- A settled run whose state changes appends a CORRECTION (R19, R20). -/
theorem State.settle_corrects {r : RunRecord} {f : Fact} (h : r.Sound s.gates)
    (hstate : (r.take f).state ≠ r.state) (hr : r.state ≠ .onCourse) (hsettled : (r.take f).state ≠ .onCourse) :
    s.settle (r.take f) =
      (s.stored { r.take f with reported := some (r.take f).state, corrected := true } true).appended
        (RunRecord.contents { r.take f with reported := some (r.take f).state, corrected := true } .correction
          (.newState (r.take f).state)) := by
  have hreported : (r.take f).reported = some r.state := by rw [(r.take_frame f).1, h.reported, if_neg hr]
  rw [State.settle_again s _ r.state hsettled hreported (Ne.symm hstate), State.stored_appended]

/-- Settles O21: a held record takes the fact itself, and its result is due by its state before and after. -/
theorem aHeldRecordTakesAFact : Obligations.AHeldRecordTakesAFact := by
  intro s f r hs hc hmem hrun taken stored value
  have htaken : taken = r.take f := (r.take_eq f).symm
  have hsound : r.Sound s.gates := hs.2.2.1 r hmem
  have hx : ∀ x : RunRecord, x.run = f.run → ∀ handed : Bool,
      (x.state = .finished → (handed = true ↔ r.state ≠ .finished)) → stored x = s.stored x handed := by
    intro x hxrun handed hhanded
    by_cases hfin : x.state = .finished
    · simp only [stored, State.stored, replaceRecord, hxrun, hfin, hhanded hfin, true_and]
    · simp only [stored, State.stored, replaceRecord, hxrun, hfin, false_and]
  have hrun' : (r.take f).run = f.run := (r.take_run f).trans hrun
  rw [State.takeFact_held hs hc hmem hrun]
  subst taken value
  rw [htaken]
  refine ⟨fun hstate => ?_, fun hstate hr => ?_, fun hstate hr => ?_⟩
  · rw [hx _ hrun' false (fun hfin => by simp [← hstate, hfin])]
    exact State.settle_same hsound hstate
  · refine (State.settle_settles hsound (hr ▸ hstate) hr).trans ?_
    rw [hx { r.take f with reported := some (r.take f).state } hrun' true (fun _ => by simp [hr]), ← hrun']
    rfl
  · have hsettled := r.take_settled f hr
    refine (State.settle_corrects hsound hstate hr hsettled).trans ?_
    rw [hx { r.take f with reported := some (r.take f).state, corrected := true } hrun' true
      (fun hfin => by simpa using fun h => hstate ((show (r.take f).state = .finished from hfin).trans h.symm)),
      ← hrun']
    rfl

/-! ### A run that the table does not hold -/

/-- The records of a list with a new one among them, by run number. -/
def recordsWith (x : RunRecord) (records : List RunRecord) : List RunRecord :=
  records.filter (fun r => decide (r.run < x.run)) ++ x :: records.filter (fun r => decide (x.run < r.run))

/-- In ascending records a new run's record goes to its place (R7). -/
theorem insertRecord_recordsWith (x : RunRecord) :
    ∀ {l : List RunRecord}, (l.map (fun r => r.run)).Pairwise (· < ·) → (∀ r ∈ l, r.run ≠ x.run) →
      insertRecord x l = recordsWith x l
  | [], _, _ => rfl
  | y :: ys, hsorted, habsent => by
    obtain ⟨hy, hys⟩ := List.pairwise_cons.1 hsorted
    have hyx : y.run ≠ x.run := habsent y (by simp)
    have hrun : ∀ r ∈ ys, y.run < r.run := fun r hr => hy _ (List.mem_map_of_mem hr)
    unfold insertRecord recordsWith
    by_cases hlt : x.run < y.run
    · have hbelow : ys.filter (fun r => decide (r.run < x.run)) = [] :=
        List.filter_eq_nil_iff.2 fun r hr => by have := hrun r hr; simp; omega
      have habove : ys.filter (fun r => decide (x.run < r.run)) = ys :=
        List.filter_eq_self.2 fun r hr => by have := hrun r hr; simp; omega
      have hnot : ¬ y.run < x.run := by omega
      simp [hlt, hnot, hbelow, habove]
    · have hgt : y.run < x.run := by omega
      rw [if_neg hlt, insertRecord_recordsWith x hys (fun r hr => habsent r (by simp [hr]))]
      simp [hlt, hgt, recordsWith]

/-- A run is absent where no record bears its number. -/
theorem State.lookup_absent {run : Nat} (h : ∀ r ∈ s.table.records, r.run ≠ run) : s.lookup run = none :=
  List.find?_eq_none.2 fun r hr => by simpa using h r hr

/-- No record is made at or below the floor (R7). -/
theorem State.enrol_floor {run : Nat} {learned : Bool} (habsent : s.lookup run = none)
    (hfloor : run ≤ s.table.floor) : s.enrol run learned = (s, false) := by
  unfold State.enrol
  rw [habsent, if_neg (by simp), if_pos hfloor]

/-- A record is made where there is room (R7). -/
theorem State.enrol_room {run : Nat} {learned : Bool} (habsent : s.lookup run = none)
    (hfloor : s.table.floor < run) (hroom : s.table.records.length < 48) :
    s.enrol run learned = (s.create run learned, true) := by
  unfold State.enrol
  rw [habsent, if_neg (by simp), if_neg (by omega)]
  exact if_pos hroom

/-- In a full table the lowest-numbered settled record makes room (R8). -/
theorem State.enrol_evict {run : Nat} {learned : Bool} {old : RunRecord} (habsent : s.lookup run = none)
    (hfloor : s.table.floor < run) (hfull : 48 ≤ s.table.records.length)
    (hold : s.table.records.find? (fun r => r.settled) = some old) :
    s.enrol run learned = ((s.evict old.run).create run learned, true) := by
  unfold State.enrol
  rw [habsent, if_neg (by simp), if_neg (by omega), if_neg (by simp [Config.tableCapacity]; omega), hold]

/-- With 48 runs on course station 0 drops the named run (R8). -/
theorem State.enrol_drop {run : Nat} {learned : Bool} (habsent : s.lookup run = none)
    (hfloor : s.table.floor < run) (hfull : 48 ≤ s.table.records.length)
    (hcourse : ∀ r ∈ s.table.records, r.state = .onCourse) (hzero : s.number = 0) :
    s.enrol run learned = (s.dropNamed run, false) := by
  have hnone : s.table.records.find? (fun r => r.settled) = none :=
    List.find?_eq_none.2 fun r hr => by simp [RunRecord.settled, hcourse r hr]
  unfold State.enrol
  rw [habsent, if_neg (by simp), if_neg (by omega), if_neg (by simp [Config.tableCapacity]; omega), hnone]
  exact if_pos hzero

/-- With 48 runs on course another station drops the lower of the named run and its lowest record (R8). -/
theorem State.enrol_lowest {run : Nat} {learned : Bool} {low : RunRecord} {rest : List RunRecord}
    (habsent : s.lookup run = none) (hfloor : s.table.floor < run) (hfull : 48 ≤ s.table.records.length)
    (hcourse : ∀ r ∈ s.table.records, r.state = .onCourse) (hzero : s.number ≠ 0)
    (hrecords : s.table.records = low :: rest) :
    s.enrol run learned =
      if run < low.run then (s.dropNamed run, false)
      else (((s.reportDropped low).evict low.run).create run learned, true) := by
  have hnone : s.table.records.find? (fun r => r.settled) = none :=
    List.find?_eq_none.2 fun r hr => by simp [RunRecord.settled, hcourse r hr]
  unfold State.enrol
  rw [habsent, if_neg (by simp), if_neg (by omega), if_neg (by simp [Config.tableCapacity]; omega), hnone]
  simp [hzero, hrecords]

/-- The record made for an absent run, in its place. -/
theorem State.create_eq {run : Nat} {learned : Bool}
    (hsorted : (s.table.records.map (fun r => r.run)).Pairwise (· < ·)) (habsent : ∀ r ∈ s.table.records, r.run ≠ run) :
    s.create run learned =
      { s with
        table := { s.table with records := recordsWith (newRecord s.gates run learned) s.table.records } } := by
  unfold State.create State.withRecords
  rw [insertRecord_recordsWith (newRecord s.gates run learned) hsorted habsent]

/-- A run dropped by name: a DROPPED result, and the floor raised (R8, R22). -/
theorem State.dropNamed_eq (s : State) (run : Nat) :
    s.dropNamed run =
      { s with table := { s.table with floor := max s.table.floor run } }.appended
        ⟨.dropped, .empty, run, none, Marks.none, 0⟩ := by
  unfold State.dropNamed
  rw [State.append_queued, State.appended_queued]
  rfl

/-- The counter after a fact, as a value (R15). -/
theorem State.raiseCounter_eq (s : State) (run : Nat) :
    s.raiseCounter run =
      { s with
        table :=
          { s.table with
            nextRun := if s.number = 0 ∧ s.table.nextRun ≤ run then run + 1 else s.table.nextRun } } := by
  unfold State.raiseCounter State.withNextRun
  split <;> rfl

/-- Settles O22: the branches of R7 and R8 in their order, and the counter that only R15 moves. -/
theorem anAbsentRunIsAdmittedOrDropped : Obligations.AnAbsentRunIsAdmittedOrDropped := by
  refine ⟨fun s run learned low old rest hs habsent => ?_, fun s f => ?_⟩
  · intro made dropped
    have hnone := State.lookup_absent habsent
    obtain ⟨-, hsorted, -, -, -⟩ := hs
    refine ⟨State.enrol_floor hnone, fun hfloor hroom => ?_, fun hfloor hfull hold => ?_,
      fun hfloor hfull hcourse hzero => ?_, fun hfloor hfull hcourse hzero hrecords => ⟨fun hlow => ?_, fun hlow => ?_⟩⟩
    · rw [State.enrol_room hnone hfloor hroom, State.create_eq hsorted habsent]
      rfl
    · have hkept : (s.table.records.filter (fun r => r.run != old.run)).Sublist s.table.records :=
        List.filter_sublist
      rw [State.enrol_evict hnone hfloor hfull.ge hold,
        State.create_eq (hsorted.sublist (hkept.map _)) (fun r hr => habsent r (hkept.mem hr))]
      rfl
    · rw [State.enrol_drop hnone hfloor hfull.ge hcourse hzero, State.dropNamed_eq]
    · rw [State.enrol_lowest hnone hfloor hfull.ge hcourse hzero hrecords, if_pos hlow, State.dropNamed_eq]
    · have hrest : s.table.records.filter (fun r => r.run != low.run) = rest := by
        rw [hrecords, List.map_cons, List.pairwise_cons] at hsorted
        rw [hrecords, List.filter_cons_of_neg (by simp), List.filter_eq_self]
        intro r hr
        have := hsorted.1 r.run (List.mem_map_of_mem hr)
        simp; omega
      have hkept : rest.Sublist s.table.records := hrecords ▸ List.sublist_cons_self low rest
      rw [State.enrol_lowest hnone hfloor hfull.ge hcourse hzero hrecords, if_neg (by omega), State.reportDropped,
        State.append_queued, State.appended_queued, State.evict, State.withRecords, State.raiseFloor, hrest,
        State.create_eq (hsorted.sublist (hkept.map _)) (fun r hr => habsent r (hkept.mem hr))]
      rfl
  · intro counted
    have hcounted : s.raiseCounter f.run = counted := s.raiseCounter_eq f.run
    unfold State.takeFact
    rw [hcounted]
    dsimp only
    cases hadmitted : (counted.enrol f.run f.learns).2 with
    | false => simp
    | true =>
      simp only [if_true, reduceCtorEq, false_implies, and_true]
      split
      · simp
      · simp

end

end Sys2Proof.Machine
end

section
/-! PROOFS. Gate Capture and the crossings it hands on: samples, starts, strays, waiting and matching. -/

namespace Sys2Proof.Machine

section
variable {s base : State}

/-- Settles O9: each sample's case of its command, the pin at the sample's level. -/
theorem gateSamplesMoveTheCaptureState : Obligations.GateSamplesMoveTheCaptureState := by
  have hactive : ∀ u : State, u.gateLevel true = u.config.gpol := fun u => by simp [State.gateLevel]
  have hinactive : ∀ u : State, u.gateLevel false = !u.config.gpol := fun u => by
    cases hg : u.config.gpol <;> simp [State.gateLevel, hg]
  refine ⟨fun s hreleased => ⟨fun harmed => ?_, fun harmed hfirst => ?_, fun hconfirming => ?_, fun hholdoff => ⟨?_, ?_⟩⟩,
    fun s hreleased hclear => ⟨fun hcount hcode => ?_, fun hcount => ?_, ?_⟩⟩
  · refine congrArg Host.Outcome.next ((if_pos ⟨hreleased, harmed⟩).trans ?_)
    simp [State.withGate, hactive]
  · refine congrArg Host.Outcome.next ((if_pos ⟨hreleased, harmed, hfirst⟩).trans ?_)
    simp [State.withGate, hactive]
  · refine congrArg Host.Outcome.next ((if_pos ⟨hreleased, hconfirming⟩).trans ?_)
    simp [State.withGate, hinactive]
  · refine congrArg Host.Outcome.next ((if_pos ⟨hreleased, hholdoff⟩).trans ?_)
    simp [State.withGate, hinactive]
  · refine congrArg Host.Outcome.next ((if_pos ⟨hreleased, hholdoff⟩).trans ?_)
    simp [State.withGate, hactive]
  · refine congrArg Host.Outcome.next ((if_pos ⟨hreleased, hclear, hcount⟩).trans ?_)
    rw [State.raise_eq]
    simp [State.withGate, hactive, State.alarmed, ErrorSet.has, ErrorSet.put, hcode, State.now, Config.blockedSamples]
  · refine congrArg Host.Outcome.next (if_neg ?_)
    simp [hcount, Config.blockedSamples]
  · refine congrArg Host.Outcome.next ((if_pos ⟨hreleased, hclear⟩).trans ?_)
    simp [State.withGate, hinactive, State.clearError, ErrorSet.put]

/-! ### A crossing handed on -/

/-- What a gate sample or an accepted TRIP press changes of the station before the crossing is handed on. -/
def State.captured (s : State) (gate : GateUnit) (trip : KeyFilter) : State :=
  { s with gate := gate, panel := { s.panel with trip := trip } }

/-- A crossing taken in ACTIVE goes to the start rule at station 0 and to the Assignment Unit elsewhere
(R50, R51, R53). -/
theorem State.CrossingTaken.exec_eq {c : Instr} {time : Nat} {manual : Bool}
    (h : s.CrossingTaken c time manual base) (hactive : s.isActive = true) :
    (∃ gate trip, base = s.captured gate trip) ∧
      exec c s =
        .next (if s.number = 0 then base.startRule time manual else base.takeCrossing time manual).settleLine := by
  rcases h with ⟨rfl, rfl, hreleased, hconfirming, hcandidate, rfl⟩ |
    ⟨rfl, rfl, -, hstation, hpressed, hchange, hcandidate, rfl⟩
  · refine ⟨⟨s.acceptedGate, s.panel.trip, rfl⟩, ?_⟩
    have hlevel : s.gateLevel true = s.config.gpol := by simp [State.gateLevel]
    have hgate : s.withGate true
        { s.gate with capture := .holdoff, candidate := none, confirm := s.confirmLimit, holdoff := 0 } =
          { s with gate := s.acceptedGate } := by
      simp [State.withGate, hlevel, State.acceptedGate]
    have hstate : s.station.state = .active := by simpa [State.isActive] using hactive
    show execCrossingAccepted s = _
    unfold execCrossingAccepted
    simp only [hcandidate, hreleased, hconfirming, and_self, if_true, hgate, State.handSensor, hstate]
    rfl
  · refine ⟨⟨s.gate, s.tripAccepted.panel.trip, rfl⟩, ?_⟩
    have haccepts : s.accepts .trip true = true := by
      have hrunning : s.running = true := State.running_of_ne fun h => by simp [State.isActive, h] at hactive
      simp [State.accepts, Panel.filter, hpressed, hchange, hrunning]
    show execTripPress s = _
    unfold execTripPress
    simp only [haccepts, if_true, hactive, hstation, and_self, hcandidate, Option.getD_some, State.handTrip]
    rfl

/-- With the ring's new frame the unit has the next frame ready once the first beacon went out (R105, R131). -/
theorem State.settleLine_placed {t : State} {epoch : Word16} {p : Payload} (houtbox : t.outbox = s.addedFrame epoch p)
    (hline : t.line = s.line) : t.settleLine = { t with line := { s.line with tx := s.txWithFrame } } := by
  have hready : t.frameReady = (!s.outbox.control.isEmpty || s.outbox.beaconDue || s.outbox.firstBeaconSent) := by
    simp [State.frameReady, houtbox, State.addedFrame]
  rw [State.settleLine_eq, hready]
  unfold State.waitIf State.txWithFrame State.waitIf State.startWaiting
  rw [hline]

/-- A settled unit with another state's Outbox and line (R131). -/
theorem State.settleLine_same {t : State} (hs : s.LineSettled) (houtbox : t.outbox = s.outbox)
    (hline : t.line = s.line) : t.settleLine = t :=
  t.settleLine_settled (hs.congr (by rw [hline]; exact id) (by unfold State.frameReady; rw [houtbox]))

/-! ### A start at station 0 -/

/-- The record of a run that a START has made (R7, R10). -/
theorem newRecord_started (gates run time : Nat) (manual : Bool) :
    (newRecord gates run false).take (.start run time manual) =
      ⟨run, some time, List.replicate (gates - 1) none, false, false, manual, false, false, false, false, none⟩ := by
  simp [newRecord, RunRecord.take, RunRecord.takeStart, RunRecord.fillStart]

/-- The START of a run above every record and the floor, below the counter: the table gains its record at the end,
after what made room for it went (R7, R8). -/
theorem State.takeFact_started {t : State} {run time : Nat} {manual : Bool} (hcounter : run < s.table.nextRun)
    (hlast : ∀ r ∈ t.table.records, r.run < run)
    (henrol : s.enrol run false = (t.create run false, true)) :
    (s.takeFact (.start run time manual)).1 =
      { t with
        table :=
          { t.table with
            records :=
              t.table.records ++
                [⟨run, some time, List.replicate (t.gates - 1) none, false, false, manual, false, false, false,
                  false, none⟩] } } := by
  have hcounted : s.raiseCounter run = s := by
    unfold State.raiseCounter
    rw [if_neg (by omega)]
  have hnew : ∀ x ∈ t.table.records, x.run ≠ (newRecord t.gates run false).run :=
    fun x hx => (hlast x hx).ne
  have hfound : (t.create run false).lookup run = some (newRecord t.gates run false) :=
    find_insertRecord (newRecord t.gates run false) t.table.records hnew
  have hquiet : ((newRecord t.gates run false).take (.start run time manual)).state = .onCourse :=
    ((newRecord t.gates run false).takeStart_state time manual).trans (newRecord_state _ _ _)
  have hrun : ((newRecord t.gates run false).take (.start run time manual)).run = (newRecord t.gates run false).run :=
    RunRecord.take_run _ _
  unfold State.takeFact
  simp only [Fact.run, Fact.learns, hcounted, henrol, hfound, if_true]
  rw [State.settle_quiet _ _ (.inl hquiet), State.create, State.withRecords, State.withRecords,
    replaceRecord_inserted _ _ hrun _ hnew, insertRecord_last ((newRecord t.gates run false).take (.start run time manual)) _ (fun x hx => hrun ▸ hlast x hx), newRecord_started]

/-- The station once a start's frame has its place and the counter has gone on (R17). -/
def State.startPlaced (s : State) (time : Nat) (manual : Bool) : State :=
  { s with
    outbox := s.addedFrame s.epoch (startPayload s.table.nextRun time manual)
    table := { s.table with nextRun := s.table.nextRun + 1 } }

/-- A start at station 0 with room in its ring: the frame, the counter, the new record, the RUN NUMBER hold and the
CLICK (R16, R17). -/
theorem State.startRule_taken (s : State) (time : Nat) (manual : Bool) (hrun : s.table.nextRun ≤ 999)
    (hfull : s.tableFull = false) (hplace : s.HasPlace) :
    s.startRule time manual =
      (((s.startPlaced time manual).takeFact (.start s.table.nextRun time manual)).1.holdRunNumber
        s.table.nextRun).requestTone .click := by
  unfold State.startRule
  rw [if_neg (by simp [Config.maxRun]; omega), hfull, State.place_room s _ _ hplace]
  rfl

/-- A start refused for a reason, with its code (R16). -/
theorem State.refused_eq (s : State) (reason : StrayReason) (code : ErrorCode) (time : Nat) (manual : Bool) :
    (s.stray reason time manual).raise code =
      { s with
        results := (s.append (strayContents reason time manual)).results
        port := (s.append (strayContents reason time manual)).port
        station := { s.station with errors := s.station.errors.put true code }
        panel := { s.panel with tone := s.alarmed code } } := by
  rw [State.raise_eq, State.stray_eq, State.append_queued, State.appended_queued]
  rfl

/-- Settles O10: the start rule with a place, and the record's room found or made. -/
theorem aStartIssuesARun : Obligations.AStartIssuesARun := by
  intro s base c time manual old hc hzero hactive hcounter hrun hplace started outbox panel
  obtain ⟨⟨gate, trip, rfl⟩, hexec⟩ := hc.exec_eq hactive
  obtain ⟨-, -, -, -, habove⟩ := hcounter
  obtain ⟨hfloor, hbelow⟩ := habove hzero
  rw [if_pos hzero] at hexec
  have habsent : ∀ r ∈ s.table.records, r.run ≠ s.table.nextRun := fun r hr => (hbelow r hr).ne
  have hnone : ((s.captured gate trip).startPlaced time manual).lookup s.table.nextRun = none :=
    State.lookup_absent habsent
  have hexec' : ∀ (records : List RunRecord) (floor : Nat), (s.captured gate trip).tableFull = false →
      (∀ r ∈ records, r.run < s.table.nextRun) →
      ((s.captured gate trip).startPlaced time manual).enrol s.table.nextRun false =
        (State.create
          { (s.captured gate trip).startPlaced time manual with
            table := { s.table with records := records, floor := floor, nextRun := s.table.nextRun + 1 } }
          s.table.nextRun false, true) →
      exec c s =
        .next
          { s.captured gate trip with
            table :=
              { s.table with
                records := records ++ [started], floor := floor, nextRun := s.table.nextRun + 1 }
            outbox := outbox
            panel := panel
            line := { s.line with tx := s.txWithFrame } } := by
    intro records floor hfull hlast henrol
    rw [hexec, (s.captured gate trip).startRule_taken time manual hrun hfull hplace]
    refine congrArg Host.Outcome.next ?_
    have htaken := State.takeFact_started (s := (s.captured gate trip).startPlaced time manual) (time := time)
      (manual := manual) (Nat.lt_succ_self s.table.nextRun) (by exact hlast) henrol
    refine (congrArg (fun u : State => ((u.holdRunNumber s.table.nextRun).requestTone .click).settleLine) htaken).trans ?_
    refine (State.settleLine_placed (s := s) (epoch := s.epoch) (p := startPayload s.table.nextRun time manual)
      (by simp [State.holdRunNumber]; rfl) (by simp [State.holdRunNumber]; rfl)).trans ?_
    simp only [panel, State.requestTone_requested]
    rfl
  refine ⟨fun hroom => hexec' _ _ ?_ hbelow (State.enrol_room hnone hfloor hroom),
    fun hfull hold => hexec' _ _ ?_ (fun r hr => hbelow r (List.mem_of_mem_filter hr))
      (State.enrol_evict hnone hfloor hfull hold)⟩
  · have hroom' : ¬ Config.tableCapacity ≤ s.table.records.length := by simp [Config.tableCapacity]; omega
    simp [State.tableFull, State.captured, hroom']
  · have hsettled : ¬ ∀ r ∈ s.table.records, r.settled = false := fun h => by
      simpa [h old (List.mem_of_find?_eq_some hold)] using List.find?_some hold
    simpa [State.tableFull, State.captured] using fun _ => hsettled

/-- Settles O11: the refusals of the start rule in their order, each before the counter, the table and the ring are
touched. -/
theorem aRefusedStartIsAStray : Obligations.ARefusedStartIsAStray := by
  intro s base c time manual hc hzero hactive hs refused
  obtain ⟨⟨gate, trip, rfl⟩, hexec⟩ := hc.exec_eq hactive
  rw [if_pos hzero] at hexec
  have hexec' : ∀ reason code,
      (s.captured gate trip).startRule time manual =
        ((s.captured gate trip).stray reason time manual).raise code →
      exec c s = .next (refused reason code) := by
    intro reason code hrule
    rw [hexec, hrule, State.refused_eq]
    refine congrArg Host.Outcome.next ((State.settleLine_same hs (by rfl) (by rfl)).trans ?_)
    simp only [refused, State.append_queued]
    rfl
  refine ⟨fun hrun => hexec' _ _ (if_pos hrun), fun hrun hfull hcourse => hexec' _ _ ?_,
    fun hrun hroom hring hunsent => hexec' _ _ ?_⟩
  · have hfull' : (s.captured gate trip).tableFull = true := by
      simp [State.tableFull, State.captured, Config.tableCapacity, hfull, RunRecord.settled]
      exact hcourse
    exact (if_neg (by simp [Config.maxRun]; exact hrun)).trans (if_pos hfull')
  · have hfull' : (s.captured gate trip).tableFull = false := by
      rcases hroom with hroom | ⟨r, hr, hstate⟩
      · have hroom' : ¬ Config.tableCapacity ≤ s.table.records.length := by simp [Config.tableCapacity]; omega
        simp [State.tableFull, State.captured, hroom']
      · simpa [State.tableFull, State.captured, RunRecord.settled] using fun _ => ⟨r, hr, hstate⟩
    unfold State.startRule
    rw [if_neg (by simp [Config.maxRun]; exact hrun), hfull', (s.captured gate trip).place_full _ _ hring hunsent]
    rfl

/-- Settles O12: a crossing outside ACTIVE is a STRAY, and a settled unit stays (R50, R51). -/
theorem crossingsOutsideActiveAreStrays : Obligations.CrossingsOutsideActiveAreStrays := by
  intro s time hreleased hconfirming hcandidate hs
  have hexec : ∀ reason : StrayReason,
      State.handSensor { s with gate := s.acceptedGate } time =
        State.stray { s with gate := s.acceptedGate } reason time false →
      exec .crossingAccepted s =
        .next ({ s with gate := s.acceptedGate }.appended (strayContents reason time false)) := by
    intro reason hhand
    have hgate : s.withGate true
        { s.gate with capture := .holdoff, candidate := none, confirm := s.confirmLimit, holdoff := 0 } =
          { s with gate := s.acceptedGate } := by
      simp [State.withGate, State.gateLevel, State.acceptedGate]
    show execCrossingAccepted s = _
    unfold execCrossingAccepted
    simp only [hcandidate, hreleased, hconfirming, and_self, if_true, hgate]
    rw [hhand, State.stray_eq, State.settleLine_same hs (by rfl) (by rfl)]
  refine ⟨fun hstate => hexec .mute ?_, fun hstate => hexec .closed ?_⟩
  all_goals simp only [State.handSensor, State.takeCrossing, hstate, ite_self]

/-! ### A crossing at stations 1 to N−1 -/

/-- An assigner is not station 0. -/
theorem State.isAssigner_ne_zero (h : s.isAssigner = true) : s.number ≠ 0 := by
  intro h0
  simp [State.isAssigner, h0] at h

/-- A crossing in ACTIVE joins the list, or is HELD (R59). -/
theorem State.takeCrossing_active (hactive : s.isActive = true) (time : Nat) (manual : Bool) :
    s.takeCrossing time manual =
      if s.assign.held = true then s.stray .held time manual else s.join time manual := by
  have hstate : s.station.state = .active := by simpa [State.isActive] using hactive
  unfold State.takeCrossing
  rw [hstate]

/-- An empty list emptied. -/
theorem State.withEntries_nil (h : s.assign.entries = []) : s.withEntries [] = s := by
  unfold State.withEntries
  rw [← h]

/-- A walk that finds a run for no entry changes nothing (R64). -/
theorem State.walk_waits (h : ∀ e ∈ s.assign.entries, s.candidateRun e = none) : s.walk = s := by
  unfold State.walk
  rw [s.walkEntries_none _ h]
  exact ite_self s

/-- The end of a joining walk of one entry: it expires, or stays with its mark cleared (R67, R68). -/
theorem State.endJoining_one {e : PendingEntry} {earlier later : List PendingEntry}
    (hentries : s.assign.entries = earlier ++ e :: later) (he : e.joining = true)
    (hrest : ∀ x ∈ earlier ++ later, x.joining = false) :
    s.endJoining =
      if e.deadline ≤ s.now then (s.withEntries (earlier ++ later)).stray .noRun e.time e.manual
      else s.withEntries (earlier ++ { e with joining := false } :: later) := by
  have hgone : ∀ l : List PendingEntry, (∀ x ∈ l, x.joining = false) →
      l.filter (fun e => e.joining && decide (e.deadline ≤ s.now)) = [] := fun l hl =>
    List.filter_eq_nil_iff.2 fun x hx => by simp [hl x hx]
  have hkept : ∀ l : List PendingEntry, (∀ x ∈ l, x.joining = false) →
      l.filter (fun e => !(e.joining && decide (e.deadline ≤ s.now))) = l := fun l hl =>
    List.filter_eq_self.2 fun x hx => by simp [hl x hx]
  have hclear : ∀ l : List PendingEntry, (∀ x ∈ l, x.joining = false) →
      l.map (fun e => { e with joining := false }) = l := fun l hl => by
    conv_rhs => rw [← List.map_id l]
    exact List.map_congr_left fun x hx => by
      have := hl x hx
      cases x
      simp_all
  have hearlier : ∀ x ∈ earlier, x.joining = false := fun x hx => hrest x (by simp [hx])
  have hlater : ∀ x ∈ later, x.joining = false := fun x hx => hrest x (by simp [hx])
  unfold State.endJoining
  by_cases hdue : e.deadline ≤ s.now
  all_goals
    simp only [hentries, List.filter_append, List.filter_cons, hgone _ hearlier, hgone _ hlater, hkept _ hearlier,
      hkept _ hlater, he, hdue, Bool.true_and, decide_true, decide_false, Bool.not_true, Bool.not_false, if_true,
      Bool.false_eq_true, if_false, List.map_append, List.map_cons, hclear _ hearlier, hclear _ hlater,
      List.nil_append, State.strays]

/-- A crossing for which no entry finds a run, in its place with what it displaced (R61, R62, R67). -/
theorem State.join_waits {time : Nat} {manual : Bool} {displaced earlier later : List PendingEntry}
    (hentries : s.assign.entries = displaced ++ (earlier ++ later))
    (hlength : displaced.length = s.assign.entries.length - 7)
    (hbefore : ∀ e ∈ earlier, e.time ≤ time) (hafter : ∀ e ∈ later, time < e.time)
    (hrest : ∀ x ∈ earlier ++ later, x.joining = false)
    (hnone : ∀ e ∈ ⟨time, manual, time + 2000, true⟩ :: (earlier ++ later), s.candidateRun e = none) :
    s.join time manual =
      if time + 2000 ≤ s.now then
        ((s.strays .displaced displaced).withEntries (earlier ++ later)).stray .noRun time manual
      else (s.strays .displaced displaced).withEntries (earlier ++ ⟨time, manual, time + 2000, false⟩ :: later) := by
  have htake : s.assign.entries.take (s.assign.entries.length - 7) = displaced := by
    rw [← hlength, hentries, List.take_left]
  have hdrop : s.assign.entries.drop (s.assign.entries.length - 7) = earlier ++ later := by
    rw [← hlength, hentries, List.drop_left]
  have hwalk : ∀ e ∈ earlier ++ ⟨time, manual, time + 2000, true⟩ :: later,
      ((s.strays .displaced displaced).withEntries
        (earlier ++ ⟨time, manual, time + 2000, true⟩ :: later)).candidateRun e = none := by
    intro e he
    have hmem : e ∈ (⟨time, manual, time + 2000, true⟩ : PendingEntry) :: (earlier ++ later) := by
      simp only [List.mem_append, List.mem_cons] at he ⊢
      tauto
    simpa [State.candidateRun] using hnone e hmem
  unfold State.join
  dsimp only [Config.pendingCapacity, Config.pendingWait]
  rw [htake, hdrop, insertEntry_between _ later hafter earlier hbefore, State.walk_waits hwalk,
    State.endJoining_one rfl rfl hrest]
  simp only [State.withEntries_frame, State.strays_frame]
  rfl

/-- Settles O13: HELD, and the joining of a crossing that finds no run, with and without a displaced entry and with
its deadline ahead or reached. -/
theorem aCrossingWithNoRunWaits : Obligations.ACrossingWithNoRunWaits := by
  intro s base c time manual oldest earlier later hc hassigner hactive hs
  obtain ⟨⟨gate, trip, rfl⟩, hexec⟩ := hc.exec_eq hactive
  have hactive' : (s.captured gate trip).isActive = true := hactive
  rw [if_neg (State.isAssigner_ne_zero hassigner), State.takeCrossing_active hactive'] at hexec
  have hsettle : ∀ u : State, u.outbox = s.outbox → u.line = s.line → u.settleLine = u :=
    fun u => State.settleLine_same hs
  refine ⟨fun hheld => ?_, fun hheld hsound hbefore hafter hnone => ?_⟩
  · have hheld' : (s.captured gate trip).assign.held = true := hheld
    rw [hexec, if_pos hheld', State.stray_eq, hsettle _ (by rfl) (by rfl)]
  · intro joined waits displaced
    have hheld' : ¬ (s.captured gate trip).assign.held = true := by
      show ¬ s.assign.held = true
      simp [hheld]
    rw [if_neg hheld'] at hexec
    obtain ⟨-, -, hjoining, -, -⟩ := hsound
    have hnone' : ∀ e ∈ ⟨time, manual, time + 2000, true⟩ :: (earlier ++ later),
        (s.captured gate trip).candidateRun e = none := fun e he =>
      List.find?_eq_none.2 fun r hr => by
        rw [Bool.and_eq_true]
        exact hnone r hr e he
    refine ⟨fun hentries hlength => ?_, fun hentries hlength => ?_⟩
    · have hjoin := State.join_waits (s := s.captured gate trip) (displaced := []) hentries
        (by show 0 = s.assign.entries.length - 7; omega) hbefore hafter
        (fun x hx => (hjoining x (hentries ▸ hx)).2) hnone'
      rw [hexec, hjoin]
      refine ⟨fun hahead => ?_, fun hreached => ?_⟩
      · rw [if_neg (by exact Nat.not_le.2 hahead), hsettle _ (by rfl) (by rfl)]
        rfl
      · rw [if_pos (by exact hreached), State.stray_eq, hsettle _ (by rfl) (by rfl)]
        rfl
    · have hjoin := State.join_waits (s := s.captured gate trip) (displaced := [oldest]) hentries
        (by show 1 = s.assign.entries.length - 7; omega) hbefore hafter
        (fun x hx => (hjoining x (by rw [hentries]; exact List.mem_cons_of_mem _ hx)).2) hnone'
      rw [hexec, hjoin]
      simp only [State.strays, State.stray_eq, State.appended_queued]
      refine ⟨fun hahead => ?_, fun hreached => ?_⟩
      · rw [if_neg (by exact Nat.not_le.2 hahead), hsettle _ (by rfl) (by rfl)]
        rfl
      · rw [if_pos (by exact hreached), hsettle _ (by rfl) (by rfl)]
        rfl

/-! ### A crossing with its run -/

/-- A record with its slot of a gate filled from an entry (R11, R65). -/
def RunRecord.crossed (r : RunRecord) (gate : Nat) (e : PendingEntry) : RunRecord :=
  { r with splits := r.splits.set (gate - 1) (some ⟨e.time, e.manual, !e.joining, r.carriesStepped⟩) }

/-- The station with a run's record stored, its CROSS in the ring and its RUN NUMBER hold (R65). -/
def State.crossPlaced (s : State) (e : PendingEntry) (r x : RunRecord) : State :=
  { s with
    table := { s.table with records := replaceRecord x s.table.records }
    outbox := s.addedFrame s.epoch (crossPayload s.number e r)
    panel := { s.panel with runHold := some ⟨s.now + 2000, r.run⟩ } }

section
variable {e : PendingEntry} {r : RunRecord} {start : Nat}

/-- The run an entry is matched to is on course and has not passed this gate (R63, R64). -/
theorem State.candidateRun_some (h : s.candidateRun e = some r) :
    r ∈ s.table.records ∧ r.state = .onCourse ∧ r.passed s.number = false := by
  have heligible := List.find?_some h
  simp only [RunRecord.eligible, Bool.and_eq_true, beq_iff_eq, Bool.not_eq_true'] at heligible
  obtain ⟨⟨⟨⟨hstate, -⟩, hpassed⟩, -⟩, -⟩ := heligible
  exact ⟨List.mem_of_find?_eq_some h, hstate, hpassed⟩

/-- The record takes the CROSS made for it: the slot alone (R11, R65). -/
theorem State.take_crossFact (h : s.candidateRun e = some r) (hstart : r.start = some start) :
    r.take (.cross r.run s.number e.time r.start e.manual (!e.joining) r.carriesStepped) =
      r.crossed s.number e := by
  obtain ⟨-, -, hpassed⟩ := State.candidateRun_some h
  rw [RunRecord.take, RunRecord.takeCross, r.fillStart_started _ (by simp [hstart]), hpassed]
  rfl

/-- Without a place the entry is a STRAY (R66). -/
theorem State.makeCross_refused (hfull : 32 ≤ s.outbox.ring.length) (hunsent : ∀ e ∈ s.outbox.ring, e.sent = false)
    (e : PendingEntry) (r : RunRecord) :
    s.makeCross e r = (s.stray .outboxFull e.time e.manual).raise .e06 := by
  unfold State.makeCross
  rw [s.place_full _ _ hfull hunsent]

/-- With a place the CROSS is made and its record stored, with the result due (R65). -/
theorem State.makeCross_placed (hs : s.TableSound) (hassigner : s.isAssigner = true) (hplace : s.HasPlace)
    (h : s.candidateRun e = some r) (hstart : r.start = some start) :
    s.makeCross e r =
      let t :=
        (State.settle { s with outbox := s.addedFrame s.epoch (crossPayload s.number e r) }
          (r.crossed s.number e)).holdRunNumber r.run
      if s.isFinish then t else t.requestTone .click := by
  have hlookup : State.lookup { s with outbox := s.addedFrame s.epoch (crossPayload s.number e r) } r.run = some r :=
    State.lookup_of_mem (s := s) hs (State.candidateRun_some h).1
  unfold State.makeCross
  rw [s.place_room _ _ hplace]
  dsimp only
  have htaken := State.takeFact_known { s with outbox := s.addedFrame s.epoch (crossPayload s.number e r) }
    (.cross r.run s.number e.time r.start e.manual (!e.joining) r.carriesStepped) r hlookup
    (fun h0 => absurd h0 (State.isAssigner_ne_zero hassigner))
  rw [State.take_crossFact h hstart] at htaken
  rw [htaken]

/-- The finish slot of a record with another slot filled (R2). -/
theorem RunRecord.crossed_state_passes {gates gate : Nat} (hr : r.Sound gates) (hcourse : r.state = .onCourse)
    (hgate : gate ≠ 0) (hpasses : gate + 1 < gates) : (r.crossed gate e).state = .onCourse := by
  obtain ⟨-, -, hlength, -⟩ := hr
  have hfinish : (r.crossed gate e).finish = r.finish := by
    have hne : gate - 1 ≠ r.splits.length - 1 := by omega
    simp [RunRecord.finish_eq, RunRecord.crossed, hne]
  rw [RunRecord.state, hfinish]
  exact hcourse

/-- A record with its finish slot filled while it is on course (R2, R3). -/
theorem RunRecord.crossed_finishes {gates gate : Nat} (hr : r.Sound gates) (hcourse : r.state = .onCourse)
    (hgate : gate ≠ 0) (hfinishes : gate + 1 = gates) :
    (r.crossed gate e).state = .finished ∧
      ∀ start, r.start = some start → (r.crossed gate e).elapsed = some (e.time - start) := by
  obtain ⟨-, -, hlength, -⟩ := hr
  have hfinish : (r.crossed gate e).finish = some ⟨e.time, e.manual, !e.joining, r.carriesStepped⟩ := by
    have hlast : gate - 1 = r.splits.length - 1 := by omega
    have hlt : r.splits.length - 1 < r.splits.length := by omega
    simp [RunRecord.finish_eq, RunRecord.crossed, hlast, hlt]
  have hvoided : r.voided = false := by
    cases hv : r.voided with
    | false => rfl
    | true => simp [RunRecord.state, hv] at hcourse
  refine ⟨?_, fun start hstart => ?_⟩
  · rw [RunRecord.state, hfinish]
    simp [RunRecord.crossed, hvoided]
  · rw [RunRecord.elapsed, hfinish]
    simp [RunRecord.crossed, hstart]

/-- A crossing matched before the finish: the slot, the CROSS, the hold and the CLICK (R65). -/
theorem State.makeCross_passes (hs : s.TableSound) (hassigner : s.isAssigner = true) (hplace : s.HasPlace)
    (h : s.candidateRun e = some r) (hstart : r.start = some start) (hgate : s.number + 1 ≠ s.gates) :
    s.makeCross e r = (s.crossPlaced e r (r.crossed s.number e)).requestTone .click := by
  obtain ⟨hmem, hcourse, -⟩ := State.candidateRun_some h
  have hnumber := State.isAssigner_ne_zero hassigner
  have hbelow : s.number < s.gates := by
    simp only [State.isAssigner, Bool.and_eq_true, decide_eq_true_eq] at hassigner
    exact hassigner.2
  have hstate := RunRecord.crossed_state_passes (e := e) (hs.2.2.1 r hmem) hcourse hnumber (by omega)
  rw [State.makeCross_placed hs hassigner hplace h hstart, State.settle_quiet _ _ (.inl hstate)]
  simp only [State.isFinish, beq_iff_eq, hgate, if_false]
  rfl

/-- A FINISHED record stored and handed to the Panel Unit at the finish station (R20, R184). -/
theorem State.stored_finished {x : RunRecord} (hstate : x.state = .finished) (hgate : s.number + 1 = s.gates) :
    s.stored x true =
      { s with
        table := { s.table with records := replaceRecord x s.table.records }
        panel :=
          { s.panel with
            resultHold := some ⟨s.now + 5000, x.elapsed⟩
            tone := (s.requestTone .double).panel.tone } } := by
  unfold State.stored
  rw [if_pos ⟨hstate, rfl⟩, if_pos ⟨hstate, rfl, hgate⟩]

/-- A crossing matched at the finish: the run settles FINISHED with its result, and the DOUBLE (R65, R19, R20). -/
theorem State.makeCross_finishes (hs : s.TableSound) (hassigner : s.isAssigner = true) (hplace : s.HasPlace)
    (h : s.candidateRun e = some r) (hstart : r.start = some start) (hgate : s.number + 1 = s.gates) :
    s.makeCross e r =
      let t :=
        (s.crossPlaced e r { r.crossed s.number e with reported := some .finished }).appended
          ⟨.finished, .empty, r.run, some (e.time - start), (r.crossed s.number e).marks,
            (r.crossed s.number e).gatesPassed⟩
      { t with
        panel :=
          { t.panel with
            resultHold := some ⟨s.now + 5000, some (e.time - start)⟩
            tone := (s.requestTone .double).panel.tone } } := by
  obtain ⟨hmem, hcourse, -⟩ := State.candidateRun_some h
  have hnumber := State.isAssigner_ne_zero hassigner
  have hsound := hs.2.2.1 r hmem
  obtain ⟨hstate, helapsed⟩ := RunRecord.crossed_finishes (e := e) hsound hcourse hnumber hgate
  have hreported : (r.crossed s.number e).reported = none := by
    have hreported : r.reported = none := by rw [hsound.reported, if_pos hcourse]
    exact hreported
  have hcontents : RunRecord.contents { r.crossed s.number e with reported := some .finished } .finished .empty =
      ⟨.finished, .empty, r.run, some (e.time - start), (r.crossed s.number e).marks,
        (r.crossed s.number e).gatesPassed⟩ := by
    rw [← helapsed start hstart, RunRecord.contents, RunRecord.resultValue, if_pos (by exact hstate)]
    rfl
  have hsettle := State.settle_first { s with outbox := s.addedFrame s.epoch (crossPayload s.number e r) }
    (r.crossed s.number e) (by simp [hstate]) hreported
  rw [State.stored_appended, hstate, RunState.kind, hcontents,
    State.stored_finished (x := { r.crossed s.number e with reported := some .finished }) (by exact hstate)
      (by exact hgate)] at hsettle
  rw [State.makeCross_placed hs hassigner hplace h hstart, hsettle]
  simp only [State.isFinish, hgate, beq_self_eq_true, if_true, State.appended_queued, State.requestTone_requested]
  rw [show RunRecord.elapsed { r.crossed s.number e with reported := some .finished } = _ from helapsed start hstart]
  rfl

end

/-- A crossing alone in its list that finds its run at once (R62, R64, R67). -/
theorem State.join_matched {time : Nat} {manual : Bool} {r : RunRecord} (hassigner : s.isAssigner = true)
    (hactive : s.isActive = true) (hempty : s.assign.entries = [])
    (h : s.candidateRun ⟨time, manual, time + 2000, true⟩ = some r) :
    s.join time manual =
      ((s.withEntries [⟨time, manual, time + 2000, true⟩]).makeCross ⟨time, manual, time + 2000, true⟩ r).withEntries
        [] := by
  have h' : (s.withEntries [⟨time, manual, time + 2000, true⟩]).candidateRun ⟨time, manual, time + 2000, true⟩ =
      some r := h
  unfold State.join State.walk
  simp [hempty, Config.pendingWait, insertEntry, hassigner, hactive, State.walkEntries, h', State.endJoining]
  rfl

/-- The CROSS payload of an entry for a run that has its start time (R65, R187). -/
theorem crossPayload_eq {e : PendingEntry} {r : RunRecord} {start : Nat} (hstart : r.start = some start) :
    crossPayload s.number e r =
      .cross
        ⟨BitVec.ofNat 16 r.run, s.stationByte, BitVec.ofNat 32 e.time, BitVec.ofNat 32 start,
          (if e.manual then 1#8 else 0#8) ||| (if !e.joining then 2#8 else 0#8) |||
            (if r.carriesStepped then 4#8 else 0#8)⟩ := by
  unfold crossPayload
  rw [hstart]
  rfl

/-- Settles O14: the joining walk of one crossing, with and without a place, before the finish and at it. -/
theorem aCrossingIsMatchedToItsRun : Obligations.ACrossingIsMatchedToItsRun := by
  intro s base c time start manual r hc hassigner hactive hheld hempty hs hcandidate hstart
  obtain ⟨⟨gate, trip, rfl⟩, hexec⟩ := hc.exec_eq hactive
  have hjoin := State.join_matched (s := s.captured gate trip) (time := time) (manual := manual) hassigner hactive
    hempty hcandidate
  have hheld' : ¬ (s.captured gate trip).assign.held = true := by
    show ¬ s.assign.held = true
    simp [hheld]
  have hactive' : (s.captured gate trip).isActive = true := hactive
  rw [if_neg (State.isAssigner_ne_zero hassigner), State.takeCrossing_active hactive', if_neg hheld', hjoin] at hexec
  rw [hexec]
  have hnext : ∀ {u v : State}, v.assign.entries = [] → u = v.withEntries [] →
      (Host.Outcome.next u : Host.Outcome State Fault Refusal) = .next v := fun hv hu => by
    rw [hu, State.withEntries_nil hv]
  have hcandidate' : ((s.captured gate trip).withEntries [⟨time, manual, time + 2000, true⟩]).candidateRun
      ⟨time, manual, time + 2000, true⟩ = some r := hcandidate
  have hpayload := crossPayload_eq (s := s) (e := ⟨time, manual, time + 2000, true⟩) hstart
  refine ⟨fun hfull hunsent hsettled => ?_, ?_⟩
  · rw [State.makeCross_refused (by exact hfull) (by exact hunsent), State.refused_eq,
      State.settleLine_same hsettled (by rfl) (by rfl)]
    simp only [State.append_queued, State.appended_queued]
    exact hnext hempty rfl
  · intro crossed outbox
    have houtbox : outbox = s.addedFrame s.epoch (crossPayload s.number ⟨time, manual, time + 2000, true⟩ r) := by
      rw [hpayload]
      simp [outbox]
    rw [houtbox]
    have hplaced : ∀ u : State,
        u.outbox = s.addedFrame s.epoch (crossPayload s.number ⟨time, manual, time + 2000, true⟩ r) →
        u.line = s.line → u.settleLine = { u with line := { s.line with tx := s.txWithFrame } } :=
      fun u => State.settleLine_placed
    refine ⟨fun hplace hgate => ?_, fun hplace hgate => ?_⟩
    · rw [State.makeCross_passes (s := (s.captured gate trip).withEntries [⟨time, manual, time + 2000, true⟩])
        hs hassigner hplace hcandidate' hstart hgate,
        State.requestTone_requested, hplaced _ (by rfl) (by rfl)]
      simp only [State.requestTone_requested]
      exact hnext hempty rfl
    · rw [State.makeCross_finishes (s := (s.captured gate trip).withEntries [⟨time, manual, time + 2000, true⟩])
        hs hassigner hplace hcandidate' hstart hgate,
        hplaced _ (by rfl) (by rfl)]
      simp only [State.requestTone_requested, State.appended_queued]
      exact hnext hempty rfl

end

end Sys2Proof.Machine
end

section
/-! PROOFS. The operator's keys, the rulings and the new session they ask for. -/

namespace Sys2Proof.Machine

section
variable {s : State}

/-! ### Filters -/

/-- A change that the key's filter is on its way to is accepted (R174). -/
theorem State.accepts_of {k : Key} {press : Bool} (hrunning : s.running = true)
    (hpressed : (s.panel.filter k).pressed = !press) (hchange : (s.panel.filter k).change ≠ 0) :
    s.accepts k press = true := by
  cases press <;> simp_all [State.accepts]

/-- An ACTIVE station runs. -/
theorem State.running_of_active (h : s.isActive = true) : s.running = true :=
  State.running_of_ne fun hreset => by simp [State.isActive, hreset] at h

/-- Settles O15: each branch of a filter's sample, and the plain acceptances. -/
theorem keysAreFilteredAndTripRefused : Obligations.KeysAreFilteredAndTripRefused := by
  refine ⟨fun s k down => ?_, fun s hrunning => ⟨fun hpressed hchange => ?_, fun hpressed hchange => ?_,
    fun hpressed hchange hplace => ?_⟩⟩
  · intro f
    have hexec : ∀ g : KeyFilter, s.running = true → f.sample down s.clock.courseTime = g →
        exec (.keyCandidateLatch k down) s = .next { s with panel := s.panel.putFilter g k } := fun g hrunning hg =>
      congrArg Host.Outcome.next ((if_pos hrunning).trans (hg ▸ rfl))
    refine ⟨fun hstopped => congrArg Host.Outcome.next (if_neg (by simp [hstopped])), fun hrunning hsame => ?_,
      fun hrunning hdiffers hfirst => ?_, fun hrunning hdiffers hchanging hshort => ?_⟩
    · exact hexec _ hrunning (if_pos hsame)
    · exact hexec _ hrunning ((if_neg hdiffers).trans (if_pos hfirst))
    · refine hexec _ hrunning ((if_neg hdiffers).trans ((if_neg hchanging.ne').trans ?_))
      have hmin : min (f.change + 1) (Config.filterSamples - 1) = f.change + 1 := by
        simp only [Config.filterSamples]
        omega
      rw [hmin]
  · exact congrArg Host.Outcome.next (if_pos (State.accepts_of (k := .trip) (press := false) hrunning hpressed hchange))
  · exact congrArg Host.Outcome.next (if_pos (State.accepts_of (k := .ack) (press := false) hrunning hpressed hchange))
  · refine congrArg Host.Outcome.next ((if_pos (State.accepts_of (k := .trip) (press := true) hrunning hpressed hchange)).trans ?_)
    have hrefused : ¬ (s.isActive = true ∧ s.isGateStation = true) := fun ⟨hactive, hgate⟩ => by
      rcases hplace with h | h <;> simp_all
    dsimp only
    rw [if_neg hrefused, State.requestTone_requested, State.requestTone_requested]
    rfl

/-! ### ACK -/

/-- The lowest pending code is the one below every other (R156). -/
theorem ErrorSet.lowest_eq {e : ErrorSet} {c : ErrorCode} (hc : e.has c = true)
    (hmin : ∀ d ∈ ErrorCode.all, e.has d = true → c.number ≤ d.number) : e.lowest = some c := by
  have hmem : c ∈ ErrorCode.all := by cases c <;> decide
  have hsorted : ErrorCode.all.Pairwise (fun a b => a.number < b.number) := by decide
  cases hfind : e.lowest with
  | none => exact absurd hc (by simpa using List.find?_eq_none.1 hfind c hmem)
  | some d =>
    obtain ⟨hd, before, after, hall, hbefore⟩ := List.find?_eq_some_iff_append.1 hfind
    have hdmem : d ∈ ErrorCode.all := List.mem_of_find?_eq_some hfind
    rw [hall, List.mem_append, List.mem_cons] at hmem
    rcases hmem with h | rfl | h
    · have := hbefore c h
      simp [hc] at this
    · rfl
    · rw [hall] at hsorted
      have hlt := (List.pairwise_cons.1 (List.pairwise_append.1 hsorted).2.1).1 c h
      have := hmin d hdmem hd
      omega

/-- Settles O16: the lowest code decides the request. -/
theorem ackRemovesTheLowestCode : Obligations.AckRemovesTheLowestCode := by
  intro s c hrunning hpressed hchange acked
  have hexec : exec .ackPress s = .next (s.acceptKey .ack true).acknowledge :=
    congrArg Host.Outcome.next (if_pos (State.accepts_of (k := .ack) (press := true) hrunning hpressed hchange))
  have herrors : (s.acceptKey .ack true).station.errors = s.station.errors := by simp
  rw [hexec]
  refine ⟨fun hc hlow hhigh hmin => ?_, fun h => ?_⟩
  · have hlowest : (s.acceptKey .ack true).station.errors.lowest = some c := herrors ▸ ErrorSet.lowest_eq hc hmin
    have hack : c.acknowledged = true := by simp [ErrorCode.acknowledged, hlow, hhigh]
    unfold State.acknowledge
    simp only [hlowest, hack, if_true, State.requestTone_requested, acked]
    rfl
  · have hrefuse : (s.acceptKey .ack true).acknowledge = (s.acceptKey .ack true).requestTone .refuse := by
      unfold State.acknowledge
      rcases h with hnone | ⟨hc, hrange, hmin⟩
      · have hlowest : (s.acceptKey .ack true).station.errors.lowest = none :=
          herrors ▸ List.find?_eq_none.2 fun d hd => by simp [hnone d hd]
        simp only [hlowest]
      · have hlowest : (s.acceptKey .ack true).station.errors.lowest = some c := herrors ▸ ErrorSet.lowest_eq hc hmin
        have hack : c.acknowledged = false := by
          simp only [ErrorCode.acknowledged, Bool.and_eq_false_iff, decide_eq_false_iff_not]
          omega
        simp only [hlowest]
        exact if_neg (by simp [hack])
    rw [hrefuse]
    simp only [State.requestTone_requested, acked]
    rfl

/-! ### The ruling keys -/

/-- Settles O17: the press by the other key's level and the state, and the long hold. -/
theorem rulingKeysArePressedAndHeld : Obligations.RulingKeysArePressedAndHeld := by
  intro s k hrunning f other otherHold pressed
  have haccepts : f.pressed = false → f.change ≠ 0 → s.accepts (RulingKey.key k) true = true :=
    fun hpressed hchange => State.accepts_of hrunning hpressed hchange
  refine ⟨fun hpressed hchange hother => ⟨fun hactive => ?_, fun hactive => ?_⟩,
    fun hpressed hchange hother => ⟨fun hactive => ?_, fun hactive => ?_⟩, fun hpressed hshort => ?_⟩
  · refine congrArg Host.Outcome.next ((if_pos (haccepts hpressed hchange)).trans ((if_pos hactive).trans ?_))
    simp only [State.pressRuling, show s.held (RulingKey.other k) = false from hother, hactive]
    rfl
  · refine congrArg Host.Outcome.next
      ((if_pos (haccepts hpressed hchange)).trans ((if_neg (by simp [hactive])).trans ?_))
    simp only [State.pressRuling, show s.held (RulingKey.other k) = false from hother, hactive,
      State.requestTone_requested]
    cases k <;> rfl
  · refine congrArg Host.Outcome.next ((if_pos (haccepts hpressed hchange)).trans ((if_pos hactive).trans ?_))
    simp only [State.pressRuling, show s.held (RulingKey.other k) = true from hother, hactive]
    cases k <;> rfl
  · refine congrArg Host.Outcome.next
      ((if_pos (haccepts hpressed hchange)).trans ((if_neg (by simp [hactive])).trans ?_))
    simp only [State.pressRuling, show s.held (RulingKey.other k) = true from hother, hactive,
      State.requestTone_requested]
    cases k <;> rfl
  · exact congrArg Host.Outcome.next (if_pos ⟨hrunning, hpressed, hshort⟩)

/-! ### A ruling request -/

/-- A code raised with a refused request: the REFUSE gives way to the ALARM of a code newly pending (R155,
R184). -/
theorem State.raise_refuse (s : State) (c : ErrorCode) :
    (s.raise c).requestTone .refuse =
      { s with
        station := { s.station with errors := s.station.errors.put true c }
        panel :=
          { s.panel with
            tone :=
              if s.station.errors.has c then (s.requestTone .refuse).panel.tone
              else some ⟨.alarm, 0, s.now + 500⟩ } } := by
  rw [State.raise_eq, State.requestTone_requested, State.requestTone_requested]
  unfold State.alarmed
  by_cases h : s.station.errors.has c = true
  · simp only [if_pos h]
    rfl
  · simp only [if_neg h]
    rfl

/-- The records on course (R4). -/
theorem State.mem_courseRecords {r : RunRecord} :
    r ∈ s.courseRecords ↔ r ∈ s.table.records ∧ r.state = .onCourse := by
  simp [State.courseRecords, RunRecord.settled]

/-- A request has no target where no run is on course (R78). -/
theorem State.target_none (h : ∀ r ∈ s.table.records, r.state ≠ .onCourse) (v : Verdict) : s.target v = 0 := by
  have hnone : s.courseRecords = [] :=
    List.eq_nil_iff_forall_not_mem.2 fun r hr => h r (State.mem_courseRecords.1 hr).1 (State.mem_courseRecords.1 hr).2
  cases v <;> simp [State.target, State.newestOnCourse, State.oldestOnCourse, hnone]

/-- The target of a request is the last, or the first, run on course (R78). -/
theorem State.target_eq {r : RunRecord} (hs : s.TableSound) (hmem : r ∈ s.table.records) (hr : r.state = .onCourse) :
    ((∀ x ∈ s.table.records, x.state = .onCourse → x.run ≤ r.run) → s.target .void = r.run) ∧
    ((∀ x ∈ s.table.records, x.state = .onCourse → r.run ≤ x.run) → s.target .dnf = r.run) := by
  obtain ⟨-, hsorted, -, -, -⟩ := hs
  have hcourse : (s.courseRecords.map (fun x => x.run)).Pairwise (· < ·) :=
    hsorted.sublist (List.filter_sublist.map _)
  have hin : r ∈ s.courseRecords := State.mem_courseRecords.2 ⟨hmem, hr⟩
  refine ⟨fun hmax => ?_, fun hmin => ?_⟩
  · obtain ⟨before, last, hsplit⟩ := List.eq_nil_or_concat'
      s.courseRecords |>.resolve_left (List.ne_nil_of_mem hin)
    have hlast : last ∈ s.courseRecords := by simp [hsplit]
    obtain ⟨hlmem, hlcourse⟩ := State.mem_courseRecords.1 hlast
    have hle := hmax last hlmem hlcourse
    have hge : r.run ≤ last.run := by
      rw [hsplit, List.mem_append, List.mem_singleton] at hin
      rcases hin with h | rfl
      · rw [hsplit, List.map_append] at hcourse
        exact ((List.pairwise_append.1 hcourse).2.2 _ (List.mem_map_of_mem h) _ (by simp)).le
      · exact le_rfl
    simp only [State.target, State.newestOnCourse, hsplit, List.getLast?_concat]
    exact le_antisymm hle hge
  · cases hsplit : s.courseRecords with
    | nil => simp [hsplit] at hin
    | cons first after =>
      have hfirst : first ∈ s.courseRecords := by simp [hsplit]
      obtain ⟨hfmem, hfcourse⟩ := State.mem_courseRecords.1 hfirst
      have hge := hmin first hfmem hfcourse
      have hle : first.run ≤ r.run := by
        rw [hsplit, List.mem_cons] at hin
        rcases hin with rfl | h
        · exact le_rfl
        · rw [hsplit, List.map_cons] at hcourse
          exact ((List.pairwise_cons.1 hcourse).1 _ (List.mem_map_of_mem h)).le
      simp only [State.target, State.oldestOnCourse, hsplit, List.head?_cons]
      exact le_antisymm hle hge

/-- A run on course is a target (R78). -/
theorem State.target_ne_zero (hs : s.TableSound) (h : ∃ r ∈ s.table.records, r.state = .onCourse) (v : Verdict) :
    s.target v ≠ 0 := by
  obtain ⟨-, -, hsound, -, -⟩ := hs
  obtain ⟨r, hr, hcourse⟩ := h
  have hne : s.courseRecords ≠ [] := List.ne_nil_of_mem (State.mem_courseRecords.2 ⟨hr, hcourse⟩)
  have hpos : ∀ x ∈ s.courseRecords, x.run ≠ 0 := fun x hx =>
    (Nat.lt_of_lt_of_le Nat.zero_lt_one (hsound x (State.mem_courseRecords.1 hx).1).1).ne'
  cases v with
  | void =>
    simp only [State.target, State.newestOnCourse, List.getLast?_eq_some_getLast hne]
    exact hpos _ (List.getLast_mem hne)
  | dnf =>
    simp only [State.target, State.oldestOnCourse, List.head?_eq_some_head hne]
    exact hpos _ (List.head_mem hne)

/-- The panel once a ruling key's release is accepted (R174, R177). -/
theorem State.releaseRuling_eq (s : State) (k : RulingKey) :
    s.releaseRuling k =
      { s with
        panel :=
          { s.panel.putFilter
              { s.panel.filter (RulingKey.key k) with pressed := false, change := 0, down := false }
              (RulingKey.key k) with
            comboRunning := false, comboCount := 0 } } := rfl

/-- The tone stands through a change of a filter. -/
@[simp] theorem Panel.putFilter_tone (p : Panel) (f : KeyFilter) (k : Key) : (p.putFilter f k).tone = p.tone := by
  cases k <;> rfl

/-- Settles O18: the branches of a release that make no ruling. -/
theorem rulingReleasesThatMakeNoRuling : Obligations.RulingReleasesThatMakeNoRuling := by
  intro s k hrunning hs f hpressed hchange released
  have haccepts : s.accepts (RulingKey.key k) false = true := State.accepts_of hrunning hpressed hchange
  have hreleased : s.releaseRuling k = { s with panel := released } := s.releaseRuling_eq k
  have htone : released.tone = s.panel.tone := Panel.putFilter_tone _ _ _
  have hrefuse : (s.releaseRuling k).requestTone .refuse =
      { s with panel := { released with tone := (s.requestTone .refuse).panel.tone } } := by
    rw [hreleased, State.requestTone_requested, State.requestTone_requested, htone]
    rfl
  refine ⟨fun hspoiled => congrArg Host.Outcome.next ((if_pos haccepts).trans ((if_pos hspoiled).trans hreleased)),
    fun hspoiled hnone => ?_, fun hspoiled hactive hcourse htable hfull hunsent => ?_⟩
  · refine congrArg Host.Outcome.next ((if_pos haccepts).trans ((if_neg (by simp [hspoiled])).trans ?_))
    rcases hnone with hidle | hnone
    · exact (if_neg (by simp [hidle])).trans hrefuse
    · by_cases hactive : s.isActive = true
      · have hrequest : (s.releaseRuling k).rulingRequest (RulingKey.verdict k) =
            (s.releaseRuling k).requestTone .refuse :=
          if_pos (State.target_none (s := s.releaseRuling k) (by simpa using hnone) _)
        rw [if_pos hactive, hrequest, hrefuse, State.settleLine_same hs (by rfl) (by rfl)]
      · exact (if_neg hactive).trans hrefuse
  · refine congrArg Host.Outcome.next
      ((if_pos haccepts).trans ((if_neg (by simp [hspoiled])).trans ((if_pos hactive).trans ?_)))
    have hrequest : (s.releaseRuling k).rulingRequest (RulingKey.verdict k) =
        ((s.releaseRuling k).raise .e06).requestTone .refuse := by
      unfold State.rulingRequest
      rw [if_neg (State.target_ne_zero (s := s.releaseRuling k) htable hcourse _),
        (s.releaseRuling k).place_full _ _ hfull hunsent]
    rw [hrequest, State.raise_refuse, hreleased, State.settleLine_same hs (by rfl) (by rfl),
      State.requestTone_requested, State.requestTone_requested, htone]
    rfl

/-- A record with a ruling on it, settled and reported (R12, R19). -/
def RunRecord.ruled (r : RunRecord) (v : Verdict) : RunRecord :=
  match v with
  | .void => { r with voided := true, reported := some .void }
  | .dnf => { r with dnfed := true, reported := some .dnf }

/-- A ruling on a run on course settles it by its verdict (R3, R12). -/
theorem RunRecord.takeRuling_state {r : RunRecord} (hr : r.state = .onCourse) (v : Verdict) :
    (r.takeRuling v).state = v.state := by
  cases v with
  | void => simp [RunRecord.takeRuling, RunRecord.state, Verdict.state]
  | dnf =>
    cases hv : r.voided with
    | true => simp [RunRecord.state, hv] at hr
    | false =>
      cases hf : r.finish.isSome with
      | true => simp [RunRecord.state, hv, hf] at hr
      | false =>
        have hfinish : (r.takeRuling .dnf).finish.isSome = false := hf
        simp only [RunRecord.state, hfinish]
        simp [RunRecord.takeRuling, hv, Verdict.state]

/-- A ruling on a run on course: the record, its settlement and the notice (R12, R19, R20, R26). -/
theorem State.takeFact_ruling {r : RunRecord} (hs : s.TableSound) (hc : s.CounterSound) (hmem : r ∈ s.table.records)
    (hr : r.state = .onCourse) (v : Verdict) :
    s.takeFact (.ruling r.run v) =
      ({ s with table := { s.table with records := replaceRecord (r.ruled v) s.table.records } }.appended
        ⟨v.state.kind, .empty, r.run, none, r.marks, r.gatesPassed⟩, true) := by
  have hstate := RunRecord.takeRuling_state hr v
  have hne : v.state ≠ .onCourse ∧ v.state ≠ .finished := by cases v <;> decide
  have hruled : { r.takeRuling v with reported := some v.state } = r.ruled v := by cases v <;> rfl
  have hvalue : (r.ruled v).resultValue = none :=
    if_neg (by rw [← hruled]; exact fun h => hne.2 (hstate.symm.trans h))
  have hcontents : (r.ruled v).contents v.state.kind .empty =
      ⟨v.state.kind, .empty, r.run, none, r.marks, r.gatesPassed⟩ := by
    rw [RunRecord.contents, hvalue]
    cases v <;> rfl
  have hsettle := State.settle_settles (s := s) (f := .ruling r.run v) (hs.2.2.1 r hmem)
    (by rw [RunRecord.take, hstate]; exact hne.1) hr
  rw [RunRecord.take, hstate, hruled, hcontents] at hsettle
  have hquiet : s.stored (r.ruled v) true =
      { s with table := { s.table with records := replaceRecord (r.ruled v) s.table.records } } := by
    have hnot : (r.ruled v).state ≠ .finished := by
      rw [← hruled]
      exact fun h => hne.2 (hstate.symm.trans h)
    simp only [State.stored, hnot, false_and, if_false]
  have hnotice : noticeDue r (r.takeRuling v) = true := by
    simp [noticeDue, RunRecord.settled, hstate, hr, hne.1]
  rw [State.takeFact_held hs hc hmem rfl, RunRecord.take, hsettle, hquiet, hnotice]

/-- Settles O19: the target of the request, the fact its record takes, and the walk that finds no run. -/
theorem aRulingSettlesItsTarget : Obligations.ARulingSettlesItsTarget := by
  intro s k r hactive hs hc hplace hwaits hpressed hchange hspoiled hmem hr hextreme ruled kind code
  have haccepts : s.accepts (RulingKey.key k) false = true :=
    State.accepts_of (State.running_of_active hactive) hpressed hchange
  refine congrArg Host.Outcome.next
    ((if_pos haccepts).trans ((if_neg (by simp [hspoiled])).trans ((if_pos hactive).trans ?_)))
  have htarget : (s.releaseRuling k).target (RulingKey.verdict k) = r.run := by
    have := State.target_eq (s := s.releaseRuling k) hs hmem hr
    cases k with
    | void => exact this.1 hextreme
    | dnf => exact this.2 hextreme
  have hrun : r.run ≠ 0 := by
    have := (hs.2.2.1 r hmem).1
    omega
  have hruled : r.ruled (RulingKey.verdict k) = ruled := by cases k <;> rfl
  have hkind : (RulingKey.verdict k).state.kind = kind := by cases k <;> rfl
  have hcode : (RulingKey.verdict k).code = code := by cases k <;> rfl
  have hrequest : (s.releaseRuling k).rulingRequest (RulingKey.verdict k) =
      (State.takeFactAndWalk
        { s.releaseRuling k with outbox := s.addedFrame s.epoch (.ruling ⟨BitVec.ofNat 16 r.run, code⟩) }
        (.ruling r.run (RulingKey.verdict k))).requestTone .click := by
    unfold State.rulingRequest
    rw [htarget, if_neg hrun, hcode, (s.releaseRuling k).place_room _ _ hplace]
    rfl
  have htaken := State.takeFact_ruling
    (s := { s.releaseRuling k with outbox := s.addedFrame s.epoch (.ruling ⟨BitVec.ofNat 16 r.run, code⟩) })
    hs hc hmem hr (RulingKey.verdict k)
  rw [hruled, hkind] at htaken
  have hquiet : ∀ t : State, t.table.records = replaceRecord ruled s.table.records → t.assign = s.assign →
      t.number = s.number → t.walk = t := by
    intro t hrecords hassign hnumber
    refine State.walk_waits fun e he => List.find?_eq_none.2 fun x hx => ?_
    rw [hassign] at he
    rw [hrecords] at hx
    rw [hnumber, Bool.and_eq_true]
    have hsettled : ruled.state ≠ .onCourse := by
      rw [← hruled]
      have := RunRecord.takeRuling_state hr (RulingKey.verdict k)
      cases k <;> exact fun h => absurd (this.symm.trans h) (by decide)
    obtain ⟨y, hy, rfl⟩ := List.mem_map.1 hx
    by_cases hyr : y.run = ruled.run
    · rw [if_pos hyr]
      simp [RunRecord.eligible, hsettled]
    · rw [if_neg hyr]
      exact hwaits e he y hy
  rw [hrequest, State.takeFactAndWalk, htaken]
  dsimp only
  rw [if_pos rfl, hquiet _ (by rfl) (by rfl) (by rfl), State.requestTone_requested, State.requestTone_requested,
    State.settleLine_placed (s := s) (epoch := s.epoch) (p := .ruling ⟨BitVec.ofNat 16 r.run, code⟩) (by rfl) (by rfl),
    State.appended_queued, State.appended_queued]
  cases k <;> rfl

/-! ### A new session -/

/-- The session change: the Run Table and the Assignment Unit cleared, and a SESSION result (R90). -/
theorem State.changeSession_eq (s : State) (peer : Nat) :
    s.changeSession peer =
      { s with
        table := { s.table with records := [], floor := 0, nextRun := 1 }
        assign := { s.assign with entries := [], held := false, boundary := 0 } }.appended
        ⟨.session, .station peer, 0, some s.epoch.toNat, Marks.none, 0⟩ := by
  unfold State.changeSession
  rw [State.append_eq]
  rfl

/-- Settles O20: the new session with a place for its frame, and its refusals in their order. -/
theorem theCombinationAsksForASession : Obligations.TheCombinationAsksForASession := by
  refine ⟨fun s hactive hcombo hepoch hplace => ?_, fun s hrunning hcombo hs => ?_⟩
  · refine congrArg Host.Outcome.next
      ((if_pos ⟨State.running_of_active hactive, hcombo⟩).trans ((if_pos hactive).trans ?_))
    have hnext : (s.epoch + 1).toNat = s.epoch.toNat + 1 := by
      have := s.epoch.isLt
      rw [BitVec.toNat_add]
      exact Nat.mod_eq_of_lt (by simp; omega)
    have hnew : (s.withPanel s.panel.fired).newSession =
        ((State.withEpoch
          { s.withPanel s.panel.fired with outbox := s.addedFrame (s.epoch + 1) (.session ⟨s.epoch⟩) }
          (s.epoch + 1)).changeSession s.number).requestTone .click := by
      unfold State.newSession
      rw [if_neg (by exact hepoch), (s.withPanel s.panel.fired).place_room _ _ hplace]
      rfl
    rw [hnew, State.changeSession_eq, State.requestTone_requested, State.requestTone_requested,
      State.settleLine_placed (s := s) (epoch := s.epoch + 1) (p := .session ⟨s.epoch⟩) (by rfl) (by rfl),
      State.appended_queued, State.appended_queued, ← hnext]
    rfl
  · intro refused tone
    have hrefuse : ∀ c : ErrorCode, ((s.withPanel s.panel.fired).raise c).requestTone .refuse =
        refused (s.station.errors.put true c) (tone c) := fun c => by
      rw [State.raise_refuse, State.requestTone_requested]
      simp only [refused, tone, State.requestTone_requested]
      rfl
    refine ⟨fun hactive => ?_, fun hactive hepoch => ?_, fun hactive hepoch hfull hunsent => ?_⟩
    · refine congrArg Host.Outcome.next ((if_pos ⟨hrunning, hcombo⟩).trans ((if_neg (by simp [hactive])).trans ?_))
      simp only [refused, State.requestTone_requested]
      rfl
    · refine congrArg Host.Outcome.next ((if_pos ⟨hrunning, hcombo⟩).trans ((if_pos hactive).trans ?_))
      rw [State.newSession, if_pos (by exact hepoch), hrefuse, State.settleLine_same hs (by rfl) (by rfl)]
    · refine congrArg Host.Outcome.next ((if_pos ⟨hrunning, hcombo⟩).trans ((if_pos hactive).trans ?_))
      rw [State.newSession, if_neg (by exact hepoch), (s.withPanel s.panel.fired).place_full _ _ hfull hunsent]
      dsimp only
      rw [hrefuse, State.settleLine_same hs (by rfl) (by rfl)]

end

end Sys2Proof.Machine
end

section
/-! PROOFS. The frames that a station accepts from its peers: the Receiver's order, facts, sessions and what
LISTENING keeps. -/

namespace Sys2Proof.Machine

section
variable {s : State} {h : Header}

/-! ### An accepted frame -/

/-- The station once a frame of a peer is heard, before its bookkeeping (R111). -/
def State.heard (s : State) (h : Header) : State :=
  s.heardAs h (s.peer h.station.toNat).expected (s.peer h.station.toNat).missing

/-- The peer of a frame that is heard has its entry in the table. -/
theorem State.Hears.inTable (hs : s.Hears h) : h.station.toNat < s.receiver.peers.length := by
  obtain ⟨-, hlength, hstation, -, -⟩ := hs
  omega

/-- The entry of the peer just heard. -/
theorem State.Hears.heardAs_peer (hs : s.Hears h) (expected : Option Byte) (missing : List MissingEntry) :
    (s.heardAs h expected missing).peer h.station.toNat =
      ⟨.present, s.clock.courseTime, some (s.now + 1000), expected, missing⟩ := by
  have hmem := hs.inTable
  simp [State.peer, State.heardAs, hmem]

/-- Presence, before the bookkeeping of an accepted frame (R111). -/
theorem State.Hears.hear_eq (hs : s.Hears h) :
    (s.frameHandedOn.leaveMismatch h.station.toNat).hear h.station.toNat = s.heard h := by
  obtain ⟨-, -, -, -, hmismatch⟩ := hs
  have hleave : s.frameHandedOn.leaveMismatch h.station.toNat = s.frameHandedOn := if_neg hmismatch
  rw [hleave]
  rfl

/-- The frame's part of the receive checks: a beacon bears this station's gate count (R110). -/
def Payload.matchesGates (p : Payload) (gates : Nat) : Prop := ∀ b, p = .beacon b → b.gateCount.toNat = gates

/-- A well-formed frame that passes the receive checks is accepted (R98, R110, R112). -/
theorem State.Hears.receive_eq {p : Payload} (hs : s.Hears h) (hwf : Frame.wellFormed ⟨h, p⟩ = true)
    (hgates : Payload.matchesGates p s.gates) :
    s.receive ⟨h, p⟩ =
      let booked := (s.heard h).book h.station.toNat ⟨h, p⟩
      let tested := booked.1.epochStep ⟨h, p⟩
      tested.1.content ⟨h, p⟩ booked.2 tested.2 := by
  have hear := hs.hear_eq
  obtain ⟨hreceives, -, -, hstation, hmismatch⟩ := hs
  have hmismatch' : (s.frameHandedOn.peer h.station.toNat).presence ≠ .mismatch := hmismatch
  have hcheck : s.frameHandedOn.checkPeer h.station.toNat p = .accepted := by
    cases p with
    | beacon b => exact (if_neg hmismatch').trans (if_pos (hgates b rfl))
    | start _ => exact if_neg hmismatch'
    | cross _ => exact if_neg hmismatch'
    | ruling _ => exact if_neg hmismatch'
    | session _ => exact if_neg hmismatch'
    | askRepeat _ => exact if_neg hmismatch'
    | gone _ => exact if_neg hmismatch'
  unfold State.receive
  rw [if_pos hreceives, if_pos hwf, if_neg hstation]
  simp only [hcheck]
  rw [State.accept, hear]

/-- Nothing joins an entry's Missing List (R115). -/
theorem State.advance_nil {p : Nat} (hmissing : (s.peer p).missing = []) (e : Byte) :
    s.advance p [] e = s.withPeer p { s.peer p with expected := some e, missing := [] } := by
  simp [State.advance, listMissing, hmissing]

/-- The frame expected of a peer of which nothing is missing, or its first, is applied (R114). -/
theorem State.Hears.bookSequence_eq (hs : s.Hears h) (horder : s.InOrder h) :
    (s.heard h).bookSequence h.station.toNat h.seq = (s.heardAs h (some (h.seq + 1)) [], true) := by
  obtain ⟨hmissing, hexpected⟩ := horder
  have hpeer := hs.heardAs_peer (s.peer h.station.toNat).expected (s.peer h.station.toNat).missing
  have hheard : (s.heard h).peer h.station.toNat =
      ⟨.present, s.clock.courseTime, some (s.now + 1000), (s.peer h.station.toNat).expected, []⟩ := by
    rw [State.heard, hpeer, hmissing]
  have hadvance : (s.heard h).advance h.station.toNat [] (h.seq + 1) = s.heardAs h (some (h.seq + 1)) [] := by
    rw [State.advance_nil (by rw [hheard]), hheard]
    simp [State.withPeer, State.heard, State.heardAs]
  unfold State.bookSequence
  rw [hheard]
  rcases hexpected with hnone | hsome
  · rw [hnone]
    simpa [Peer.misses] using hadvance
  · rw [hsome]
    simpa [Peer.misses, sequencesFrom] using hadvance

/-- A frame in order, from its epoch on. -/
theorem State.Hears.receive_inOrder {p : Payload} (hs : s.Hears h) (horder : s.InOrder h)
    (hwf : Frame.wellFormed ⟨h, p⟩ = true) (hsequenced : p.sequenced = true) :
    s.receive ⟨h, p⟩ =
      let tested := (s.heardAs h (some (h.seq + 1)) []).epochStep ⟨h, p⟩
      tested.1.content ⟨h, p⟩ true tested.2 := by
  have hgates : Payload.matchesGates p s.gates := fun b hb => by
    rw [hb] at hsequenced
    exact absurd hsequenced (by simp [Payload.sequenced])
  rw [hs.receive_eq hwf hgates]
  have hbook : (s.heard h).book h.station.toNat ⟨h, p⟩ = (s.heardAs h (some (h.seq + 1)) [], true) := by
    have hbooked := hs.bookSequence_eq horder
    cases p with
    | beacon b => simp [Payload.sequenced] at hsequenced
    | askRepeat r => simp [Payload.sequenced] at hsequenced
    | gone g => simp [Payload.sequenced] at hsequenced
    | start _ => exact hbooked
    | cross _ => exact hbooked
    | ruling _ => exact hbooked
    | session _ => exact hbooked
  simp only [hbook]

/-- A frame with a higher epoch, out of LISTENING, changes the session (R86, R90). -/
theorem State.epochStep_higher {f : Frame} (hstate : s.station.state ≠ .listening) (hepoch : s.epoch < f.header.epoch) :
    s.epochStep f =
      ({ s with
          epoch := f.header.epoch
          table := { s.table with records := [], floor := 0, nextRun := 1 }
          assign := { s.assign with entries := [], held := false, boundary := 0 } }.appended
        ⟨.session, .station f.header.station.toNat, 0, some f.header.epoch.toNat, Marks.none, 0⟩, false) := by
  unfold State.epochStep
  rw [if_neg hstate, if_pos hepoch, State.adoptEpoch, State.changeSession_eq]
  rfl

/-- A frame with no higher epoch, out of LISTENING, changes none (R87). -/
theorem State.epochStep_same {f : Frame} (hstate : s.station.state ≠ .listening) (hepoch : ¬ s.epoch < f.header.epoch) :
    s.epochStep f = (s, decide (f.header.epoch < s.epoch)) := by
  unfold State.epochStep
  rw [if_neg hstate, if_neg hepoch]

/-- A station on course does not listen. -/
theorem State.onCourse_not_listening (hcourse : s.onCourse = true) : s.station.state ≠ .listening := fun hstate => by
  simp [State.onCourse, hstate] at hcourse

/-! ### Facts heard -/

/-- The content of a frame that is applied: the fact it carries, or nothing (R112). -/
theorem State.content_fact {p : Payload} (hcourse : s.onCourse = true)
    (hkind : (∃ x, p = .start x) ∨ (∃ x, p = .cross x) ∨ ∃ x, p = .ruling x) :
    s.content ⟨h, p⟩ true false =
      match payloadFact s.gates p with
      | some fact => s.takeFactAndWalk fact
      | none => s := by
  have hpass : true = true ∧ false = false ∧ s.onCourse = true := ⟨rfl, rfl, hcourse⟩
  rcases hkind with ⟨x, rfl⟩ | ⟨x, rfl⟩ | ⟨x, rfl⟩ <;> exact if_pos hpass

/-- The content of a frame of an older epoch does nothing (R87). -/
theorem State.content_older {p : Payload} (hkind : (∃ x, p = .start x) ∨ (∃ x, p = .cross x) ∨ ∃ x, p = .ruling x) :
    s.content ⟨h, p⟩ true true = s := by
  rcases hkind with ⟨x, rfl⟩ | ⟨x, rfl⟩ | ⟨x, rfl⟩ <;> simp [State.content]

/-- A time field names a time up to the limit, or none (R6, R187). -/
theorem timeField_eq (w : Word32) :
    timeField w =
      if w.toNat ≤ 86400000 then some (some w.toNat) else if w = 0xFFFFFFFF#32 then some none else none := by
  unfold timeField
  by_cases hnone : w = 0xFFFFFFFF#32
  · simp [hnone]
  · simp only [if_neg hnone]
    rfl

/-- A START's fact (R6, R10). -/
theorem startFact_eq (p : StartPayload) :
    startFact p =
      if (1 ≤ p.run.toNat ∧ p.run.toNat ≤ 999) ∧ p.startTime.toNat ≤ 86400000 then
        some (.start p.run.toNat p.startTime.toNat (p.marks.getLsbD 0))
      else none := by
  unfold startFact runField
  rw [timeField_eq]
  by_cases hrun : 1 ≤ p.run.toNat ∧ p.run.toNat ≤ 999
  · by_cases htime : p.startTime.toNat ≤ 86400000
    · simp [Config.maxRun, hrun, htime]
    · by_cases hnone : p.startTime = 0xFFFFFFFF#32 <;> simp [Config.maxRun, hrun, htime, hnone]
  · simp only [Config.maxRun, hrun, false_and, if_false]

/-- A CROSS's fact (R6, R11). -/
theorem crossFact_eq (gates : Nat) (p : CrossPayload) :
    crossFact gates p =
      if (1 ≤ p.run.toNat ∧ p.run.toNat ≤ 999) ∧ 1 ≤ p.gate.toNat ∧ p.gate.toNat < gates ∧
          p.crossingTime.toNat ≤ 86400000 ∧ (p.startTime.toNat ≤ 86400000 ∨ p.startTime = 0xFFFFFFFF#32) then
        some
          (.cross p.run.toNat p.gate.toNat p.crossingTime.toNat
            (if p.startTime = 0xFFFFFFFF#32 then none else some p.startTime.toNat)
            (p.flags.getLsbD 0) (p.flags.getLsbD 1) (p.flags.getLsbD 2))
      else none := by
  unfold crossFact runField
  rw [timeField_eq, timeField_eq]
  by_cases hrun : 1 ≤ p.run.toNat ∧ p.run.toNat ≤ 999
  · by_cases hcrossing : p.crossingTime.toNat ≤ 86400000
    · by_cases hstart : p.startTime.toNat ≤ 86400000
      · have hsome : p.startTime ≠ 0xFFFFFFFF#32 := fun hnone => by simp [hnone] at hstart
        simp [Config.maxRun, hrun, hcrossing, hstart, hsome]
      · by_cases hnone : p.startTime = 0xFFFFFFFF#32
        · simp [Config.maxRun, hrun, hcrossing, hnone]
        · simp [Config.maxRun, hrun, hcrossing, hstart, hnone]
    · by_cases hnone : p.crossingTime = 0xFFFFFFFF#32 <;> simp [Config.maxRun, hrun, hcrossing, hnone]
  · simp only [Config.maxRun, hrun, false_and, if_false]

/-- A RULING's fact (R6, R12, R187). -/
theorem rulingFact_eq (p : RulingPayload) :
    rulingFact p =
      if 1 ≤ p.run.toNat ∧ p.run.toNat ≤ 999 then
        if p.verdict = 1#8 then some (.ruling p.run.toNat .void)
        else if p.verdict = 2#8 then some (.ruling p.run.toNat .dnf) else none
      else none := by
  unfold rulingFact
  by_cases hrun : 1 ≤ p.run.toNat ∧ p.run.toNat ≤ 999
  · rw [show runField p.run = some p.run.toNat from if_pos hrun, if_pos hrun]
  · rw [show runField p.run = none from if_neg hrun, if_neg hrun]

/-- What a fact frame does to the station once it is heard and of the epoch held: the fact it carries is taken, and
where it carries none nothing more. -/
theorem State.Hears.exec_fact {p : Payload} {base : State} (hs : s.Hears h) (horder : s.InOrder h)
    (hkind : (∃ x, p = .start x) ∨ (∃ x, p = .cross x) ∨ ∃ x, p = .ruling x) (hcourse : base.onCourse = true)
    (hgates : base.gates = s.gates)
    (hepoch : (s.heardAs h (some (h.seq + 1)) []).epochStep ⟨h, p⟩ = (base, false)) :
    (s.receive ⟨h, p⟩).settleLine =
      State.settleLine
        (match payloadFact s.gates p with
        | some fact => base.takeFactAndWalk fact
        | none => base) := by
  have hsequenced : p.sequenced = true := by rcases hkind with ⟨x, rfl⟩ | ⟨x, rfl⟩ | ⟨x, rfl⟩ <;> rfl
  have hwf : Frame.wellFormed ⟨h, p⟩ = true := by
    obtain ⟨-, -, hstation, -, -⟩ := hs
    rcases hkind with ⟨x, rfl⟩ | ⟨x, rfl⟩ | ⟨x, rfl⟩ <;>
      simpa [Frame.wellFormed, Payload.sequenced] using hstation
  rw [hs.receive_inOrder horder hwf hsequenced, hepoch]
  dsimp only
  rw [State.content_fact hcourse hkind, hgates]

/-- A settled unit stays settled through what a frame from a peer does to the table, the list and the peers. -/
theorem State.settleLine_heard {t : State} (hs : s.LineSettled) (houtbox : t.outbox = s.outbox)
    (hline : t.line = { s.line with rx := .ignoring, complete := none }) : t.settleLine = t :=
  t.settleLine_settled (hs.congr (by rw [hline]; exact id) (by unfold State.frameReady; rw [houtbox]))

/-- With an empty list the walk on a notice does nothing. -/
theorem State.takeFactAndWalk_empty (hempty : s.assign.entries = []) (f : Fact) :
    s.takeFactAndWalk f = (s.takeFact f).1 := by
  unfold State.takeFactAndWalk
  dsimp only
  rw [State.walk_empty _ (by simpa using hempty), ite_self]

/-- Settles O23: the bookkeeping of a frame in order, its epoch, and its fact where it passes its checks. -/
theorem receivedFactsAreTaken : Obligations.ReceivedFactsAreTaken := by
  refine ⟨fun s h sp cp rp hs horder hcourse hsettled => ?_, fun s h sp cp rp hs horder hcourse holder hsettled => ?_⟩
  · intro heard adopted names crosses takes
    have hstate : heard.station.state ≠ .listening := State.onCourse_not_listening hcourse
    have htakes : ∀ (base : State) (result : Fact → State),
        (∀ p : Payload, ((∃ x, p = .start x) ∨ (∃ x, p = .cross x) ∨ ∃ x, p = .ruling x) →
          (s.receive ⟨h, p⟩).settleLine =
            match payloadFact s.gates p with
            | some fact => result fact
            | none => base) → takes base result := by
      intro base result hreceive
      have hstart := hreceive (.start sp) (.inl ⟨sp, rfl⟩)
      have hcross := hreceive (.cross cp) (.inr (.inl ⟨cp, rfl⟩))
      have hruling := hreceive (.ruling rp) (.inr (.inr ⟨rp, rfl⟩))
      simp only [payloadFact, startFact_eq] at hstart
      simp only [payloadFact, crossFact_eq] at hcross
      simp only [payloadFact, rulingFact_eq] at hruling
      refine ⟨fun hpass => ?_, fun hfail => ?_, fun hpass => ?_, fun hfail => ?_, fun hpass hverdict => ?_,
        fun hpass hverdict => ?_, fun hfail => ?_⟩
      · exact congrArg Host.Outcome.next (hstart.trans (by rw [if_pos hpass]))
      · exact congrArg Host.Outcome.next (hstart.trans (by rw [if_neg hfail]))
      · exact congrArg Host.Outcome.next (hcross.trans (by rw [if_pos hpass]))
      · exact congrArg Host.Outcome.next (hcross.trans (by rw [if_neg hfail]))
      · exact congrArg Host.Outcome.next (hruling.trans (by rw [if_pos hpass, if_pos hverdict]))
      · exact congrArg Host.Outcome.next
          (hruling.trans (by rw [if_pos hpass, if_neg (by rw [hverdict]; decide), if_pos hverdict]))
      · refine congrArg Host.Outcome.next (hruling.trans ?_)
        rcases hfail with hname | ⟨hvoid, hdnf⟩
        · rw [if_neg hname]
        · by_cases hname : names rp.run
          · rw [if_pos hname, if_neg hvoid, if_neg hdnf]
          · rw [if_neg hname]
    have hheard : h.epoch = s.epoch → ∀ p : Payload, heard.epochStep ⟨h, p⟩ = (heard, false) := fun hepoch p => by
      have hnot : ¬ heard.epoch < h.epoch := by
        rw [hepoch]
        exact BitVec.lt_irrefl _
      rw [State.epochStep_same hstate hnot]
      exact Prod.ext rfl (decide_eq_false (by rw [hepoch]; exact BitVec.lt_irrefl _))
    refine ⟨fun hepoch hempty => htakes heard (fun f => (heard.takeFact f).1) fun p hkind => ?_,
      fun hepoch => htakes heard (fun f => (heard.takeFactAndWalk f).settleLine) fun p hkind => ?_,
      fun hepoch => htakes adopted (fun f => (adopted.takeFact f).1) fun p hkind => ?_⟩
    · rw [hs.exec_fact horder hkind (base := heard) hcourse rfl (hheard hepoch p)]
      cases payloadFact s.gates p with
      | none => exact State.settleLine_heard hsettled rfl rfl
      | some fact =>
        dsimp only
        rw [State.takeFactAndWalk_empty (s := heard) hempty]
        exact State.settleLine_heard hsettled (by simp; rfl) (by simp; rfl)
    · rw [hs.exec_fact horder hkind (base := heard) hcourse rfl (hheard hepoch p)]
      cases payloadFact s.gates p with
      | none => exact State.settleLine_heard hsettled rfl rfl
      | some fact => rfl
    · have hstep : heard.epochStep ⟨h, p⟩ = (adopted, false) := State.epochStep_higher hstate hepoch
      rw [hs.exec_fact horder hkind (base := adopted) hcourse rfl hstep]
      cases payloadFact s.gates p with
      | none => exact State.settleLine_heard hsettled rfl rfl
      | some fact =>
        dsimp only
        rw [State.takeFactAndWalk_empty (s := adopted) rfl]
        exact State.settleLine_heard hsettled (by simp; rfl) (by simp; rfl)
  · intro heard
    have hstate : heard.station.state ≠ .listening := State.onCourse_not_listening hcourse
    have hexec : ∀ p : Payload, ((∃ x, p = .start x) ∨ (∃ x, p = .cross x) ∨ ∃ x, p = .ruling x) →
        (s.receive ⟨h, p⟩).settleLine = heard := by
      intro p hkind
      have hsequenced : p.sequenced = true := by rcases hkind with ⟨x, rfl⟩ | ⟨x, rfl⟩ | ⟨x, rfl⟩ <;> rfl
      have hwf : Frame.wellFormed ⟨h, p⟩ = true := by
        obtain ⟨-, -, hstation, -, -⟩ := hs
        rcases hkind with ⟨x, rfl⟩ | ⟨x, rfl⟩ | ⟨x, rfl⟩ <;>
          simpa [Frame.wellFormed, Payload.sequenced] using hstation
      have hstep : heard.epochStep ⟨h, p⟩ = (heard, true) := by
        rw [State.epochStep_same hstate (by exact BitVec.lt_asymm holder)]
        exact Prod.ext rfl (decide_eq_true holder)
      rw [hs.receive_inOrder horder hwf hsequenced, hstep]
      dsimp only
      rw [State.content_older hkind]
      exact State.settleLine_heard hsettled rfl rfl
    exact ⟨congrArg Host.Outcome.next (hexec _ (.inl ⟨sp, rfl⟩)),
      congrArg Host.Outcome.next (hexec _ (.inr (.inl ⟨cp, rfl⟩))),
      congrArg Host.Outcome.next (hexec _ (.inr (.inr ⟨rp, rfl⟩)))⟩

end

end Sys2Proof.Machine
end

section
/-! PROOFS. What a frame makes of the epoch and of LISTENING: sessions, the epoch every accepted frame leaves, and
the marks that a listening station keeps. -/

namespace Sys2Proof.Machine

section
variable {s t u : State} {h : Header}

/-! ### Sessions -/

/-- In LISTENING a frame updates the mark and the record, and raises the epoch (R24, R73, R84). -/
theorem State.epochStep_listening (hstate : s.station.state = .listening) (f : Frame) :
    s.epochStep f = (((s.updateMark f).updateRecord f).raiseEpoch f.header.epoch, false) := if_pos hstate

/-- The epoch raised to a frame's (R84). -/
theorem State.raiseEpoch_eq (s : State) (e : Word16) :
    s.raiseEpoch e = { s with epoch := if s.epoch < e then e else s.epoch } := by
  unfold State.raiseEpoch State.withEpoch
  split <;> rfl

/-- A station that listens is not station 0's concern where its number is another (R24). -/
theorem State.updateMark_other (hnumber : s.number ≠ 0) (f : Frame) : s.updateMark f = s := if_neg hnumber

/-- Frames other than a BEACON and a START leave the listening record (R73). -/
theorem State.updateRecord_other {p : Payload} (hbeacon : ∀ b, p ≠ .beacon b) (hstart : ∀ x, p ≠ .start x) :
    s.updateRecord ⟨h, p⟩ = s := by
  unfold State.updateRecord
  split
  · cases p with
    | beacon b => exact absurd rfl (hbeacon b)
    | start x => exact absurd rfl (hstart x)
    | cross _ => rfl
    | ruling _ => rfl
    | session _ => rfl
    | askRepeat _ => rfl
    | gone _ => rfl
  · rfl

/-- Settles O26: a SESSION has no content of its own, and its epoch does what every frame's does. -/
theorem aSessionFrameChangesTheSession : Obligations.ASessionFrameChangesTheSession := by
  intro s h p hs horder hfirst hlast hepoch hsettled heard
  have hwf : Frame.wellFormed ⟨h, .session p⟩ = true := by
    obtain ⟨-, -, hstation, -, -⟩ := hs
    simp [Frame.wellFormed, Payload.sequenced, hstation, hfirst, hlast, hepoch]
  have hexec : ∀ step : State × Bool, heard.epochStep ⟨h, .session p⟩ = step → step.1.outbox = s.outbox →
      step.1.line = heard.line → exec (.receiveSession h p) s = .next step.1 := by
    intro step hstep houtbox hline
    refine congrArg Host.Outcome.next ?_
    rw [hs.receive_inOrder horder hwf rfl, hstep]
    exact State.settleLine_heard hsettled houtbox hline
  refine ⟨fun hcourse hhigher => ?_, fun hcourse hnot => ?_, fun hlistening hnumber => ?_⟩
  · exact hexec _ (State.epochStep_higher (State.onCourse_not_listening hcourse) hhigher) rfl rfl
  · exact hexec _ (State.epochStep_same (State.onCourse_not_listening hcourse) (BitVec.not_lt.2 hnot)) rfl rfl
  · have hstep := State.epochStep_listening (s := heard) hlistening ⟨h, .session p⟩
    rw [State.updateMark_other (s := heard) hnumber, State.updateRecord_other (by simp) (by simp),
      State.raiseEpoch_eq] at hstep
    exact hexec _ hstep rfl rfl

/-! ### The epoch and the time heard -/

/-- Every peer was last heard when it was (R111). -/
def State.HeardAlike (s t : State) : Prop := ∀ i, (t.peer i).lastHeard = (s.peer i).lastHeard

/-- A Peer Table that stays. -/
theorem State.HeardAlike.of_peers (h : t.receiver.peers = s.receiver.peers) : s.HeardAlike t := fun i => by
  simp [State.peer, h]

/-- One change after another. -/
theorem State.HeardAlike.trans (h : s.HeardAlike t) (h' : t.HeardAlike u) : s.HeardAlike u := fun i =>
  (h' i).trans (h i)

/-- Entries alike but for their Missing Lists. -/
theorem State.PeersAlike.heard (h : s.PeersAlike t) : s.HeardAlike t := fun i => (h i).2.1

/-- One entry changed but for the time it was heard. -/
theorem State.withPeer_heardAlike {p : Nat} {x : Peer} (hx : x.lastHeard = (s.peer p).lastHeard) :
    s.HeardAlike (s.withPeer p x) := fun i => by
  rw [State.peer_withPeer_eq]
  split
  · rename_i hi
    rw [hx, hi.1]
  · rfl

/-- Losses leave the times heard. -/
theorem State.loseAll_heardAlike (p : Nat) : ∀ (l : List Byte) (s : State), s.HeardAlike (s.loseAll p l)
  | [], _ => .of_peers rfl
  | q :: qs, s => (s.lose_alike p q).heard.trans (State.loseAll_heardAlike p qs (s.lose p q))

/-- Moving the expected sequence leaves the times heard. -/
theorem State.advance_heardAlike (s : State) (p : Nat) (l : List Byte) (e : Byte) : s.HeardAlike (s.advance p l e) :=
  .trans (u := s.advance p l e) (State.withPeer_heardAlike (s := s) (p := p) (by rfl)) (State.loseAll_heardAlike p _ _)

/-- Listing sequences leaves the times heard. -/
theorem State.listAll_heardAlike (s : State) (p : Nat) (l : List Byte) : s.HeardAlike (s.listAll p l) :=
  (s.withMissing_alike p _).heard.trans (State.loseAll_heardAlike p _ _)

/-- The bookkeeping leaves the times heard (R114, R116). -/
theorem State.book_heardAlike (s : State) (p : Nat) (f : Frame) : s.HeardAlike (s.book p f).1 := by
  have hsequence : ∀ q, s.HeardAlike (s.bookSequence p q).1 := by
    intro q
    unfold State.bookSequence
    split
    · exact (s.dropMissing_alike p q).heard
    · split
      · exact s.advance_heardAlike p _ _
      · dsimp only
        split
        · exact s.advance_heardAlike p _ _
        · exact .of_peers rfl
  have hjoin : ∀ (u : State) (highest : Nat), u.HeardAlike (if p = 0 then u.setHeld highest else u) := by
    intro u highest
    split
    · exact .of_peers (by simp)
    · exact .of_peers rfl
  have hbeacon : ∀ b, s.HeardAlike (s.bookBeacon p b) := by
    intro b
    have hrestart : ∀ e, s.HeardAlike ((s.loseEntries p).advance p [] e) := fun e =>
      (State.loseAll_heardAlike p _ s).trans (State.advance_heardAlike _ p [] e)
    unfold State.bookBeacon
    dsimp only
    split
    · split
      · exact hrestart _
      · split
        · exact (s.advance_heardAlike p [] _).trans (hjoin _ _)
        · exact .of_peers rfl
    · split
      · exact (hrestart _).trans (State.listAll_heardAlike _ p _)
      · split
        · exact (s.advance_heardAlike p [] _).trans (hjoin _ _)
        · split
          · exact s.advance_heardAlike p _ _
          · exact .of_peers rfl
  unfold State.book
  split
  · exact hsequence _
  · exact hsequence _
  · exact hsequence _
  · exact hsequence _
  · exact hbeacon _
  · exact .of_peers rfl
  · exact .of_peers rfl

/-- A carried time leaves the times heard (R29, R31). -/
theorem State.takeTime_heardAlike (s : State) (time : Nat) : s.HeardAlike (s.takeTime time) := by
  have hsilence : ∀ u : State, u.HeardAlike u.silencePeers := by
    intro u i
    simp only [State.peer, State.silencePeers, List.getD_eq_getElem?_getD, List.getElem?_map]
    cases u.receiver.peers[i]? with
    | none => rfl
    | some x =>
      simp only [Option.map_some, Option.getD_some]
      split <;> rfl
  have htimers : ∀ u : State, u.HeardAlike u.endTimers := fun u =>
    (hsilence u).trans (.of_peers (by simp [State.endTimers]))
  unfold State.takeTime
  split
  · exact .of_peers rfl
  · refine .trans ?_ ((htimers _).trans (State.fallTogether_alike _ _).heard)
    split
    · exact .of_peers rfl
    · exact .of_peers rfl

/-- A frame's content leaves the times heard and the epoch (R112). -/
theorem State.content_heardAlike (s : State) (f : Frame) (applied older : Bool) :
    s.HeardAlike (s.content f applied older) ∧ (s.content f applied older).epoch = s.epoch := by
  have hfact : ∀ fact? : Option Fact,
      s.HeardAlike (match fact? with | some fact => s.takeFactAndWalk fact | none => s) ∧
        State.epoch (match fact? with | some fact => s.takeFactAndWalk fact | none => s) = s.epoch := by
    intro fact?
    cases fact? with
    | none => exact ⟨.of_peers rfl, rfl⟩
    | some fact => exact ⟨.of_peers (by simp), by simp⟩
  have hbeacon : ∀ b, s.HeardAlike (s.beaconContent f b older) := by
    intro b
    have htime : s.HeardAlike
        (if b.courseTime.toNat ≤ Config.timeLimit then s.takeTime b.courseTime.toNat else s) := by
      split
      · exact s.takeTime_heardAlike _
      · exact .of_peers rfl
    unfold State.beaconContent
    dsimp only
    split
    · refine htime.trans ?_
      generalize (if b.courseTime.toNat ≤ Config.timeLimit then s.takeTime b.courseTime.toNat else s) = timed
      refine .of_peers ?_
      split
      · simp [State.snapshotBeacon]
      · rfl
    · exact htime
  unfold State.content
  split
  · exact ⟨hbeacon _, by simp⟩
  · split
    · exact hfact _
    · exact ⟨.of_peers rfl, rfl⟩
  · split
    · exact hfact _
    · exact ⟨.of_peers rfl, rfl⟩
  · split
    · exact hfact _
    · exact ⟨.of_peers rfl, rfl⟩
  · exact ⟨.of_peers rfl, rfl⟩
  · split
    · exact ⟨.of_peers rfl, rfl⟩
    · split
      · exact ⟨.of_peers (by simp), by simp⟩
      · refine ⟨?_, by simp⟩
        unfold State.suppress
        split
        · exact ((s.withMissing_alike _ _).trans (State.control_alike _ (.askRepeat 0#8 0#8) _).2).heard
        · exact .of_peers rfl
  · split
    · exact ⟨.of_peers rfl, rfl⟩
    · exact ⟨State.loseAll_heardAlike _ _ _, by simp⟩

/-- The epoch after a frame's (R84, R86, R87). -/
theorem State.epochStep_epoch (s : State) (f : Frame) :
    (s.epochStep f).1.epoch = (if s.epoch < f.header.epoch then f.header.epoch else s.epoch) ∧
      s.HeardAlike (s.epochStep f).1 := by
  by_cases hstate : s.station.state = .listening
  · rw [State.epochStep_listening hstate, State.raiseEpoch_eq]
    exact ⟨by simp, .of_peers (by simp)⟩
  · by_cases hepoch : s.epoch < f.header.epoch
    · rw [State.epochStep_higher hstate hepoch, if_pos hepoch]
      exact ⟨rfl, .of_peers rfl⟩
    · rw [State.epochStep_same hstate hepoch, if_neg hepoch]
      exact ⟨rfl, .of_peers rfl⟩

/-- The command of a frame takes the frame. -/
theorem exec_frameCommand (s : State) (f : Frame) : exec (frameCommand f) s = .next (s.receive f).settleLine := by
  obtain ⟨h, p⟩ := f
  cases p <;> rfl

/-- Settles O27: the epoch and the time heard through each of the four parts of an accepted frame. -/
theorem anAcceptedFrameRaisesTheEpoch : Obligations.AnAcceptedFrameRaisesTheEpoch := by
  intro s f hs hwf hgates
  have hgates' : Payload.matchesGates f.payload s.gates := fun b hb => by
    rw [hb] at hgates
    exact hgates
  refine ⟨_, exec_frameCommand s f, ?_⟩
  have hreceive : s.receive f = _ := hs.receive_eq (p := f.payload) hwf hgates'
  have hbook := (s.heard f.header).book_heardAlike f.header.station.toNat f
  have hstep := ((s.heard f.header).book f.header.station.toNat f).1.epochStep_epoch f
  have hcontent := State.content_heardAlike
    (((s.heard f.header).book f.header.station.toNat f).1.epochStep f).1 f
    ((s.heard f.header).book f.header.station.toNat f).2
    (((s.heard f.header).book f.header.station.toNat f).1.epochStep f).2
  have hpeer := hs.heardAs_peer (s.peer f.header.station.toNat).expected (s.peer f.header.station.toNat).missing
  have hall := (hbook.trans hstep.2).trans hcontent.1
  rw [hreceive, State.settleLine_eq]
  refine ⟨?_, ?_, ?_, ?_⟩
  · refine hcontent.2.trans (hstep.1.trans ?_)
    simp only [State.book_frame]
    rfl
  · exact (hall _).trans (by rw [State.heard, hpeer])
  · simp [State.heard, State.heardAs]
  · simp [State.heard, State.heardAs]

end

end Sys2Proof.Machine
end

section
/-! PROOFS. What LISTENING keeps of the frames it hears. -/

namespace Sys2Proof.Machine

section
variable {s : State} {h : Header}

/-! ### The mark and the record -/

/-- Station 0's mark after a frame of an epoch that supplies a run (R24). -/
def State.marked (s : State) (epoch : Word16) (run : Nat) : RunTable :=
  { s.table with
    markEpoch := if s.number = 0 ∧ s.table.markEpoch < epoch then epoch else s.table.markEpoch
    markRun :=
      if s.number = 0 ∧ s.table.markEpoch < epoch then run
      else if s.number = 0 ∧ epoch = s.table.markEpoch then max s.table.markRun run
      else s.table.markRun }

/-- The mark is the frame's where the frame is of a higher epoch, and grows where it is of the mark's (R24). -/
theorem State.updateMark_eq (s : State) (f : Frame) :
    s.updateMark f = { s with table := s.marked f.header.epoch (markValue f.payload) } := by
  unfold State.updateMark State.marked
  by_cases hnumber : s.number = 0
  · by_cases hhigher : s.table.markEpoch < f.header.epoch
    · simp only [hnumber, hhigher, if_true, and_self]
    · by_cases hsame : f.header.epoch = s.table.markEpoch
      · simp only [hnumber, hsame, if_true, if_false, and_self, and_false, BitVec.lt_irrefl]
      · simp only [hnumber, hhigher, hsame, if_true, if_false, and_false]
  · simp only [hnumber, if_false, false_and]

/-- The listening record after a BEACON (R73). -/
theorem State.updateRecord_beacon (s : State) (b : BeaconPayload) :
    s.updateRecord ⟨h, .beacon b⟩ =
      { s with
        assign :=
          if s.isAssigner = true ∧ h.station = 0#8 ∧ s.assign.recEpoch ≤ h.epoch then
            { s.assign with
              recEpoch := h.epoch
              recHighest := heldRun b.highest
              recOldest := heldRun (b.oldest.getD 0#16) }
          else s.assign } := by
  unfold State.updateRecord
  by_cases hzero : s.isAssigner = true ∧ h.station = 0#8
  · by_cases hepoch : s.assign.recEpoch ≤ h.epoch
    · rw [if_pos hzero, if_pos ⟨hzero.1, hzero.2, hepoch⟩]
      exact if_pos hepoch
    · rw [if_pos hzero, if_neg fun hall => hepoch hall.2.2]
      exact if_neg hepoch
  · rw [if_neg hzero, if_neg fun hall => hzero ⟨hall.1, hall.2.1⟩]

/-- The listening record after a START that names a run (R73). -/
theorem State.updateRecord_start (s : State) (p : StartPayload) (hrun : 1 ≤ p.run.toNat ∧ p.run.toNat ≤ 999) :
    s.updateRecord ⟨h, .start p⟩ =
      { s with
        assign :=
          if s.isAssigner = true ∧ h.station = 0#8 ∧ s.assign.recEpoch < h.epoch then
            { s.assign with recEpoch := h.epoch, recHighest := p.run.toNat, recOldest := p.run.toNat }
          else if s.isAssigner = true ∧ h.station = 0#8 ∧ h.epoch = s.assign.recEpoch then
            { s.assign with
              recHighest := max s.assign.recHighest p.run.toNat
              recOldest := if s.assign.recOldest = 0 then p.run.toNat else s.assign.recOldest }
          else s.assign } := by
  have hfield : runField p.run = some p.run.toNat := if_pos hrun
  unfold State.updateRecord
  by_cases hzero : s.isAssigner = true ∧ h.station = 0#8
  · obtain ⟨hassigner, hstation⟩ := hzero
    by_cases hhigher : s.assign.recEpoch < h.epoch
    · simp only [hassigner, hstation, hfield, hhigher, and_self, if_true]
    · by_cases hsame : h.epoch = s.assign.recEpoch
      · simp only [hassigner, hstation, hfield, hsame, and_self, and_false, if_true, if_false,
          BitVec.lt_irrefl]
      · simp only [hassigner, hstation, hfield, hhigher, hsame, and_self, and_false, if_true, if_false]
  · rw [if_neg hzero, if_neg fun hall => hzero ⟨hall.1, hall.2.1⟩, if_neg fun hall => hzero ⟨hall.1, hall.2.1⟩]

/-- A START that names no run leaves the listening record (R73). -/
theorem State.updateRecord_unnamed (s : State) (p : StartPayload) (hrun : ¬ (1 ≤ p.run.toNat ∧ p.run.toNat ≤ 999)) :
    s.updateRecord ⟨h, .start p⟩ = s := by
  have hfield : runField p.run = none := if_neg hrun
  unfold State.updateRecord
  simp only [hfield]
  exact ite_self s

/-! ### Content in LISTENING -/

/-- A listening station is not on course and does not speak. -/
theorem State.listening_quiet (hstate : s.station.state = .listening) : s.onCourse = false ∧ s.speaking = false := by
  simp [State.onCourse, State.speaking, hstate]

/-- The station once a frame is heard in LISTENING: the epoch, the mark and the record (R24, R73, R84). -/
def State.keeps (s : State) (epoch : Word16) (run : Nat) (assign : Assign) : State :=
  { s with
    epoch := if s.epoch < epoch then epoch else s.epoch
    table := s.marked epoch run
    assign := assign }

/-- A sequenced frame heard in LISTENING has no content (R112). -/
theorem State.Hears.listen_sequenced {p : Payload} (hs : s.Hears h) (horder : s.InOrder h)
    (hstate : s.station.state = .listening) (hsettled : s.LineSettled) (hwf : Frame.wellFormed ⟨h, p⟩ = true)
    (hsequenced : p.sequenced = true) {assign : Assign}
    (hrecord : ∀ t : State, t.assign = s.assign → t.isAssigner = s.isAssigner →
      t.updateRecord ⟨h, p⟩ = { t with assign := assign }) :
    (s.receive ⟨h, p⟩).settleLine = (s.heardAs h (some (h.seq + 1)) []).keeps h.epoch (markValue p) assign := by
  have hstep : (s.heardAs h (some (h.seq + 1)) []).epochStep ⟨h, p⟩ =
      ((s.heardAs h (some (h.seq + 1)) []).keeps h.epoch (markValue p) assign, false) := by
    rw [State.epochStep_listening (by exact hstate), State.updateMark_eq, hrecord _ (by rfl) (by rfl),
      State.raiseEpoch_eq]
    rfl
  have hcontent : ∀ t : State, t.onCourse = false → t.content ⟨h, p⟩ true false = t := by
    intro t hcourse
    cases p with
    | beacon b => simp [Payload.sequenced] at hsequenced
    | askRepeat r => simp [Payload.sequenced] at hsequenced
    | gone g => simp [Payload.sequenced] at hsequenced
    | start _ => simp [State.content, hcourse]
    | cross _ => simp [State.content, hcourse]
    | ruling _ => simp [State.content, hcourse]
    | session _ => rfl
  rw [hs.receive_inOrder horder hwf hsequenced, hstep]
  dsimp only
  rw [hcontent _ (by exact (State.listening_quiet hstate).1)]
  exact State.settleLine_heard hsettled rfl rfl

/-- A frame without a sequence heard in LISTENING from a peer of which nothing is missing. -/
theorem State.Hears.listen_unsequenced {p : Payload} (hs : s.Hears h) (hstate : s.station.state = .listening)
    (hwf : Frame.wellFormed ⟨h, p⟩ = true) (hgates : Payload.matchesGates p s.gates)
    (hbook : (s.heard h).book h.station.toNat ⟨h, p⟩ = (s.heard h, true)) {assign : Assign}
    (hrecord : ∀ t : State, t.assign = s.assign → t.isAssigner = s.isAssigner →
      t.updateRecord ⟨h, p⟩ = { t with assign := assign }) :
    s.receive ⟨h, p⟩ = ((s.heard h).keeps h.epoch (markValue p) assign).content ⟨h, p⟩ true false := by
  have hstep : (s.heard h).epochStep ⟨h, p⟩ = ((s.heard h).keeps h.epoch (markValue p) assign, false) := by
    rw [State.epochStep_listening (by exact hstate), State.updateMark_eq, hrecord _ (by rfl) (by rfl),
      State.raiseEpoch_eq]
    rfl
  rw [hs.receive_eq hwf hgates, hbook]
  dsimp only
  rw [hstep]

/-- The entries of the peers other than the one heard stay. -/
theorem State.heardAs_peer_other {i : Nat} (hi : i ≠ h.station.toNat) (expected : Option Byte)
    (missing : List MissingEntry) : (s.heardAs h expected missing).peer i = s.peer i := by
  simp [State.peer, State.heardAs, List.getD_eq_getElem?_getD, List.getElem?_set_ne (Ne.symm hi)]

/-- A REPEAT for a sequence that is not missing here does nothing where the station does not speak (R107, R118). -/
theorem State.content_repeat_quiet {p : RepeatPayload} (hspeaking : s.speaking = false)
    (hmisses : (s.peer p.originator.toNat).misses p.seq = false) (applied : Bool) :
    s.content ⟨h, .askRepeat p⟩ applied false = s := by
  simp [State.content, State.serve, State.suppress, hspeaking, hmisses]

/-- A GONE of a peer of which nothing is missing declares nothing lost (R119). -/
theorem State.content_gone_quiet {g : GonePayload} (hmissing : (s.peer h.station.toNat).missing = [])
    (applied : Bool) : s.content ⟨h, .gone g⟩ applied false = s := by
  simp [State.content, State.takeGone, hmissing]

/-- Station 0's beacon whose time is not ahead: the snapshot, and the release of HELD where it is of the epoch held;
another station's has no content (R30, R76, R113). -/
theorem State.beaconContent_behind {b : BeaconPayload}
    (htime : b.courseTime.toNat + 1 ≤ s.clock.courseTime ∨ 86400000 < b.courseTime.toNat) :
    s.beaconContent ⟨h, .beacon b⟩ b false =
      if h.station = 0#8 then
        if h.epoch = s.epoch then (s.snapshotBeacon b).releaseHeld (b.oldest.getD 0#16).toNat
        else s.snapshotBeacon b
      else s := by
  have hsame : (if b.courseTime.toNat ≤ Config.timeLimit then s.takeTime b.courseTime.toNat else s) = s := by
    rcases htime with hbehind | hlate
    · rw [State.takeTime, if_pos hbehind, ite_self]
    · exact if_neg (by simp only [Config.timeLimit]; omega)
  unfold State.beaconContent
  simp only [hsame, and_true]
  rfl

/-- A beacon that names the last sequence heard and is not FRESH books nothing (R116). -/
theorem State.bookBeacon_nothing {p : Nat} {b : BeaconPayload} (hfresh : b.flags.getLsbD 1 = false)
    (hsent : b.flags.getLsbD 3 = false) (hexpected : (s.peer p).expected = some (b.lastSeq + 1)) :
    s.bookBeacon p b = s := by
  have hlast : beaconLastSequence b = some b.lastSeq := by
    rw [beaconLastSequence, hsent]
    rfl
  have hnotfresh : beaconFresh b = false := hfresh
  unfold State.bookBeacon
  simp only [hlast, hexpected, hnotfresh]
  simp

/-- A mark of run 0 grows no mark. -/
theorem State.marked_zero (s : State) (epoch : Word16) :
    s.marked epoch 0 =
      { s.table with
        markEpoch := if s.number = 0 ∧ s.table.markEpoch < epoch then epoch else s.table.markEpoch
        markRun := if s.number = 0 ∧ s.table.markEpoch < epoch then 0 else s.table.markRun } := by
  simp [State.marked]

/-- Settles O28: the mark and the record that each kind of frame leaves, and its content, which LISTENING does not
take. -/
theorem listeningKeepsWhatAStartSays : Obligations.ListeningKeepsWhatAStartSays := by
  refine ⟨fun s h p c v q run hs horder hstate hsettled => ?_,
    fun s h p g hs hseq hstate hsettled hmissing => ?_, fun s h b hs hseq hstate hsettled hgates holdest htime hmissing hfresh hsent hexpected => ?_⟩
  · intro heard mark
    have hstation := hs.2.2.1
    have hwf : ∀ p : Payload, ((∃ x, p = .start x) ∨ (∃ x, p = .cross x) ∨ ∃ x, p = .ruling x) →
        Frame.wellFormed ⟨h, p⟩ = true ∧ p.sequenced = true := by
      intro p hkind
      rcases hkind with ⟨x, rfl⟩ | ⟨x, rfl⟩ | ⟨x, rfl⟩ <;>
        exact ⟨by simpa [Frame.wellFormed, Payload.sequenced] using hstation, rfl⟩
    have hother : ∀ p : Payload, (∀ b, p ≠ .beacon b) → (∀ x, p ≠ .start x) → ∀ t : State, t.assign = s.assign →
        t.isAssigner = s.isAssigner → t.updateRecord ⟨h, p⟩ = { t with assign := s.assign } := by
      intro p hbeacon hstart t hassign _
      rw [State.updateRecord_other hbeacon hstart, ← hassign]
    refine ⟨fun hrun hfirst hlast => ?_, fun hrun => ?_, ?_, ?_, fun hfirst hlast hepoch => ?_⟩
    · obtain ⟨hform, hsequenced⟩ := hwf (.start p) (.inl ⟨p, rfl⟩)
      have hmark : markValue (.start p) = run := (if_pos (by rw [hrun]; exact hlast)).trans hrun
      have hlisten := hs.listen_sequenced horder hstate hsettled hform hsequenced (fun t hassign hassigner => by
        rw [t.updateRecord_start p (by omega), hassign, hassigner, hrun])
      rw [hmark] at hlisten
      exact congrArg Host.Outcome.next hlisten
    · obtain ⟨hform, hsequenced⟩ := hwf (.start p) (.inl ⟨p, rfl⟩)
      have hmark : markValue (.start p) = 0 := by
        rcases hrun with hzero | hhigh
        · exact (if_pos (by simp [hzero])).trans hzero
        · exact if_neg (by simp [Config.maxRun]; omega)
      have hlisten := hs.listen_sequenced horder hstate hsettled hform hsequenced (assign := s.assign)
        (fun t hassign _ => by rw [t.updateRecord_unnamed p (by omega), ← hassign])
      rw [hmark] at hlisten
      exact congrArg Host.Outcome.next hlisten
    · obtain ⟨hform, hsequenced⟩ := hwf (.cross c) (.inr (.inl ⟨c, rfl⟩))
      exact congrArg Host.Outcome.next
        (hs.listen_sequenced horder hstate hsettled hform hsequenced (hother (.cross c) (by simp) (by simp)))
    · obtain ⟨hform, hsequenced⟩ := hwf (.ruling v) (.inr (.inr ⟨v, rfl⟩))
      exact congrArg Host.Outcome.next
        (hs.listen_sequenced horder hstate hsettled hform hsequenced (hother (.ruling v) (by simp) (by simp)))
    · have hform : Frame.wellFormed ⟨h, .session q⟩ = true := by
        simp [Frame.wellFormed, Payload.sequenced, hstation, hfirst, hlast, hepoch]
      exact congrArg Host.Outcome.next
        (hs.listen_sequenced horder hstate hsettled hform rfl (hother (.session q) (by simp) (by simp)))
  · intro heard
    have hlt : h.station.toNat < 16 := hs.2.2.1
    have hheard : (s.heard h).keeps h.epoch 0 s.assign = heard := by
      unfold State.keeps
      rw [State.marked_zero]
      simp only [heard, State.heard, hmissing]
      rfl
    have hother : ∀ p : Payload, (∀ b, p ≠ .beacon b) → (∀ x, p ≠ .start x) → ∀ t : State, t.assign = s.assign →
        t.isAssigner = s.isAssigner → t.updateRecord ⟨h, p⟩ = { t with assign := s.assign } := by
      intro p hbeacon hstart t hassign _
      rw [State.updateRecord_other hbeacon hstart, ← hassign]
    have hsettle : heard.settleLine = heard := State.settleLine_heard hsettled rfl rfl
    have hsilent : heard.speaking = false := (State.listening_quiet (s := s) hstate).2
    have hpeer : ∀ i, heard.peer i = (s.heard h).peer i := fun i => by
      rw [← hheard]
      rfl
    refine ⟨fun horiginator hself hmissing' => ?_, fun hrequester hself => ?_⟩
    · have hform : Frame.wellFormed ⟨h, .askRepeat p⟩ = true := by
        simp [Frame.wellFormed, Payload.sequenced, hseq, horiginator, hself, hlt, Config.stationCount]
      have hreceive := hs.listen_unsequenced hstate hform (fun b hb => nomatch hb) rfl
        (hother (.askRepeat p) (by simp) (by simp))
      refine congrArg Host.Outcome.next ?_
      rw [hreceive, show markValue (.askRepeat p) = 0 from rfl, hheard]
      have hother : p.originator.toNat ≠ h.station.toNat := fun heq => hself (BitVec.eq_of_toNat_eq heq)
      rw [State.content_repeat_quiet hsilent, hsettle]
      rw [hpeer, State.heard, State.heardAs_peer_other hother]
      simpa [Peer.misses] using hmissing'
    · have hform : Frame.wellFormed ⟨h, .gone g⟩ = true := by
        simp [Frame.wellFormed, Payload.sequenced, hseq, hrequester, hself, hlt, Config.stationCount]
      have hreceive := hs.listen_unsequenced hstate hform (fun b hb => nomatch hb) rfl
        (hother (.gone g) (by simp) (by simp))
      refine congrArg Host.Outcome.next ?_
      rw [hreceive, show markValue (.gone g) = 0 from rfl, hheard]
      rw [State.content_gone_quiet, hsettle]
      rw [hpeer, State.heard, hs.heardAs_peer, hmissing]
  · intro heard value
    have hform : Frame.wellFormed ⟨h, .beacon b⟩ = true := by
      simp [Frame.wellFormed, Payload.sequenced, hs.2.2.1, hseq, holdest]
    have hheard : s.heard h = heard := by simp only [heard, State.heard, hexpected, hmissing]
    have hpeer : (s.heard h).peer h.station.toNat = _ := hs.heardAs_peer _ _
    have hbook : (s.heard h).book h.station.toNat ⟨h, .beacon b⟩ = (s.heard h, true) :=
      Prod.ext (State.bookBeacon_nothing hfresh hsent (by rw [hpeer]; exact hexpected)) rfl
    have hreceive := hs.listen_unsequenced hstate hform (fun x hx => by cases hx; exact hgates) hbook
      (fun t hassign hassigner => by rw [t.updateRecord_beacon b, hassign, hassigner])
    refine congrArg Host.Outcome.next ?_
    have hcontent : ∀ t : State, t.clock = s.clock → t.onCourse = false →
        t.content ⟨h, .beacon b⟩ true false = if h.station = 0#8 then t.snapshotBeacon b else t := by
      intro t hclock hcourse
      have hrelease : ∀ oldest, (t.snapshotBeacon b).releaseHeld oldest = t.snapshotBeacon b := fun oldest =>
        if_neg fun hall => by
          have : t.onCourse = true := hall.2.1
          simp [hcourse] at this
      refine (State.beaconContent_behind (by rw [hclock]; exact htime)).trans ?_
      rw [hrelease, ite_self]
    have hsettle : ∀ t : State, t.outbox = s.outbox → t.line = heard.line → t.settleLine = t := fun t =>
      State.settleLine_heard hsettled
    rw [hreceive, hheard, hcontent _ (by rfl) (by exact (State.listening_quiet hstate).1)]
    by_cases hzero : h.station = 0#8
    · rw [if_pos hzero, hsettle _ (by rfl) (by rfl), if_pos hzero]
      rfl
    · rw [if_neg hzero, hsettle _ (by rfl) (by rfl), if_neg hzero]
      rfl

end

end Sys2Proof.Machine
end

section
/-! PROOFS. The losses of a peer's sequences, one after another: the Missing List, the results, the errors, the waiting
REPEATs and HELD; and the sequence bookkeeping built on them. -/

namespace Sys2Proof.Machine

section
variable {s t : State}

/-! ### One loss -/

/-- The contents of a LINK LOSS result (R121). -/
def lossContents (p : Nat) (q : Byte) : ResultContents := ⟨.linkLoss, .station p, 0, some q.toNat, Marks.none, 0⟩

/-- The Assignment Unit after a loss of a peer: one of station 0 sets HELD, or raises its boundary (R75, R121). -/
def State.lossAssign (s : State) (p : Nat) : Assign :=
  if p = 0 ∧ s.isAssigner = true ∧ s.onCourse = true then
    if s.assign.held = true then
      { s.assign with
        boundary := max s.assign.boundary (max s.highestKnown s.receiver.snapshot.highest + 1) }
    else
      { s.assign with
        held := true, boundary := max s.highestKnown s.receiver.snapshot.highest + 1, entries := [] }
  else s.assign

/-- A loss before HELD is looked at: the list, the result and E05 (R121). -/
def State.lossReported (s : State) (p : Nat) (q : Byte) : State :=
  ((s.dropMissing p q).append (lossContents p q)).raise .e05

/-- HELD set after a loss: the Assignment Unit, and the STRAY HELD results of the entries that leave (R75). -/
theorem State.setHeld_eq (s : State) (second : Nat) :
    s.setHeld second =
      if s.isAssigner = true ∧ s.onCourse = true then
        if s.assign.held = true then
          { s with
            assign :=
              { s.assign with boundary := max s.assign.boundary (max s.highestKnown second + 1) } }
        else
          State.strays
            { s with
              assign :=
                { s.assign with held := true, boundary := max s.highestKnown second + 1, entries := [] } }
            .held s.assign.entries
      else s := by
  unfold State.setHeld
  rfl

/-- STRAY results leave the Assignment Unit (R60). -/
theorem State.strays_assign (reason : StrayReason) : ∀ (l : List PendingEntry) (s : State),
    (s.strays reason l).assign = s.assign
  | [], _ => rfl
  | e :: es, s => (State.strays_assign reason es (s.stray reason e.time e.manual)).trans (by simp)

/-- The Assignment Unit after a loss (R75, R121). -/
theorem State.lose_assign (s : State) (p : Nat) (q : Byte) : (s.lose p q).assign = s.lossAssign p := by
  have hreported : (s.lossReported p q).assign = s.assign ∧ (s.lossReported p q).isAssigner = s.isAssigner ∧
      (s.lossReported p q).onCourse = s.onCourse ∧ (s.lossReported p q).highestKnown = s.highestKnown ∧
      (s.lossReported p q).receiver.snapshot = s.receiver.snapshot := by
    simp [State.lossReported, State.highestKnown]
  obtain ⟨hassign, hassigner, hcourse, hknown, hsnapshot⟩ := hreported
  have hlose : s.lose p q =
      if p = 0 then (s.lossReported p q).setHeld (s.lossReported p q).receiver.snapshot.highest
      else s.lossReported p q := rfl
  rw [hlose]
  unfold State.lossAssign
  by_cases hp : p = 0
  · rw [if_pos hp, State.setHeld_eq, hassign, hassigner, hcourse, hknown, hsnapshot]
    by_cases hcase : s.isAssigner = true ∧ s.onCourse = true
    · obtain ⟨ha, hc⟩ := hcase
      by_cases hheld : s.assign.held = true
      · simp only [ha, hc, hp, hheld, and_self, if_true]
      · simp only [ha, hc, hp, hheld, and_self, if_true, Bool.false_eq_true, if_false, State.strays_assign]
    · rw [if_neg hcase, if_neg fun hall => hcase hall.2, hassign]
  · rw [if_neg hp, if_neg fun hall => hp hall.1, hassign]

/-- STRAY results are read from the queue and course time alone. -/
theorem State.strays_results (hresults : t.results = s.results) (hclock : t.clock.courseTime = s.clock.courseTime)
    (reason : StrayReason) (l : List PendingEntry) : (t.strays reason l).results = (s.strays reason l).results := by
  induction l generalizing s t with
  | nil => exact hresults
  | cons e es ih =>
    exact ih (State.append_results hresults hclock _) (by simp [hclock])

/-- The queue after a loss: LINK LOSS, and where it sets HELD a STRAY HELD for each entry (R75, R121). -/
theorem State.lose_results (s : State) (p : Nat) (q : Byte) :
    (s.lose p q).results =
      if p = 0 ∧ s.isAssigner = true ∧ s.onCourse = true ∧ s.assign.held = false then
        ((s.append (lossContents p q)).strays .held s.assign.entries).results
      else (s.append (lossContents p q)).results := by
  have hdropped : (s.dropMissing p q).results = s.results ∧ (s.dropMissing p q).clock.courseTime = s.clock.courseTime := by
    simp
  have hqueue : (s.lossReported p q).results = (s.append (lossContents p q)).results := by
    rw [State.lossReported, State.raise_eq]
    exact State.append_results hdropped.1 hdropped.2 _
  have hreported : (s.lossReported p q).assign = s.assign ∧ (s.lossReported p q).isAssigner = s.isAssigner ∧
      (s.lossReported p q).onCourse = s.onCourse ∧ (s.lossReported p q).clock = s.clock := by
    simp [State.lossReported]
  obtain ⟨hassign, hassigner, hcourse, hclock⟩ := hreported
  have hlose : s.lose p q =
      if p = 0 then (s.lossReported p q).setHeld (s.lossReported p q).receiver.snapshot.highest
      else s.lossReported p q := rfl
  rw [hlose]
  by_cases hp : p = 0
  · rw [if_pos hp, State.setHeld_eq, hassign, hassigner, hcourse]
    by_cases hcase : s.isAssigner = true ∧ s.onCourse = true
    · rw [if_pos hcase]
      by_cases hheld : s.assign.held = true
      · rw [if_pos hheld, if_neg fun hall => by simp [hheld] at hall]
        exact hqueue
      · rw [if_neg hheld, if_pos ⟨hp, hcase.1, hcase.2, by simpa using hheld⟩]
        exact State.strays_results (by exact hqueue) (by simp [hclock]) _ _
    · rw [if_neg hcase, if_neg fun hall => hcase ⟨hall.2.1, hall.2.2.1⟩, hqueue]
  · rw [if_neg hp, if_neg fun hall => hp hall.1, hqueue]

/-- The errors, the peers and the Control List after a loss (R120, R121). -/
theorem State.lose_reported (s : State) (p : Nat) (q : Byte) :
    (s.lose p q).station.errors = s.station.errors.put true .e05 ∧
    (s.lose p q).receiver.peers = (s.dropMissing p q).receiver.peers ∧
    (s.lose p q).outbox.control = (s.dropMissing p q).outbox.control := by
  have hreported : (s.lossReported p q).station.errors = s.station.errors.put true .e05 ∧
      (s.lossReported p q).receiver.peers = (s.dropMissing p q).receiver.peers ∧
      (s.lossReported p q).outbox.control = (s.dropMissing p q).outbox.control := by
    rw [State.lossReported, State.raise_eq]
    simp
  have hlose : s.lose p q =
      if p = 0 then (s.lossReported p q).setHeld (s.lossReported p q).receiver.snapshot.highest
      else s.lossReported p q := rfl
  rw [hlose]
  split
  · simpa using hreported
  · exact hreported

/-- A peer's entry with sequences gone from its Missing List. -/
def Peer.without (x : Peer) (lost : List Byte) : Peer :=
  { x with missing := x.missing.filter (fun m => !lost.contains m.seq) }

/-- The entry of the peer after one of its sequences leaves (R120). -/
theorem State.dropMissing_peer (s : State) (p i : Nat) (q : Byte) :
    (s.dropMissing p q).peer i = if i = p then (s.peer p).without [q] else s.peer i := by
  have hpeer : (s.dropMissing p q).peer i =
      (s.withPeer p { s.peer p with missing := (s.peer p).missing.filter (fun m => m.seq != q) }).peer i := rfl
  have hwithout : (s.peer p).without [q] =
      { s.peer p with missing := (s.peer p).missing.filter (fun m => m.seq != q) } := by
    refine congrArg (fun l => { s.peer p with missing := l }) (List.filter_congr fun m _ => ?_)
    by_cases hm : m.seq = q
    · simp [hm]
    · simp [hm]
  rw [hpeer, State.peer_withPeer_eq, hwithout]
  by_cases hi : i = p
  · by_cases hlength : p < s.receiver.peers.length
    · rw [if_pos ⟨hi, hlength⟩, if_pos hi]
    · rw [if_neg fun hall => hlength hall.2, if_pos hi, hi]
      have hreset : s.peer p = Peer.reset := by simp [State.peer, List.getElem?_eq_none (Nat.not_lt.1 hlength)]
      simp [hreset, Peer.reset]
  · rw [if_neg fun hall => hi hall.1, if_neg hi]

/-! ### Several losses -/

/-- The entries of the peers after losses (R121). -/
theorem State.loseAll_peer (p i : Nat) : ∀ (lost : List Byte) (s : State),
    (s.loseAll p lost).peer i = if i = p then (s.peer p).without lost else s.peer i
  | [], s => by
    have hnone : (s.peer p).without [] = s.peer p := by simp [Peer.without]
    by_cases hi : i = p
    · simp [hi, hnone]
    · simp [hi]
  | q :: qs, s => by
    have hone : ∀ j, (s.lose p q).peer j = if j = p then (s.peer p).without [q] else s.peer j := fun j =>
      (by simp only [State.peer, (s.lose_reported p q).2.1] :
        (s.lose p q).peer j = (s.dropMissing p q).peer j).trans (s.dropMissing_peer p j q)
    have hsplit : ((s.peer p).without [q]).without qs = (s.peer p).without (q :: qs) := by
      simp [Peer.without, List.filter_filter, Bool.and_comm]
    refine (State.loseAll_peer p i qs (s.lose p q)).trans ?_
    rw [hone p, hone i, if_pos rfl, hsplit]
    by_cases hi : i = p
    · rw [if_pos hi, if_pos hi]
    · rw [if_neg hi, if_neg hi, if_neg hi]

/-- The errors after losses (R121). -/
theorem State.loseAll_errors (p : Nat) : ∀ (lost : List Byte) (s : State),
    (s.loseAll p lost).station.errors =
      if lost = [] then s.station.errors else s.station.errors.put true .e05
  | [], _ => rfl
  | q :: qs, s => by
    refine (State.loseAll_errors p qs (s.lose p q)).trans ?_
    rw [(s.lose_reported p q).1, if_neg (List.cons_ne_nil q qs)]
    split
    · rfl
    · obtain ⟨_, _, _, _, _, _, _, _, _, _, _⟩ := s.station.errors
      rfl

/-- The queue after appends of LINK LOSS results is read from the queue and course time alone. -/
theorem foldl_loss_results (p : Nat) (lost : List Byte) (hresults : t.results = s.results)
    (hclock : t.clock.courseTime = s.clock.courseTime) :
    (lost.foldl (fun u y => u.append (lossContents p y)) t).results =
      (lost.foldl (fun u y => u.append (lossContents p y)) s).results := by
  induction lost generalizing s t with
  | nil => exact hresults
  | cons q qs ih => exact ih (State.append_results hresults hclock _) (by simp [hclock])

/-- No loss of the peer sets HELD here: it is not station 0, or there is no Assignment Unit at work, or HELD is set
(R75). -/
def State.Unmoved (s : State) (p : Nat) : Prop :=
  p ≠ 0 ∨ s.isAssigner = false ∨ s.onCourse = false ∨ s.assign.held = true

/-- A loss that does not set HELD leaves the entries, and the next one does not set it either. -/
theorem State.Unmoved.lose {p : Nat} (h : s.Unmoved p) (q : Byte) :
    (s.lose p q).Unmoved p ∧ (s.lose p q).assign.entries = s.assign.entries := by
  have hassign := s.lose_assign p q
  have hframe : (s.lose p q).isAssigner = s.isAssigner ∧ (s.lose p q).onCourse = s.onCourse := by simp
  unfold State.lossAssign at hassign
  by_cases hcase : p = 0 ∧ s.isAssigner = true ∧ s.onCourse = true
  · have hheld : s.assign.held = true := by
      rcases h with h | h | h | h
      · exact absurd hcase.1 h
      · simp [hcase.2.1] at h
      · simp [hcase.2.2] at h
      · exact h
    rw [if_pos hcase, if_pos hheld] at hassign
    exact ⟨.inr (.inr (.inr (by rw [hassign]; exact hheld))), by rw [hassign]⟩
  · rw [if_neg hcase] at hassign
    refine ⟨?_, by rw [hassign]⟩
    unfold State.Unmoved
    rwa [hframe.1, hframe.2, hassign]

/-- The queue and the entries after losses that do not set HELD (R121). -/
theorem State.Unmoved.loseAll {p : Nat} : ∀ (lost : List Byte) {s : State}, s.Unmoved p →
    (s.loseAll p lost).results = (lost.foldl (fun u y => u.append (lossContents p y)) s).results ∧
      (s.loseAll p lost).assign.entries = s.assign.entries
  | [], _, _ => ⟨rfl, rfl⟩
  | q :: qs, s, h => by
    obtain ⟨hnext, hentries⟩ := h.lose q
    obtain ⟨hresults, hall⟩ := State.Unmoved.loseAll qs hnext
    have hqueue : (s.lose p q).results = (s.append (lossContents p q)).results := by
      rw [State.lose_results, if_neg]
      rintro ⟨hp, hassigner, hcourse, hheld⟩
      rcases h with h | h | h | h
      · exact h hp
      · simp [hassigner] at h
      · simp [hcourse] at h
      · simp [hheld] at h
    exact ⟨hresults.trans (foldl_loss_results p qs hqueue (by simp)), hall.trans hentries⟩

/-- Losses of a peer other than station 0 leave the Assignment Unit. -/
theorem State.loseAll_assign {p : Nat} (hp : p ≠ 0) : ∀ (lost : List Byte) (s : State),
    (s.loseAll p lost).assign = s.assign
  | [], _ => rfl
  | q :: qs, s => (State.loseAll_assign hp qs (s.lose p q)).trans
      ((s.lose_assign p q).trans (if_neg fun hall => hp hall.1))

/-- Waiting REPEATs picked by a test leave the Control List where no frame is on the line (R120). -/
theorem State.dropRepeats_control {test : Byte → Byte → Bool} (hsending : s.sending = false) :
    (s.dropRepeats test).outbox.control =
      s.outbox.control.filter fun e =>
        match e with
        | .askRepeat o q => !test o q
        | .copy _ | .gone _ _ _ => true := by
  have hline : s.controlOnLine = 0 := by
    unfold State.controlOnLine
    unfold State.sending at hsending
    split
    · rename_i htx
      simp [htx] at hsending
    · rfl
  have hcontrol : (s.dropRepeats test).outbox.control =
      s.outbox.control.take s.controlOnLine ++
        (s.outbox.control.drop s.controlOnLine).filter fun e =>
          match e with
          | .askRepeat o q => !test o q
          | .copy _ | .gone _ _ _ => true := rfl
  rw [hcontrol, hline]
  rfl

end

end Sys2Proof.Machine
end

section
/-! PROOFS. The sequence bookkeeping: what joins a Missing List, what is lost with it, and the frames that move it. -/

namespace Sys2Proof.Machine

section
variable {s t : State}

/-! ### What joins a Missing List -/

/-- The sequences of a list that a Missing List does not hold. -/
def unlisted (l : List MissingEntry) (qs : List Byte) : List Byte := qs.filter (fun q => l.all (fun m => m.seq != q))

/-- Distinct sequences join while there is room, those held passed over, and the rest are left (R115). -/
theorem listMissing_eq (deadline : Nat) : ∀ (qs : List Byte) (l : List MissingEntry), qs.Nodup →
    listMissing deadline l qs =
      (l ++ ((unlisted l qs).take (8 - l.length)).map (fun q => ⟨q, 0, deadline⟩), (unlisted l qs).drop (8 - l.length))
  | [], l, _ => by simp [listMissing, unlisted]
  | q :: qs, l, h => by
    obtain ⟨hq, hqs⟩ := List.nodup_cons.1 h
    unfold listMissing
    by_cases hheld : l.any (fun m => m.seq == q) = true
    · have hskip : unlisted l (q :: qs) = unlisted l qs := by
        refine List.filter_cons_of_neg ?_
        obtain ⟨m, hm, hmq⟩ := List.any_eq_true.1 hheld
        simp only [Bool.not_eq_true, List.all_eq_false]
        exact ⟨m, hm, by simpa using hmq⟩
      rw [if_pos hheld, hskip, listMissing_eq deadline qs l hqs]
    · have hnew : unlisted l (q :: qs) = q :: unlisted l qs := by
        refine List.filter_cons_of_pos ?_
        simpa using hheld
      rw [if_neg hheld, hnew]
      by_cases hroom : l.length < Config.missingCapacity
      · have hlonger : unlisted (l ++ [⟨q, 0, deadline⟩]) qs = unlisted l qs :=
          List.filter_congr fun y hy => by
            have hyq : y ≠ q := fun heq => hq (heq ▸ hy)
            simp [List.all_append, hyq.symm]
        have hsucc : 8 - l.length = (8 - (l.length + 1)) + 1 := by
          simp only [Config.missingCapacity] at hroom
          omega
        rw [if_pos hroom, listMissing_eq deadline qs _ hqs, hlonger, List.length_append, List.length_singleton, hsucc]
        simp
      · have hzero : 8 - l.length = 0 := by
          simp only [Config.missingCapacity] at hroom
          omega
        rw [if_neg hroom, listMissing_eq deadline qs l hqs, hzero]
        rfl

/-- Nothing is held by an empty list. -/
theorem unlisted_nil (qs : List Byte) : unlisted [] qs = qs := by simp [unlisted]

/-- Fewer than 256 sequences in a row are distinct. -/
theorem sequencesFrom_nodup (first : Byte) {count : Nat} (h : count ≤ 256) : (sequencesFrom first count).Nodup := by
  refine List.Nodup.map_on (fun i hi j hj hij => ?_) List.nodup_range
  rw [List.mem_range] at hi hj
  have heq : BitVec.ofNat 8 i = BitVec.ofNat 8 j := by simpa using hij
  have := congrArg BitVec.toNat heq
  simp only [BitVec.toNat_ofNat] at this
  omega

/-- The Missing List once sequences have joined it. -/
def State.found (s : State) (p : Nat) (qs : List Byte) : List MissingEntry :=
  (s.peer p).missing ++
    ((unlisted (s.peer p).missing qs).take (8 - (s.peer p).missing.length)).map (fun q => ⟨q, 0, s.firstDeadline⟩)

/-- The sequences that find no room in the Missing List. -/
def State.leftOver (s : State) (p : Nat) (qs : List Byte) : List Byte :=
  (unlisted (s.peer p).missing qs).drop (8 - (s.peer p).missing.length)

/-- The station with sequences listed and the expected sequence moved, and the losses due (R114, R115). -/
theorem State.advance_eq (s : State) (p : Nat) {qs : List Byte} (e : Byte) (h : qs.Nodup) :
    s.advance p qs e =
      (s.withPeer p { s.peer p with expected := some e, missing := s.found p qs }).loseAll p
        (((s.found p qs).filter (fun m => !withinRange e m.seq)).map (fun m => m.seq) ++ s.leftOver p qs) := by
  unfold State.advance
  rw [listMissing_eq _ _ _ h]
  rfl

/-- The station with sequences listed under the expected sequence as it stands, and those lost (R115). -/
theorem State.listAll_eq (s : State) (p : Nat) {qs : List Byte} (h : qs.Nodup) :
    s.listAll p qs = (s.withMissing p (s.found p qs)).loseAll p (s.leftOver p qs) := by
  unfold State.listAll
  rw [listMissing_eq _ _ _ h]
  rfl

/-- A sequence left over is not in the list. -/
theorem State.leftOver_not_found {p : Nat} {qs : List Byte} (h : qs.Nodup) {m : MissingEntry}
    (hm : m ∈ s.found p qs) : m.seq ∉ s.leftOver p qs := by
  intro hleft
  have hnodup : (unlisted (s.peer p).missing qs).Nodup := h.filter _
  rw [State.found, List.mem_append] at hm
  rcases hm with hm | hm
  · have hunlisted := List.mem_of_mem_drop hleft
    obtain ⟨-, hall⟩ := List.mem_filter.1 hunlisted
    have := List.all_eq_true.1 hall m hm
    simp at this
  · obtain ⟨q, hq, rfl⟩ := List.mem_map.1 hm
    rw [← List.take_append_drop (8 - (s.peer p).missing.length) (unlisted (s.peer p).missing qs)] at hnodup
    exact (List.nodup_append.1 hnodup).2.2 q hq q hleft rfl

/-- The sequences that moving the expected sequence loses (R114, R115; assumption log 10). -/
def State.lostBy (s : State) (p : Nat) (qs : List Byte) (e : Byte) : List Byte :=
  ((s.found p qs).filter (fun m => !withinRange e m.seq)).map (fun m => m.seq) ++ s.leftOver p qs

/-- The peer once its expected sequence has moved: what is in range stays missing (R114). -/
theorem State.advance_peer {p : Nat} (hp : p < s.receiver.peers.length) {qs : List Byte} (h : qs.Nodup) (e : Byte) :
    (s.advance p qs e).peer p =
      { s.peer p with
        expected := some e, missing := (s.found p qs).filter (fun m => withinRange e m.seq) } := by
  rw [State.advance_eq s p e h, State.loseAll_peer, if_pos rfl, State.peer_withPeer _ _ _ hp]
  refine congrArg (fun l => { s.peer p with expected := some e, missing := l }) (List.filter_congr fun m hm => ?_)
  cases hin : withinRange e m.seq with
  | false =>
    have hmem : m.seq ∈ ((s.found p qs).filter (fun m => !withinRange e m.seq)).map (fun m => m.seq) :=
      List.mem_map_of_mem (List.mem_filter.2 ⟨hm, by simp [hin]⟩)
    simp [hmem]
  | true =>
    have hnot : m.seq ∉ ((s.found p qs).filter (fun m => !withinRange e m.seq)).map (fun m => m.seq) ++
        s.leftOver p qs := by
      rw [List.mem_append]
      rintro (hmem | hmem)
      · obtain ⟨m', hm', heq⟩ := List.mem_map.1 hmem
        have := (List.mem_filter.1 hm').2
        simp [heq, hin] at this
      · exact State.leftOver_not_found h hm hmem
    simp only [List.contains_eq_mem, hnot, decide_false, Bool.not_false]

/-- The errors, the queue and the Assignment Unit once the expected sequence has moved (R121). -/
theorem State.advance_reported (s : State) (p : Nat) {qs : List Byte} (h : qs.Nodup) (e : Byte) :
    (s.advance p qs e).station.errors =
        (if s.lostBy p qs e = [] then s.station.errors else s.station.errors.put true .e05) ∧
      (p ≠ 0 → (s.advance p qs e).assign = s.assign) ∧
      (s.Unmoved p →
        (s.advance p qs e).results =
            ((s.lostBy p qs e).foldl (fun u y => u.append (lossContents p y)) s).results ∧
          (s.advance p qs e).assign.entries = s.assign.entries) := by
  rw [State.advance_eq s p e h]
  refine ⟨State.loseAll_errors _ _ _, fun hp => State.loseAll_assign hp _ _, fun hu => ?_⟩
  have hu' : (s.withPeer p { s.peer p with expected := some e, missing := s.found p qs }).Unmoved p := hu
  obtain ⟨hresults, hentries⟩ := hu'.loseAll
    (((s.found p qs).filter (fun m => !withinRange e m.seq)).map (fun m => m.seq) ++ s.leftOver p qs)
  exact ⟨hresults.trans (foldl_loss_results p _ rfl rfl), hentries⟩

/-- Settles O25: the branches of the bookkeeping, with the list found and what is lost with it. -/
theorem sequencesAreBooked : Obligations.SequencesAreBooked := by
  intro s p q e hp x d booked skipped
  have hnodup : (sequencesFrom e d).Nodup := sequencesFrom_nodup e (by have := (q - e).isLt; omega)
  have hdeadline : s.firstDeadline = s.now + (20 + 5 * s.number) := by simp [State.firstDeadline, Nat.add_assoc]
  have hmisses : (∀ m ∈ x.missing, m.seq ≠ q) → x.misses q = false := fun h => by
    simpa [Peer.misses] using h
  have hahead : x.expected = some e → (∀ m ∈ x.missing, m.seq ≠ q) → d < 128 →
      s.bookSequence p q = (s.advance p (sequencesFrom e d) (q + 1), true) := by
    intro hexpected hmissing hd
    unfold State.bookSequence
    rw [hmisses hmissing, if_neg (by simp)]
    simp only [show (s.peer p).expected = some e from hexpected]
    exact if_pos hd
  have hwithin : d < 128 → ∀ i, i < d → withinRange (q + 1) (e + BitVec.ofNat 8 i) = true := by
    intro hd i hi
    have hdist : (q + 1 - (e + BitVec.ofNat 8 i)).toNat = d + 1 - i := by
      simp only [d] at hd hi ⊢
      bv_omega
    simp only [withinRange, hdist, Bool.and_eq_true, decide_eq_true_eq]
    omega
  have hlisted : x.missing = [] → ∀ n, s.found p (sequencesFrom e n) = skipped (min 8 n) ∧
      s.leftOver p (sequencesFrom e n) = (List.range (n - 8)).map (fun i => e + BitVec.ofNat 8 (8 + i)) := by
    intro hmissing n
    have hmissing' : (s.peer p).missing = [] := hmissing
    simp only [State.found, State.leftOver, hmissing', unlisted_nil, sequencesFrom, hdeadline, skipped]
    refine ⟨by simp [List.map_take.symm, List.take_range], ?_⟩
    refine List.ext_getElem (by simp) fun i hi _ => ?_
    simp
  have hbooked : x.missing = [] → x.expected = some e → d < 128 →
      s.bookSequence p q =
        ((booked { x with expected := some (q + 1), missing := skipped (min 8 d) }).loseAll p
          ((List.range (d - 8)).map (fun i => e + BitVec.ofNat 8 (8 + i))), true) := by
    intro hmissing hexpected hd
    obtain ⟨hfound, hleft⟩ := hlisted hmissing d
    have hall : (skipped (min 8 d)).filter (fun m => !withinRange (q + 1) m.seq) = [] := by
      refine List.filter_eq_nil_iff.2 fun m hm => ?_
      obtain ⟨i, hi, rfl⟩ := List.mem_map.1 hm
      rw [List.mem_range] at hi
      rw [hwithin hd i (by omega)]
      simp
    rw [hahead hexpected (by simp [hmissing]) hd, State.advance_eq s p _ hnodup, hfound, hleft, hall]
    rfl
  refine ⟨fun hmissing => ?_, fun hexpected hmissing => ?_, fun hexpected hmissing hd => ?_,
    fun hexpected hmissing hd hlimit => ?_, fun hexpected hmissing hd => ?_, fun hexpected hmissing hd => ?_⟩
  · have hmiss : x.misses q = true := by simpa [Peer.misses] using hmissing
    exact if_pos hmiss
  · unfold State.bookSequence
    rw [hmisses (by simp [hmissing]), if_neg (by simp)]
    simp only [show (s.peer p).expected = none from hexpected]
    rw [State.advance_nil hmissing]
    exact congrArg (fun l => (booked { x with expected := some (q + 1), missing := l }, true)) hmissing.symm
  · rw [hbooked hmissing hexpected (by omega), Nat.min_eq_right hd, Nat.sub_eq_zero_of_le hd]
    rfl
  · intro lost listed t
    refine ⟨?_, ?_, ?_, fun hp0 => ⟨?_, ?_⟩⟩
    · rw [hbooked hmissing hexpected hlimit, Nat.min_eq_left hd.le]
    · obtain ⟨hfound, hleft⟩ := hlisted hmissing d
      rw [Nat.min_eq_left hd.le] at hfound
      have hpeer : listed.peer p = { x with expected := some (q + 1), missing := skipped 8 } :=
        State.peer_withPeer s p _ hp
      refine (State.loseAll_peer p p lost listed).trans ?_
      rw [if_pos rfl, hpeer]
      refine congrArg (fun l => { x with expected := some (q + 1), missing := l })
        (List.filter_eq_self.2 fun m hm => ?_)
      have hnot := State.leftOver_not_found hnodup (hfound ▸ hm)
      rw [hleft] at hnot
      simp only [List.contains_eq_mem, Bool.not_eq_true', decide_eq_false_iff_not]
      exact hnot
    · exact (State.loseAll_errors _ _ _).trans (if_neg (by simp [lost]; omega))
    · exact State.loseAll_assign hp0 _ _
    · have hu : listed.Unmoved p := .inl hp0
      exact (hu.loseAll lost).1.trans (foldl_loss_results p lost rfl rfl)
  · intro unl room found stays lost
    have hfound : s.found p (sequencesFrom e d) = found := by
      simp only [State.found, hdeadline]
      rfl
    have hstays : ∀ m : MissingEntry, withinRange (q + 1) m.seq = stays m := fun m => by
      simp only [withinRange, stays, Bool.decide_and]
    have hlost : s.lostBy p (sequencesFrom e d) (q + 1) = lost := by
      simp only [State.lostBy, hfound, hstays]
      rfl
    obtain ⟨herrors, hassign, hqueue⟩ := State.advance_reported s p hnodup (q + 1)
    rw [hlost] at herrors hqueue
    refine ⟨_, hahead hexpected hmissing hd, ?_, herrors, fun hp0 => ⟨hassign hp0, (hqueue (.inl hp0)).1⟩⟩
    rw [State.advance_peer hp hnodup, hfound]
    simp only [hstays]
    rfl
  · unfold State.bookSequence
    rw [hmisses hmissing, if_neg (by simp)]
    simp only [show (s.peer p).expected = some e from hexpected]
    exact if_neg (by exact Nat.not_lt.2 hd)

end

end Sys2Proof.Machine
end

section
/-! PROOFS. Repeats served and suppressed, the frame that bears this station's own number, and the frames that are not
accepted. -/

namespace Sys2Proof.Machine

section
variable {s t : State} {h : Header}

/-! ### A unit that is not IDLE, or has nothing ready -/

/-- Outside IDLE the unit stays (R131). -/
theorem State.settleLine_not_idle (h : s.line.tx ≠ .idle) : s.settleLine = s := if_neg fun hall => h hall.1

/-- Waiting REPEATs that go make no frame ready. -/
theorem State.LineSettled.dropRepeats (h : s.LineSettled) (test : Byte → Byte → Bool) :
    (s.dropRepeats test).LineSettled := by
  intro hidle
  have hready := h hidle
  unfold State.frameReady at hready ⊢
  simp only [Bool.or_eq_false_iff, Bool.not_eq_false', List.isEmpty_iff] at hready
  obtain ⟨⟨hcontrol, hdue⟩, hring⟩ := hready
  simp [State.dropRepeats, hcontrol, hdue]
  simpa using hring

/-- The waiting REPEATs but one (R118, R120). -/
theorem keepsAllBut_iff (o : Byte) (q : Byte) (e : ControlEntry) :
    (match e with
      | .askRepeat o' q' => !(o' == o && q' == q)
      | .copy _ | .gone _ _ _ => true) = (e != .askRepeat o q) := by
  rw [Bool.eq_iff_iff]
  cases e with
  | copy f => simp
  | gone r q' o' => simp
  | askRepeat o' q' => simp only [Bool.not_eq_true', bne_iff_ne, ne_eq, ControlEntry.askRepeat.injEq,
      Bool.and_eq_false_iff, beq_eq_false_iff_ne, not_and_or]

/-! ### REPEAT -/

/-- What a REPEAT of a peer is once heard, out of LISTENING and under no higher epoch (R107, R112, R118). -/
theorem State.Hears.receive_repeat {p : RepeatPayload} (hs : s.Hears h) (hseq : h.seq = 0#8)
    (horiginator : p.originator.toNat < 16) (hself : p.originator ≠ h.station) (hcourse : s.onCourse = true)
    (hepoch : ¬ s.epoch < h.epoch) :
    s.receive ⟨h, .askRepeat p⟩ =
      (s.heard h).content ⟨h, .askRepeat p⟩ true (decide (h.epoch < s.epoch)) := by
  have hform : Frame.wellFormed ⟨h, .askRepeat p⟩ = true := by
    have hstation : h.station.toNat < 16 := hs.2.2.1
    simp [Frame.wellFormed, Payload.sequenced, hseq, horiginator, hself, hstation, Config.stationCount]
  have hstate : (s.heard h).station.state ≠ .listening := State.onCourse_not_listening hcourse
  have hbook : (s.heard h).book h.station.toNat ⟨h, .askRepeat p⟩ = (s.heard h, true) := rfl
  have hstep : (s.heard h).epochStep ⟨h, .askRepeat p⟩ = (s.heard h, decide (h.epoch < s.epoch)) :=
    State.epochStep_same hstate hepoch
  rw [hs.receive_eq hform (fun b hb => nomatch hb), hbook]
  dsimp only
  rw [hstep]

/-- An answer offered to the Control List, where a list of six or a like entry leaves it out (R102), and the unit with
it. -/
theorem State.addControl_settled (e : ControlEntry) (hspeaking : t.speaking = true) :
    (t.addControl e).settleLine =
      { t with
        outbox :=
          { t.outbox with
            control :=
              if t.outbox.control.length < 6 ∧ t.outbox.control.any (fun x => x.same e) = false then
                t.outbox.control ++ [e]
              else t.outbox.control }
        line := { t.line with tx := t.waitIf true } } := by
  have hready : (t.addControl e).frameReady = true ∧ (t.addControl e).line = t.line ∧
      t.addControl e =
        { t with
          outbox :=
            { t.outbox with
              control :=
                if t.outbox.control.length < 6 ∧ t.outbox.control.any (fun x => x.same e) = false then
                  t.outbox.control ++ [e]
                else t.outbox.control } } := by
    by_cases hjoin : t.outbox.control.length < 6 ∧ t.outbox.control.any (fun x => x.same e) = false
    · have hadd : t.addControl e = { t with outbox := { t.outbox with control := t.outbox.control ++ [e] } } :=
        if_pos ⟨hspeaking, hjoin.1, by simpa using hjoin.2⟩
      rw [hadd, if_pos hjoin]
      exact ⟨by simp [State.frameReady], rfl, rfl⟩
    · have hadd : t.addControl e = t := if_neg fun hall => hjoin ⟨hall.2.1, by simpa using hall.2.2⟩
      have hcontrol : t.outbox.control ≠ [] := fun hnil => hjoin (by simp [hnil])
      rw [hadd, if_neg hjoin]
      exact ⟨by simp [State.frameReady, hcontrol], rfl, rfl⟩
  obtain ⟨hready, hline, hadd⟩ := hready
  rw [State.settleLine_eq, hready]
  simp only [hline, State.waitIf, State.startWaiting]
  rw [hadd]

/-- Settles O31: the answers to a REPEAT for this station's frames, the deadline an overheard one moves, and the older
epoch's. -/
theorem repeatsAreServedOrSuppress : Obligations.RepeatsAreServedOrSuppress := by
  refine ⟨fun s h p e hs hseq hspeaking hepoch hcourse howner hsettled => ?_,
    fun s h p hs hseq hcourse hepoch horiginator hself hother hsending hsettled hmissing => ?_,
    fun s h p hs hseq hcourse hepoch horiginator hself hsettled => ?_⟩
  · intro heard joined
    have hnumber : p.originator.toNat < 16 := by
      rw [howner, State.stationByte_toNat]
      exact s.config.stn.isLt
    have hnothigher : ¬ s.epoch < h.epoch := by
      rw [hepoch]
      exact BitVec.lt_irrefl _
    have hself : p.originator ≠ h.station := fun heq => hs.2.2.2.1 (heq.symm.trans howner)
    have hserve : exec (.receiveRepeat h p) s = .next ((heard.serve h.station p.seq).settleLine) := by
      refine congrArg (fun u : State => Host.Outcome.next u.settleLine) ?_
      rw [hs.receive_repeat hseq hnumber hself hcourse hnothigher, decide_eq_false (by rw [hepoch]; exact BitVec.lt_irrefl _)]
      exact if_pos howner
    have hspeaks : heard.speaking = true := hspeaking
    rw [hserve]
    refine ⟨fun hfind hsent => ?_, fun hfind hsent => ?_, fun hfind => ?_⟩
    · have hserved : heard.serve h.station p.seq = heard.addControl (.copy e.frame) := by
        unfold State.serve
        rw [if_pos hspeaks]
        simp only [show heard.outbox.ring.find? (fun e => e.frame.header.seq == p.seq) = some e from hfind, hsent, if_true]
      have hseq' : e.frame.header.seq = p.seq := by simpa using List.find?_some hfind
      rw [hserved, State.addControl_settled _ hspeaks]
      have hsame : (fun x : ControlEntry => x.same (.copy e.frame)) =
          (fun x => match x with
            | .copy f => f.header.seq == p.seq
            | .gone _ _ _ | .askRepeat _ _ => false) := by
        funext x
        cases x <;> simp [ControlEntry.same, hseq']
      rw [hsame]
      rfl
    · have hserved : heard.serve h.station p.seq = heard := by
        unfold State.serve
        rw [if_pos hspeaks]
        simp only [show heard.outbox.ring.find? (fun e => e.frame.header.seq == p.seq) = some e from hfind, hsent]
        rfl
      rw [hserved]
      exact congrArg Host.Outcome.next (State.settleLine_heard hsettled rfl rfl)
    · have hserved : heard.serve h.station p.seq = heard.addControl (.gone h.station p.seq heard.oldestRetained) := by
        unfold State.serve
        rw [if_pos hspeaks]
        simp only [show heard.outbox.ring.find? (fun e => e.frame.header.seq == p.seq) = none from hfind]
      rw [hserved, State.addControl_settled _ hspeaks]
      have hsame : (fun x : ControlEntry => x.same (.gone h.station p.seq heard.oldestRetained)) =
          (fun x => match x with
            | .gone r q _ => r == h.station && q == p.seq
            | .copy _ | .askRepeat _ _ => false) := by
        funext x
        cases x <;> rfl
      rw [hsame]
      rfl
  · have hnothigher : ¬ s.epoch < h.epoch := by
      rw [hepoch]
      exact BitVec.lt_irrefl _
    have hneq : p.originator.toNat ≠ h.station.toNat := fun heq => hself (BitVec.eq_of_toNat_eq heq)
    have hpeer : (s.heard h).peer p.originator.toNat = s.peer p.originator.toNat := State.heardAs_peer_other hneq _ _
    have hmisses : ((s.heard h).peer p.originator.toNat).misses p.seq = true := by
      rw [hpeer]
      simpa [Peer.misses] using hmissing
    have hlength : p.originator.toNat < (s.heard h).receiver.peers.length := by
      have : (s.heard h).receiver.peers.length = 16 := by
        simpa [State.heard, State.heardAs, Config.stationCount] using hs.2.1
      omega
    refine ⟨(s.heard h).suppress p |>.settleLine, ?_, ?_⟩
    · refine congrArg (fun u : State => Host.Outcome.next u.settleLine) ?_
      rw [hs.receive_repeat hseq horiginator hself hcourse hnothigher,
        decide_eq_false (by rw [hepoch]; exact BitVec.lt_irrefl _)]
      exact if_neg hother
    · have hsuppress : (s.heard h).suppress p = State.dropRepeats
          ((s.heard h).withMissing p.originator.toNat
            (changeEntry p.seq (fun x => { x with deadline := (s.heard h).now + Config.retrySpan })
              ((s.heard h).peer p.originator.toNat).missing))
          (fun o q => o == p.originator && q == p.seq) := if_pos hmisses
      have hcontrol := State.dropRepeats_control
        (s := (s.heard h).withMissing p.originator.toNat
          (changeEntry p.seq (fun x => { x with deadline := (s.heard h).now + Config.retrySpan })
            ((s.heard h).peer p.originator.toNat).missing))
        (test := fun o q => o == p.originator && q == p.seq) hsending
      rw [hsuppress, State.settleLine_eq]
      refine ⟨?_, hcontrol.trans (List.filter_congr fun e _ => keepsAllBut_iff _ _ e), rfl, rfl, rfl, rfl⟩
      refine (congrArg Peer.missing (State.peer_withPeer _ _ _ hlength)).trans ?_
      rw [hpeer]
      rfl
  · have hnothigher : ¬ s.epoch < h.epoch := BitVec.lt_asymm hepoch
    refine congrArg Host.Outcome.next ?_
    rw [hs.receive_repeat hseq horiginator hself hcourse hnothigher, decide_eq_true hepoch]
    exact (congrArg State.settleLine (if_pos rfl)).trans (State.settleLine_heard hsettled rfl rfl)

/-! ### This station's own number -/

/-- The station once it has heard its own number: the frame handed on, and E01 (R109). -/
def State.selfHeard (s : State) : State :=
  { s with
    line := { s.line with rx := .ignoring, complete := none }
    station := { s.station with errors := s.station.errors.put true .e01 }
    panel := { s.panel with tone := s.alarmed .e01 } }

/-- A frame with this station's own number, while it is not sending, silences it (R109). -/
theorem State.receive_own {f : Frame} (hreceives : s.receives = true) (hwf : f.wellFormed = true)
    (hown : f.header.station = s.stationByte) (hsending : s.sending = false) :
    s.receive f =
      s.selfHeard.silence := by
  have hsending' : s.frameHandedOn.sending = false := hsending
  unfold State.receive
  rw [if_pos hreceives]
  dsimp only
  rw [if_pos hwf, if_pos hown, State.ownNumber, if_neg (by simp [hsending']), State.raise_eq]
  rfl

/-- What silencing is in each state that it changes (R109, R152). -/
theorem State.silence_cases (s : State) :
    (s.station.state = .listening → s.silence = s.muteFromListening) ∧
    (s.station.state = .active → s.silence = s.muteFromActive) ∧
    (s.station.state = .closed → s.silence = s.stopSpeaking) ∧ (s.station.state = .mute → s.silence = s) := by
  unfold State.silence
  refine ⟨fun h => ?_, fun h => ?_, fun h => ?_, fun h => ?_⟩ <;> rw [h]

/-- A station in one of the receiving states receives. -/
theorem State.receives_of (h : s.station.state = .listening ∨ s.station.state = .active ∨ s.station.state = .mute ∨
    s.station.state = .closed) : s.receives = true := by
  unfold State.receives
  rcases h with h | h | h | h <;> rw [h]

/-- The end of LISTENING by a silencing error, before the close (R85, R152). -/
def State.muted (s : State) : State := (s.settleEpoch.enter .mute).releaseGate

/-- The whole state in MUTE after LISTENING. -/
theorem State.muted_eq (s : State) :
    s.muted =
      { s with
        epoch := if s.epoch = 0#16 then 1#16 else s.epoch
        gate :=
          { s.gate with
            capture := .armed, candidate := none, confirm := 0, holdoff := 0, blocked := 0
            firstSample := true }
        station := { s.station with state := .mute } } := by
  unfold State.muted State.settleEpoch
  split <;> rfl

/-- The close raises E10 beside the codes pending (R38). -/
theorem State.close_errors (s : State) : s.close.station.errors = s.station.errors.put true .e10 := by
  unfold State.close
  simp [State.append_queued, State.raise_eq, State.strayEntries]

/-- Settles O33: E01, and the silencing of each state. -/
theorem aDuplicateNumberSilences : Obligations.ADuplicateNumberSilences := by
  intro s f hwf hown hsending silent
  have hexec : ∀ t : State, s.receives = true → (s.selfHeard.silence).settleLine = t →
      exec (frameCommand f) s = .next t := by
    intro t hreceives ht
    rw [exec_frameCommand, State.receive_own hreceives hwf hown hsending, ht]
  refine ⟨fun hstate => hexec _ (State.receives_of (.inr (.inl hstate))) ?_,
    fun hstate => hexec _ (State.receives_of (.inr (.inr (.inr hstate)))) ?_,
    fun hstate htx => hexec _ (State.receives_of (.inr (.inr (.inl hstate)))) ?_, fun hstate htx => ?_⟩
  · rw [s.selfHeard.silence_cases.2.1 hstate, State.settleLine_not_idle (by simp [State.muteFromActive, State.stopSpeaking, State.enter])]
    rfl
  · rw [s.selfHeard.silence_cases.2.2.1 hstate, State.settleLine_not_idle (by simp [State.stopSpeaking])]
    rfl
  · rw [s.selfHeard.silence_cases.2.2.2 hstate, State.settleLine_not_idle (s := s.selfHeard) htx]
    rfl
  · intro epoch muted
    have hreceives := State.receives_of (.inl hstate)
    have hsilence : s.selfHeard.silence = muted.closeAtLimit := by
      refine (s.selfHeard.silence_cases.1 hstate).trans ?_
      exact congrArg State.closeAtLimit (State.muted_eq _)
    have hidle : muted.line.tx ≠ .idle := by
      show s.line.tx ≠ .idle
      simp [htx]
    refine ⟨fun htime => hexec _ hreceives ?_, fun htime hempty => ⟨muted.close, hexec _ hreceives ?_, ?_⟩⟩
    · have hstay : muted.closeAtLimit = muted := if_neg fun hall => htime hall.1
      rw [hsilence, hstay, State.settleLine_not_idle hidle]
    · have hclose : muted.closeAtLimit = muted.close := if_pos ⟨htime, .inr rfl⟩
      have hidle' : muted.close.line.tx ≠ .idle := by simpa using hidle
      rw [hsilence, hclose, State.settleLine_not_idle hidle']
    · have hclosed := muted.close_closedFrom
      have hspeaking : muted.close.speaking = false := by
        unfold State.speaking
        rw [hclosed.state]
        exact hclosed.speaking
      refine ⟨hclosed.state, hspeaking, ?_, hclosed.code, by simp; rfl, by simp, ?_⟩
      · rw [State.close_errors]
        exact (Bool.eq_iff_iff.1 rfl).2 rfl
      · refine (State.close_results muted hempty).trans ?_
        exact State.append_results (s := s) (t := muted) rfl rfl _

end

end Sys2Proof.Machine
end

section
/-! PROOFS. MISMATCH, and the losses that a GONE or a third attempt reports. -/

namespace Sys2Proof.Machine

section
variable {s t : State} {h : Header}

/-! ### MISMATCH -/

/-- What each answer of the receive checks does with a frame (R110, R112). -/
def State.checked (s : State) (f : Frame) : Check → State
  | .ignored => s
  | .mismatch => s.enterMismatch f.header.station.toNat
  | .accepted => s.accept f

/-- A frame of another station is handed on and checked (R98, R110). -/
theorem State.receive_checked {f : Frame} (hreceives : s.receives = true) (hwf : f.wellFormed = true)
    (hother : f.header.station ≠ s.stationByte) {c : Check}
    (hcheck : s.frameHandedOn.checkPeer f.header.station.toNat f.payload = c) :
    s.receive f = s.frameHandedOn.checked f c := by
  unfold State.receive
  rw [if_pos hreceives]
  dsimp only
  rw [if_pos hwf, if_neg hother, hcheck]
  cases c <;> rfl

/-- A peer that leaves MISMATCH is heard under no expected sequence (R110, R111). -/
theorem State.hear_rejoined (hmismatch : (s.peer h.station.toNat).presence = .mismatch)
    (hp : h.station.toNat < s.receiver.peers.length) :
    (s.frameHandedOn.leaveMismatch h.station.toNat).hear h.station.toNat =
      s.heardAs h none (s.peer h.station.toNat).missing := by
  have hleave : s.frameHandedOn.leaveMismatch h.station.toNat =
      s.frameHandedOn.withPeer h.station.toNat { s.peer h.station.toNat with expected := none } := if_pos hmismatch
  have hpeer : (s.frameHandedOn.withPeer h.station.toNat { s.peer h.station.toNat with expected := none }).peer
      h.station.toNat = { s.peer h.station.toNat with expected := none } :=
    State.peer_withPeer s.frameHandedOn _ _ hp
  rw [hleave, State.hear, hpeer, State.withPeer_withPeer]
  rfl

/-- A beacon whose time is not ahead leaves the Peer Table (R30, R113). -/
theorem State.beaconContent_peers {b : BeaconPayload} (f : Frame) (older : Bool)
    (htime : b.courseTime.toNat + 1 ≤ s.clock.courseTime ∨ 86400000 < b.courseTime.toNat) :
    (s.beaconContent f b older).receiver.peers = s.receiver.peers := by
  have hsame : (if b.courseTime.toNat ≤ Config.timeLimit then s.takeTime b.courseTime.toNat else s) = s := by
    rcases htime with hbehind | hlate
    · rw [State.takeTime, if_pos hbehind, ite_self]
    · exact if_neg (by simp only [Config.timeLimit]; omega)
  unfold State.beaconContent
  simp only [hsame]
  split
  · split
    · simp [State.snapshotBeacon]
    · rfl
  · rfl

/-- In MISMATCH only a FRESH beacon of the right gate count is accepted (R110). -/
theorem State.checkPeer_mismatch {p : Nat} {f : Payload} (hmismatch : (s.peer p).presence = .mismatch) :
    s.checkPeer p f = .ignored ∨
      ∃ b, f = .beacon b ∧ beaconFresh b = true ∧ b.gateCount.toNat = s.gates ∧ s.checkPeer p f = .accepted := by
  cases f with
  | beacon b =>
    by_cases hfresh : beaconFresh b = true ∧ b.gateCount.toNat = s.gates
    · exact .inr ⟨b, rfl, hfresh.1, hfresh.2, (if_pos hmismatch).trans (if_pos hfresh)⟩
    · exact .inl ((if_pos hmismatch).trans (if_neg hfresh))
  | start _ => exact .inl (if_pos hmismatch)
  | cross _ => exact .inl (if_pos hmismatch)
  | ruling _ => exact .inl (if_pos hmismatch)
  | session _ => exact .inl (if_pos hmismatch)
  | askRepeat _ => exact .inl (if_pos hmismatch)
  | gone _ => exact .inl (if_pos hmismatch)

/-- A station that does not follow the peer's gate count puts it in MISMATCH (R110). -/
theorem State.checkPeer_gates {p : Nat} {b : BeaconPayload} (hpresence : (s.peer p).presence ≠ .mismatch)
    (hgates : b.gateCount.toNat ≠ s.gates) : s.checkPeer p (.beacon b) = .mismatch :=
  (if_neg hpresence).trans (if_neg hgates)

/-- The first sequences of a peer that has restarted, in an empty list (R116). -/
theorem State.found_restart {p : Nat} (hmissing : (s.peer p).missing = []) {count : Nat} :
    s.found p (sequencesFrom 0#8 count) =
      (List.range (min 8 count)).map (fun i => ⟨BitVec.ofNat 8 i, 0, s.now + (20 + 5 * s.number)⟩) := by
  have hdeadline : s.firstDeadline = s.now + (20 + 5 * s.number) := by simp [State.firstDeadline, Nat.add_assoc]
  simp [State.found, hmissing, unlisted_nil, sequencesFrom, ← List.map_take, List.take_range, hdeadline]

/-- A peer's entry once sequences are listed under its expected sequence: those left over are lost (R115). -/
theorem State.listAll_peer {p : Nat} (hp : p < s.receiver.peers.length) {qs : List Byte} (hnodup : qs.Nodup) :
    (s.listAll p qs).peer p = { s.peer p with missing := s.found p qs } := by
  rw [State.listAll_eq s p hnodup, State.loseAll_peer, if_pos rfl]
  have hpeer : (s.withMissing p (s.found p qs)).peer p = { s.peer p with missing := s.found p qs } :=
    State.peer_withPeer s p _ hp
  rw [hpeer]
  refine congrArg (fun l => { s.peer p with missing := l }) (List.filter_eq_self.2 fun m hm => ?_)
  have hnot := State.leftOver_not_found hnodup hm
  simp only [List.contains_eq_mem, hnot, decide_false, Bool.not_false]

/-- A peer that restarts with nothing missing: its entry after a FRESH beacon under no expected sequence (R116). -/
theorem State.bookBeacon_restart {p : Nat} (hp : p < s.receiver.peers.length) (hmissing : (s.peer p).missing = [])
    (hexpected : (s.peer p).expected = none) {b : BeaconPayload} (hfresh : beaconFresh b = true) :
    (s.bookBeacon p b).peer p =
      { s.peer p with
        expected := some (if b.flags.getLsbD 3 = true then 0#8 else b.lastSeq + 1)
        missing :=
          if b.flags.getLsbD 3 = true then []
          else
            (List.range (min 8 (b.lastSeq.toNat + 1))).map
              (fun i => ⟨BitVec.ofNat 8 i, 0, s.now + (20 + 5 * s.number)⟩) } := by
  have hnone : s.loseEntries p = s := by simp [State.loseEntries, hmissing]
  have hadvance : ∀ e, (s.advance p [] e).peer p = { s.peer p with expected := some e, missing := [] } := fun e => by
    rw [State.advance_nil hmissing]
    exact State.peer_withPeer s p _ hp
  unfold State.bookBeacon beaconLastSequence
  by_cases hsent : b.flags.getLsbD 3 = true
  · simp only [hsent, if_true, hfresh, hnone, hadvance]
  · simp only [hsent, if_false, hfresh, hnone, hexpected, true_and, ne_eq, reduceCtorEq, not_false_eq_true, if_true]
    have hlength : p < (s.advance p [] (b.lastSeq + 1)).receiver.peers.length := by
      rw [State.advance_nil hmissing]
      simpa [State.withPeer] using hp
    have hframe : (s.advance p [] (b.lastSeq + 1)).now = s.now ∧
        (s.advance p [] (b.lastSeq + 1)).number = s.number := by simp
    rw [State.listAll_peer hlength (sequencesFrom_nodup _ (by have := b.lastSeq.isLt; omega)),
      State.found_restart (by rw [hadvance]), hadvance, hframe.1, hframe.2]

/-- Settles O34: each check's answer, the entry into MISMATCH, and the booking of the beacon that leaves it. -/
theorem framesThatAreNotAccepted : Obligations.FramesThatAreNotAccepted := by
  intro s f b hwf hother hlength p handedOn
  have hp : p < s.receiver.peers.length := by
    have hstation : f.header.station.toNat < 16 := by
      simp only [Frame.wellFormed, Bool.and_eq_true, decide_eq_true_eq] at hwf
      exact hwf.1.1
    omega
  have hsettle : s.LineSettled → handedOn.LineSettled := fun hs => hs.congr id rfl
  refine ⟨fun hreceives hpayload hgates hpresence hsettled => ?_, fun hreceives hmismatch hsettled hnot => ?_,
    fun hreceives hmismatch hmissing hpayload hfresh hgates htime => ?_, fun hreceives hsettled => ?_⟩
  · have hcheck : s.frameHandedOn.checkPeer p f.payload = .mismatch := by
      rw [hpayload]
      exact State.checkPeer_gates (s := s.frameHandedOn) hpresence hgates
    rw [exec_frameCommand, State.receive_checked hreceives hwf hother hcheck]
    have henter : s.frameHandedOn.enterMismatch p =
        State.dropRepeats
          { handedOn with
            receiver :=
              { peers := s.receiver.peers.set p ⟨.mismatch, (s.peer p).lastHeard, none, none, []⟩
                snapshot := if p = 0 then ⟨false, 0, 0⟩ else s.receiver.snapshot }
            station := { s.station with errors := s.station.errors.put true .e04 }
            panel := { s.panel with tone := s.alarmed .e04 } }
          (fun o _ => o.toNat == p) := by
      unfold State.enterMismatch
      rw [State.raise_eq]
      by_cases hzero : p = 0
      · simp only [if_pos hzero]
        rfl
      · simp only [if_neg hzero]
        rfl
    refine congrArg Host.Outcome.next ?_
    rw [State.checked, henter]
    exact State.settleLine_settled _ (State.LineSettled.dropRepeats (hsettled.congr id rfl) _)
  · rw [exec_frameCommand]
    rcases State.checkPeer_mismatch (s := s.frameHandedOn) (p := p) (f := f.payload) hmismatch with
      hignored | ⟨c, hpayload, hfresh, hgates, -⟩
    · rw [State.receive_checked hreceives hwf hother hignored]
      exact congrArg Host.Outcome.next (State.settleLine_settled _ (hsettle hsettled))
    · rcases hnot c hpayload with hold | hcount
      · exact absurd (hfresh.symm.trans hold) (by simp)
      · exact absurd hgates hcount
  · have hcheck : s.frameHandedOn.checkPeer p f.payload = .accepted := by
      rw [hpayload]
      exact (if_pos (show (s.frameHandedOn.peer p).presence = .mismatch from hmismatch)).trans
        (if_pos ⟨hfresh, hgates⟩)
    refine ⟨_, exec_frameCommand s f, ?_⟩
    rw [State.receive_checked hreceives hwf hother hcheck, State.settleLine_eq]
    have hjoined := State.hear_rejoined (h := f.header) hmismatch hp
    have hpeer : (s.heardAs f.header none (s.peer p).missing).peer p =
        ⟨.present, s.clock.courseTime, some (s.now + 1000), none, (s.peer p).missing⟩ :=
      State.peer_withPeer s p _ hp
    have hlength' : p < (s.heardAs f.header none (s.peer p).missing).receiver.peers.length := by
      simpa [State.heardAs] using hp
    have hbook := State.bookBeacon_restart hlength' (by rw [hpeer, hmissing]) (by rw [hpeer]) hfresh
    have haccept : s.frameHandedOn.accept f =
        State.beaconContent
          (((s.heardAs f.header none (s.peer p).missing).bookBeacon p b).epochStep f).1 f b
          (((s.heardAs f.header none (s.peer p).missing).bookBeacon p b).epochStep f).2 := by
      unfold State.accept
      dsimp only
      rw [hjoined]
      unfold State.book State.content
      rw [hpayload]
    have hpeers : (s.frameHandedOn.accept f).receiver.peers =
        ((s.heardAs f.header none (s.peer p).missing).bookBeacon p b).receiver.peers := by
      rw [haccept, State.beaconContent_peers f _ (by simpa [State.heardAs] using htime)]
      simp
    have hresult : (s.frameHandedOn.accept f).peer p =
        ((s.heardAs f.header none (s.peer p).missing).bookBeacon p b).peer p := by
      rw [State.peer, hpeers]
      rfl
    refine hresult.trans (hbook.trans ?_)
    rw [hpeer]
    rfl
  · rw [exec_frameCommand]
    have hstay : s.receive f = s := if_neg (by simp [hreceives])
    rw [hstay, State.settleLine_settled s hsettled]

end

end Sys2Proof.Machine
end

section
/-! PROOFS. The losses that a GONE or a third attempt reports, and the retries before them. -/

namespace Sys2Proof.Machine

section
variable {s t : State} {h : Header}

/-! ### One loss, whole -/

/-- A loss before HELD is looked at, as one state (R121). -/
theorem State.lossReported_eq (s : State) (p : Nat) (q : Byte) :
    s.lossReported p q =
      { s.dropMissing p q with
        station := { s.station with errors := s.station.errors.put true .e05 }
        panel := { s.panel with tone := s.alarmed .e05 } }.appended (lossContents p q) := by
  unfold State.lossReported
  rw [State.raise_eq, State.append_queued, State.appended_queued]
  rfl

/-- With an empty Control List only the Missing List loses a sequence (R120). -/
theorem State.dropMissing_empty (hcontrol : s.outbox.control = []) (p : Nat) (q : Byte) :
    s.dropMissing p q =
      s.withPeer p { s.peer p with missing := (s.peer p).missing.filter (fun m => m.seq != q) } := by
  have hdrop : ∀ (u : State) (test : Byte → Byte → Bool), u.outbox.control = [] → u.dropRepeats test = u := by
    intro u test hu
    unfold State.dropRepeats
    simp only [hu, List.take_nil, List.drop_nil, List.filter_nil, List.append_nil]
    rw [← hu]
  exact hdrop _ _ hcontrol

/-- The loss of a peer's only missing sequence, the peer not station 0 (R121). -/
theorem State.lose_only {p : Nat} {m : MissingEntry} (hp : p ≠ 0) (hcontrol : s.outbox.control = [])
    (hmissing : (s.peer p).missing = [m]) :
    s.lose p m.seq =
      { s.withPeer p { s.peer p with missing := [] } with
        station := { s.station with errors := s.station.errors.put true .e05 }
        panel := { s.panel with tone := s.alarmed .e05 } }.appended (lossContents p m.seq) := by
  have hnone : (s.peer p).missing.filter (fun x => x.seq != m.seq) = [] := by simp [hmissing]
  have hlose : s.lose p m.seq = s.lossReported p m.seq := if_neg hp
  rw [hlose, State.lossReported_eq, State.dropMissing_empty hcontrol, hnone]

/-! ### GONE -/

/-- What a GONE of a peer is once heard, out of LISTENING and under no higher epoch (R112, R119). -/
theorem State.Hears.receive_gone {g : GonePayload} (hs : s.Hears h) (hseq : h.seq = 0#8)
    (hrequester : g.requester.toNat < 16) (hself : g.requester ≠ h.station) (hcourse : s.onCourse = true)
    (hepoch : ¬ s.epoch < h.epoch) :
    s.receive ⟨h, .gone g⟩ =
      if h.epoch < s.epoch then s.heard h else (s.heard h).takeGone h.station.toNat g := by
  have hform : Frame.wellFormed ⟨h, .gone g⟩ = true := by
    have hstation : h.station.toNat < 16 := hs.2.2.1
    simp [Frame.wellFormed, Payload.sequenced, hseq, hrequester, hself, hstation, Config.stationCount]
  have hstate : (s.heard h).station.state ≠ .listening := State.onCourse_not_listening hcourse
  have hbook : (s.heard h).book h.station.toNat ⟨h, .gone g⟩ = (s.heard h, true) := rfl
  have hstep : (s.heard h).epochStep ⟨h, .gone g⟩ = (s.heard h, decide (h.epoch < s.epoch)) :=
    State.epochStep_same hstate hepoch
  rw [hs.receive_eq hform (fun b hb => nomatch hb), hbook]
  dsimp only
  rw [hstep]
  simp [State.content]

/-! ### Retries -/

/-- The end of an entry's deadline, one attempt or the loss (R117). -/
theorem exec_retryDeadline (p : Fin 16) (q : Byte) :
    exec (.retryDeadline p q) s = .next (s.retryOne p.val q).settleLine := rfl

/-- A peer's only missing sequence, its deadline ahead or reached (R117). -/
theorem State.retryOne_only {p : Nat} {m : MissingEntry} (hmissing : (s.peer p).missing = [m]) :
    s.retryOne p m.seq = if m.deadline ≤ s.now then s.retry p m else s := by
  unfold State.retryOne State.retryDue
  rw [hmissing]
  by_cases hdue : m.deadline ≤ s.now
  · simp [hdue]
  · simp [hdue]

/-- An attempt of a peer's only missing sequence (R117). -/
theorem State.retry_only {p : Nat} {m : MissingEntry} (hmissing : (s.peer p).missing = [m])
    (hattempts : m.attempts < 3) :
    s.retry p m =
      (s.withPeer p
        { s.peer p with missing := [⟨m.seq, m.attempts + 1, s.now + 100⟩] }).addControl
        (.askRepeat (BitVec.ofNat 8 p) m.seq) := by
  unfold State.retry
  rw [if_pos hattempts, hmissing]
  simp [changeEntry, State.withMissing, Config.retrySpan]

/-- The losses that a GONE declares (R119). -/
def State.goneSequences (s : State) (p : Nat) (g : GonePayload) : List Byte :=
  ((s.peer p).missing.filter fun m =>
    m.seq == g.requested || decide (1 ≤ (g.oldest - m.seq).toNat ∧ (g.oldest - m.seq).toNat ≤ 127)).map fun m => m.seq

/-- A GONE's declarations are losses (R119). -/
theorem State.takeGone_eq (s : State) (p : Nat) (g : GonePayload) :
    s.takeGone p g = s.loseAll p (s.goneSequences p g) := by
  unfold State.takeGone State.goneSequences
  simp only [Bool.decide_and]

/-- The Control List after losses, with no frame on the line (R120). -/
theorem State.loseAll_control {p : Nat} : ∀ (lost : List Byte) {s : State}, s.sending = false →
    (s.loseAll p lost).outbox.control =
      s.outbox.control.filter fun e =>
        match e with
        | .askRepeat o q => !(o.toNat == p && lost.contains q)
        | .copy _ | .gone _ _ _ => true
  | [], s, _ => by
    refine (List.filter_eq_self.2 fun e _ => ?_).symm
    cases e <;> simp
  | q :: qs, s, hsending => by
    have hone : (s.lose p q).outbox.control = _ :=
      (s.lose_reported p q).2.2.trans
        (State.dropRepeats_control (s := s.withMissing p ((s.peer p).missing.filter (fun m => m.seq != q)))
          (test := fun o r => o.toNat == p && r == q) hsending)
    refine (State.loseAll_control qs (s := s.lose p q) (by simpa using hsending)).trans ?_
    rw [hone, List.filter_filter]
    refine List.filter_congr fun e _ => ?_
    cases e with
    | copy f => rfl
    | gone r q' o => rfl
    | askRepeat o q' =>
      by_cases ho : o.toNat = p
      · by_cases hq : q' = q
        · simp [ho, hq]
        · simp [ho, hq]
      · have ho' : (o.toNat == p) = false := by simpa using ho
        simp [ho']

/-- Losses of station 0 while HELD is set leave it set, and its boundary where it is reached already (R75). -/
theorem State.loseAll_raised : ∀ {lost : List Byte} {s : State}, s.assign.held = true →
    max s.highestKnown s.receiver.snapshot.highest + 1 ≤ s.assign.boundary →
    (s.loseAll 0 lost).assign.held = true ∧ (s.loseAll 0 lost).assign.boundary = s.assign.boundary
  | [], _, hheld, _ => ⟨hheld, rfl⟩
  | q :: qs, s, hheld, hboundary => by
    have hassign := s.lose_assign 0 q
    have hsame : (s.lose 0 q).assign = s.assign := by
      rw [hassign, State.lossAssign]
      by_cases hcase : 0 = 0 ∧ s.isAssigner = true ∧ s.onCourse = true
      · rw [if_pos hcase, if_pos hheld, max_eq_left hboundary]
      · rw [if_neg hcase]
    have hrest := State.loseAll_raised (lost := qs) (s := s.lose 0 q) (by rw [hsame]; exact hheld)
      (by rw [hsame]; simpa [State.highestKnown] using hboundary)
    rw [hsame] at hrest
    exact hrest

/-- Losses of station 0 that set HELD: the first sets it and takes the entries that wait, the rest leave it
(R75, R121). -/
theorem State.loseAll_held {lost : List Byte} (hassigner : s.isAssigner = true) (hcourse : s.onCourse = true)
    (hheld : s.assign.held = false) (hlost : lost ≠ []) :
    (s.loseAll 0 lost).assign.held = true ∧ (s.loseAll 0 lost).assign.entries = [] ∧
      (s.loseAll 0 lost).assign.boundary = max s.highestKnown s.receiver.snapshot.highest + 1 ∧
      (s.loseAll 0 lost).results =
        ((lost.drop 1).foldl (fun u y => u.append (lossContents 0 y))
          (((lost.take 1).foldl (fun u y => u.append (lossContents 0 y)) s).strays .held s.assign.entries)).results := by
  obtain ⟨q, qs, rfl⟩ := List.exists_cons_of_ne_nil hlost
  have hfirst := s.lose_assign 0 q
  rw [State.lossAssign, if_pos ⟨rfl, hassigner, hcourse⟩, if_neg (by simp [hheld])] at hfirst
  have hqueue := s.lose_results 0 q
  rw [if_pos ⟨rfl, hassigner, hcourse, hheld⟩] at hqueue
  have hunmoved : (s.lose 0 q).Unmoved 0 := .inr (.inr (.inr (by rw [hfirst])))
  obtain ⟨hresults, hentries⟩ := hunmoved.loseAll qs
  have hrest := State.loseAll_raised (lost := qs) (s := s.lose 0 q) (by rw [hfirst])
    (by rw [hfirst]; simp [State.highestKnown])
  refine ⟨hrest.1, hentries.trans (by rw [hfirst]), hrest.2.trans (by rw [hfirst]), hresults.trans ?_⟩
  exact foldl_loss_results 0 qs hqueue (by simp)

/-- A Missing List whose sequences are distinct gives one entry for a sequence. -/
theorem find_due {l : List MissingEntry} (hnodup : (l.map (fun m => m.seq)).Nodup) {q : Byte} {now : Nat}
    {m : MissingEntry} (h : l.find? (fun m => m.seq == q && decide (m.deadline ≤ now)) = some m) :
    m ∈ l ∧ m.seq = q ∧ m.deadline ≤ now ∧ ∀ x ∈ l, x.seq = q → x = m := by
  have hmem := List.mem_of_find?_eq_some h
  have hm := List.find?_some h
  simp only [Bool.and_eq_true, beq_iff_eq, decide_eq_true_eq] at hm
  obtain ⟨hq, hdue⟩ := hm
  exact ⟨hmem, hq, hdue, fun x hx hxq => List.inj_on_of_nodup_map hnodup hx hmem (hxq.trans hq.symm)⟩

/-- A list after the end of a sequence's deadline: its entry lost after three attempts, and tried again before
(R117). -/
def afterDeadline (l : List MissingEntry) (q : Byte) (now : Nat) : List MissingEntry :=
  (l.filter (fun m => !(m.seq == q && decide (m.deadline ≤ now) && decide (3 ≤ m.attempts)))).map
    (fun m => if m.seq = q ∧ m.deadline ≤ now then { m with attempts := m.attempts + 1, deadline := now + 100 } else m)

/-- Where no entry of the sequence is due the list stays. -/
theorem afterDeadline_quiet {l : List MissingEntry} {q : Byte} {now : Nat}
    (h : ∀ x ∈ l, x.seq = q → ¬ x.deadline ≤ now) : afterDeadline l q now = l := by
  have hkept : l.filter (fun m => !(m.seq == q && decide (m.deadline ≤ now) && decide (3 ≤ m.attempts))) = l :=
    List.filter_eq_self.2 fun x hx => by
      by_cases hq : x.seq = q
      · simp [hq, h x hx hq]
      · simp [hq]
  unfold afterDeadline
  rw [hkept]
  conv_rhs => rw [← List.map_id l]
  exact List.map_congr_left fun x hx => if_neg fun hall => h x hx hall.1 hall.2

/-- Where the only entry of the sequence is due, fewer than three attempts try again. -/
theorem afterDeadline_again {l : List MissingEntry} {q : Byte} {now : Nat} {m : MissingEntry}
    (hdue : m.deadline ≤ now) (honly : ∀ x ∈ l, x.seq = q → x = m) (hattempts : m.attempts < 3) :
    afterDeadline l q now =
      changeEntry q (fun x => { x with attempts := x.attempts + 1, deadline := now + 100 }) l := by
  have hkept : l.filter (fun m => !(m.seq == q && decide (m.deadline ≤ now) && decide (3 ≤ m.attempts))) = l :=
    List.filter_eq_self.2 fun x hx => by
      by_cases hq : x.seq = q
      · have hfew : ¬ 3 ≤ x.attempts := by
          rw [honly x hx hq]
          omega
        simp [hfew]
      · simp [hq]
  unfold afterDeadline changeEntry
  rw [hkept]
  refine List.map_congr_left fun x hx => ?_
  by_cases hq : x.seq = q
  · rw [if_pos ⟨hq, by rw [honly x hx hq]; exact hdue⟩, if_pos hq]
  · rw [if_neg fun hall => hq hall.1, if_neg hq]

/-- Where the only entry of the sequence is due, three attempts lose it. -/
theorem afterDeadline_lost {l : List MissingEntry} {q : Byte} {now : Nat} {m : MissingEntry}
    (hdue : m.deadline ≤ now) (honly : ∀ x ∈ l, x.seq = q → x = m) (hattempts : ¬ m.attempts < 3) :
    afterDeadline l q now = l.filter (fun x => !([q].contains x.seq)) := by
  have hkept : l.filter (fun m => !(m.seq == q && decide (m.deadline ≤ now) && decide (3 ≤ m.attempts))) =
      l.filter (fun x => !([q].contains x.seq)) :=
    List.filter_congr fun x hx => by
      by_cases hq : x.seq = q
      · have hall : x.deadline ≤ now ∧ 3 ≤ x.attempts := by
          rw [honly x hx hq]
          exact ⟨hdue, by omega⟩
        simp [hq, hall]
      · simp [hq]
  unfold afterDeadline
  rw [hkept]
  conv_rhs => rw [← List.map_id (l.filter (fun x => !([q].contains x.seq)))]
  refine List.map_congr_left fun x hx => if_neg fun hall => ?_
  have := (List.mem_filter.1 hx).2
  simp [hall.1] at this

/-- Settles O32: one loss whole, the first loss of station 0, a GONE's losses, and what a deadline does to the list. -/
theorem lostSequencesAreReported : Obligations.LostSequencesAreReported := by
  refine ⟨fun s h g p m hlength hcontrol hsettled hp hmissing => ?_,
    fun s m hlength hcontrol hsettled hassigner hcourse hmissing hdue hattempts => ?_,
    fun s h g hs hseq hcourse hepoch hrequester hself hsettled => ?_,
    fun s h g hs hseq hcourse hepoch hrequester hself => ?_, fun s p q hlength hnodup => ?_⟩
  · intro lost without
    have hsettle : ∀ u : State, u.outbox = s.outbox → u.line = s.line → u.settleLine = u :=
      fun u => State.settleLine_same hsettled
    refine ⟨fun hs hseq hstation hrequester hself hcourse hepoch hrequested => ?_, fun hahead => ?_,
      fun hdue hattempts => ?_, fun hdue hattempts hspeaking => ?_, fun hdue hattempts hspeaking => ?_⟩
    · refine congrArg Host.Outcome.next ?_
      have hnot : ¬ s.epoch < h.epoch ∧ ¬ h.epoch < s.epoch := by
        rw [hepoch]
        exact ⟨BitVec.lt_irrefl _, BitVec.lt_irrefl _⟩
      have hpeer : (s.heard h).peer p.val = ⟨.present, s.clock.courseTime, some (s.now + 1000),
          (s.peer p.val).expected, [m]⟩ := by
        rw [State.heard, ← hstation, hs.heardAs_peer, hstation, hmissing]
      have hgone : (s.heard h).goneSequences p.val g = [m.seq] := by
        simp [State.goneSequences, hpeer, hrequested]
      rw [hs.receive_gone hseq hrequester hself hcourse hnot.1, if_neg hnot.2, State.takeGone_eq, hstation, hgone]
      have hlose := State.lose_only (s := s.heard h) hp hcontrol (by rw [hpeer])
      refine (congrArg State.settleLine hlose).trans ?_
      have hheard : (s.heard h).withPeer p.val { (s.heard h).peer p.val with missing := [] } =
          s.heardAs h (s.peer p.val).expected [] := by
        rw [hpeer]
        simp [State.withPeer, State.heard, State.heardAs, hstation]
      rw [hheard]
      exact State.settleLine_heard hsettled rfl rfl
    · rw [exec_retryDeadline, State.retryOne_only hmissing, if_neg (by omega), hsettle s rfl rfl]
    · rw [exec_retryDeadline, State.retryOne_only hmissing, if_pos hdue]
      have hretry : s.retry p.val m = s.lose p.val m.seq := if_neg (by omega)
      rw [hretry, State.lose_only hp hcontrol hmissing, hsettle _ (by rfl) (by rfl)]
      rfl
    · rw [exec_retryDeadline, State.retryOne_only hmissing, if_pos hdue, State.retry_only hmissing hattempts,
        State.addControl_settled _ (by exact hspeaking)]
      simp only [State.withPeer, hcontrol]
      rfl
    · have hquiet : ∀ (u : State) (e : ControlEntry), u.speaking = false → u.addControl e = u := fun u e hu =>
        if_neg fun hall => by simp [hu] at hall
      rw [exec_retryDeadline, State.retryOne_only hmissing, if_pos hdue, State.retry_only hmissing hattempts,
        hquiet _ _ (by exact hspeaking), hsettle _ (by rfl) (by rfl)]
      rfl
  · have hretry : s.retryOne 0 m.seq = s.lose 0 m.seq := by
      rw [State.retryOne_only hmissing, if_pos hdue]
      exact if_neg (by omega)
    have hassign := s.lose_assign 0 m.seq
    have hqueue := s.lose_results 0 m.seq
    obtain ⟨herrors, hpeers, -⟩ := s.lose_reported 0 m.seq
    have hpeer : ((s.lose 0 m.seq).peer 0).missing = [] := by
      have := s.dropMissing_peer 0 0 m.seq
      rw [if_pos rfl] at this
      rw [State.peer, hpeers]
      refine (congrArg Peer.missing this).trans ?_
      simp [Peer.without, hmissing]
    refine ⟨(s.lose 0 m.seq).settleLine, by rw [← hretry]; rfl, ?_⟩
    rw [State.settleLine_eq]
    refine ⟨?_, fun hheld => ?_, fun hheld => ?_, by simp, by simp, hpeer, herrors⟩
    · show (s.lose 0 m.seq).assign.held = true
      rw [hassign, State.lossAssign, if_pos ⟨rfl, hassigner, hcourse⟩]
      split
      · assumption
      · rfl
    · rw [State.lossAssign, if_pos ⟨rfl, hassigner, hcourse⟩, if_neg (by simp [hheld])] at hassign
      rw [if_pos ⟨rfl, hassigner, hcourse, hheld⟩] at hqueue
      exact ⟨congrArg Assign.boundary hassign, congrArg Assign.entries hassign, hqueue⟩
    · rw [State.lossAssign, if_pos ⟨rfl, hassigner, hcourse⟩, if_pos hheld] at hassign
      rw [if_neg (by simp [hheld])] at hqueue
      exact ⟨congrArg Assign.boundary hassign, hqueue⟩
  · refine congrArg Host.Outcome.next ?_
    rw [hs.receive_gone hseq hrequester hself hcourse (BitVec.lt_asymm hepoch), if_pos hepoch]
    exact State.settleLine_heard hsettled rfl rfl
  · intro p gone lost loss
    have hnot : ¬ s.epoch < h.epoch ∧ ¬ h.epoch < s.epoch := by
      rw [hepoch]
      exact ⟨BitVec.lt_irrefl _, BitVec.lt_irrefl _⟩
    have hpeer : (s.heard h).peer p = ⟨.present, s.clock.courseTime, some (s.now + 1000), (s.peer p).expected,
        (s.peer p).missing⟩ := hs.heardAs_peer _ _
    have hgone : (s.heard h).goneSequences p g = lost := by
      rw [State.goneSequences, hpeer]
    have hqueue := foldl_loss_results (t := s.heard h) (s := s) p
    refine ⟨((s.heard h).loseAll p lost).settleLine, ?_, ?_⟩
    · refine congrArg (fun u : State => Host.Outcome.next u.settleLine) ?_
      rw [hs.receive_gone hseq hrequester hself hcourse hnot.1, if_neg hnot.2, State.takeGone_eq, hgone]
    rw [State.settleLine_eq]
    refine ⟨?_, State.loseAll_errors _ _ _, fun hsending => ?_, fun hunmoved => ?_, fun hp0 hassigner hheld hlost => ?_,
      by simp; rfl, by simp; rfl⟩
    · refine (congrArg Peer.missing (State.loseAll_peer p p lost (s.heard h))).trans ?_
      rw [if_pos rfl, hpeer]
      refine List.filter_congr fun m hm => congrArg Bool.not ?_
      rw [Bool.eq_iff_iff, List.contains_iff_mem]
      refine ⟨fun hmem => ?_, fun hgm => List.mem_map_of_mem (List.mem_filter.2 ⟨hm, hgm⟩)⟩
      obtain ⟨m', hm', heq⟩ := List.mem_map.1 hmem
      have := (List.mem_filter.1 hm').2
      simp only [gone, heq] at this ⊢
      exact this
    · refine (State.loseAll_control (p := p) lost (s := s.heard h) hsending).trans ?_
      refine List.filter_congr fun e _ => ?_
      cases e with
      | copy f => simp
      | gone r q o => simp
      | askRepeat o q =>
        have hstation : o.toNat = p ↔ o = h.station := (BitVec.toNat_inj (x := o) (y := h.station))
        refine congrArg Bool.not ?_
        rw [Bool.eq_iff_iff]
        simp [hstation, and_comm]
    · by_cases hlost : lost = []
      · rw [hlost]
        exact ⟨rfl, rfl⟩
      · have hu : (s.heard h).Unmoved p := by
          rcases hunmoved with hp0 | hassigner | hheld | hnone
          · exact .inl hp0
          · exact .inr (.inl hassigner)
          · exact .inr (.inr (.inr hheld))
          · exact absurd hnone hlost
        obtain ⟨hresults, hentries⟩ := hu.loseAll lost
        exact ⟨hresults.trans (hqueue lost rfl rfl), hentries⟩
    · obtain ⟨hset, hentries, hboundary, hresults⟩ :=
        State.loseAll_held (s := s.heard h) (lost := lost) hassigner hcourse hheld hlost
      have hfirst := foldl_loss_results (t := s.heard h) (s := s) 0 (lost.take 1) rfl rfl
      have hclock : ∀ (l : List Byte) (u : State),
          (l.foldl (fun v y => v.append (lossContents 0 y)) u).clock = u.clock := by
        intro l
        induction l with
        | nil => exact fun _ => rfl
        | cons y ys ih => exact fun u => (ih _).trans (by simp)
      have hall := foldl_loss_results 0 (lost.drop 1)
        (State.strays_results hfirst (by rw [hclock, hclock]; rfl) .held s.assign.entries)
        (by simp [hclock]; rfl)
      have hresults' := hresults.trans hall
      rw [← hp0] at hset hentries hboundary hresults'
      exact ⟨hset, hentries, hboundary, hresults'⟩
  · refine ⟨_, exec_retryDeadline p q, ?_⟩
    rw [State.settleLine_eq]
    have hp : p.val < s.receiver.peers.length := by
      have := p.isLt
      omega
    have hnone : s.retryDue p.val q = none → s.retryOne p.val q = s := fun h => by
      unfold State.retryOne
      rw [h]
    cases hfind : s.retryDue p.val q with
    | none =>
      have hquiet : ∀ x ∈ (s.peer p.val).missing, x.seq = q → ¬ x.deadline ≤ s.now := fun x hx hxq => by
        simpa [hxq] using List.find?_eq_none.1 hfind x hx
      rw [hnone hfind]
      exact ⟨(afterDeadline_quiet hquiet).symm, fun _ => ⟨rfl, rfl, rfl⟩, rfl, rfl⟩
    | some m =>
      obtain ⟨hm, hmq, hdue, honly⟩ := find_due hnodup hfind
      have hretry : s.retryOne p.val q = s.retry p.val m := by
        unfold State.retryOne
        rw [hfind]
      rw [hretry]
      by_cases hattempts : m.attempts < 3
      · have htry : s.retry p.val m =
            (s.withMissing p.val
              (changeEntry m.seq (fun x => { x with attempts := x.attempts + 1, deadline := s.now + 100 })
                (s.peer p.val).missing)).addControl (.askRepeat (BitVec.ofNat 8 p.val) m.seq) := if_pos hattempts
        have hpeers : (s.retry p.val m).receiver = (s.withMissing p.val
            (changeEntry m.seq (fun x => { x with attempts := x.attempts + 1, deadline := s.now + 100 })
              (s.peer p.val).missing)).receiver := by
          rw [htry]
          unfold State.addControl
          split <;> rfl
        have hpeer : (s.retry p.val m).peer p.val = _ := (by rw [State.peer, hpeers]; rfl :
          (s.retry p.val m).peer p.val = _).trans (State.peer_withPeer s p.val _ hp)
        refine ⟨?_, fun _ => by rw [htry]; exact ⟨by simp, by simp, by simp⟩, by simp, by simp⟩
        refine (congrArg Peer.missing hpeer).trans ?_
        rw [hmq]
        exact (afterDeadline_again hdue honly hattempts).symm
      · have hlose : s.retry p.val m = s.lose p.val m.seq := if_neg hattempts
        have hpeer : (s.lose p.val m.seq).peer p.val = (s.peer p.val).without [m.seq] := by
          have hdropped := s.dropMissing_peer p.val p.val m.seq
          rw [if_pos rfl] at hdropped
          rw [State.peer, (s.lose_reported p.val m.seq).2.1]
          exact hdropped
        rw [hlose]
        refine ⟨?_, fun hfew => absurd (hfew m hm hmq hdue) hattempts, by simp, by simp⟩
        refine (congrArg Peer.missing hpeer).trans ?_
        rw [hmq]
        exact (afterDeadline_lost hdue honly hattempts).symm

end

end Sys2Proof.Machine
end

section
/-! PROOFS. The matching walk, crossing by crossing: what it reads of the station, its steps, the Run Table's notice
that starts it, and a START that gives a waiting crossing its run. -/

namespace Sys2Proof.Machine

section
variable {s t : State} {h : Header} {e : PendingEntry} {r : RunRecord} {start : Nat}

/-! ### A fact and the Pending Crossing List

No operation of the walk but the walk itself reads or writes the entries: each commutes with another list. -/

/-- A record is settled whatever entries wait. -/
theorem State.settle_withEntries (s : State) (r : RunRecord) (l : List PendingEntry) :
    (s.withEntries l).settle r = (s.settle r).withEntries l := by
  unfold State.settle
  by_cases hquiet : r.state = .onCourse ∨ r.reported = some r.state
  · rw [if_pos hquiet, if_pos hquiet]
    rfl
  · rw [if_neg hquiet, if_neg hquiet]
    cases r.reported with
    | none =>
      simp only [State.handFinished_eq, State.append_queued]
      rfl
    | some old =>
      simp only [State.handFinished_eq, State.append_queued]
      rfl

/-- A record is found or made whatever entries wait. -/
theorem State.enrol_withEntries (s : State) (run : Nat) (learned : Bool) (l : List PendingEntry) :
    (s.withEntries l).enrol run learned = ((s.enrol run learned).1.withEntries l, (s.enrol run learned).2) := by
  unfold State.enrol
  rw [show (s.withEntries l).lookup run = s.lookup run from rfl,
    show (s.withEntries l).table = s.table from rfl, show (s.withEntries l).number = s.number from rfl]
  split
  · rfl
  split
  · rfl
  split
  · rfl
  cases s.table.records.find? (fun r => r.settled) with
  | some old => rfl
  | none =>
    dsimp only
    split
    · simp only [State.dropNamed, State.append_queued]
      rfl
    cases s.table.records.head? with
    | none => rfl
    | some low =>
      dsimp only
      split
      · simp only [State.dropNamed, State.append_queued]
        rfl
      · simp only [State.reportDropped, State.append_queued]
        rfl

/-- A fact is taken whatever entries wait. -/
theorem State.takeFact_withEntries (s : State) (f : Fact) (l : List PendingEntry) :
    (s.withEntries l).takeFact f = ((s.takeFact f).1.withEntries l, (s.takeFact f).2) := by
  have hcounter : (s.withEntries l).raiseCounter f.run = (s.raiseCounter f.run).withEntries l := by
    simp only [State.raiseCounter_eq]
    rfl
  unfold State.takeFact
  simp only [hcounter, State.enrol_withEntries]
  rw [show ((s.raiseCounter f.run).withEntries l).lookup f.run = (s.raiseCounter f.run).lookup f.run from rfl]
  split
  · rw [show (State.withEntries ((s.raiseCounter f.run).enrol f.run f.learns).1 l).lookup f.run =
      ((s.raiseCounter f.run).enrol f.run f.learns).1.lookup f.run from rfl]
    cases ((s.raiseCounter f.run).enrol f.run f.learns).1.lookup f.run with
    | none => rfl
    | some r =>
      dsimp only
      rw [State.settle_withEntries]
  · rfl

/-- A CROSS is made, or refused, whatever entries wait. -/
theorem State.makeCross_withEntries (s : State) (e : PendingEntry) (r : RunRecord) (l : List PendingEntry) :
    (s.withEntries l).makeCross e r = (s.makeCross e r).withEntries l := by
  unfold State.makeCross
  rw [show (s.withEntries l).number = s.number from rfl, show (s.withEntries l).epoch = s.epoch from rfl,
    show (s.withEntries l).isFinish = s.isFinish from rfl]
  have hplace : (s.withEntries l).place s.epoch (crossPayload s.number e r) =
      (s.place s.epoch (crossPayload s.number e r)).map (fun u => u.withEntries l) := by
    unfold State.place
    rw [show (s.withEntries l).outbox = s.outbox from rfl]
    split <;> rfl
  rw [hplace]
  cases s.place s.epoch (crossPayload s.number e r) with
  | none =>
    simp only [Option.map_none, State.refused_eq, State.append_queued]
    rfl
  | some u =>
    simp only [Option.map_some, State.takeFact_withEntries]
    split
    · rfl
    · simp only [State.requestTone_requested]
      rfl

/-- The walk over a list goes on the same whatever entries wait. -/
theorem State.walkEntries_withEntries (l waiting : List PendingEntry) :
    ∀ s : State, (s.withEntries l).walkEntries waiting =
      ((s.walkEntries waiting).1.withEntries l, (s.walkEntries waiting).2) := by
  induction waiting with
  | nil => exact fun s => rfl
  | cons x xs ih =>
    intro s
    unfold State.walkEntries
    rw [show (s.withEntries l).candidateRun x = s.candidateRun x from rfl]
    cases s.candidateRun x with
    | none => simp only [ih]
    | some r => simp only [State.makeCross_withEntries, ih]

/-! ### The walk, step by step -/

/-- The entries that no run can take stay, and the walk goes on behind them (R64). -/
theorem State.walkEntries_append (pre post : List PendingEntry) (h : ∀ e ∈ pre, s.candidateRun e = none) :
    s.walkEntries (pre ++ post) = ((s.walkEntries post).1, pre ++ (s.walkEntries post).2) := by
  induction pre with
  | nil => rfl
  | cons x xs ih =>
    rw [List.cons_append, State.walkEntries, h x (by simp)]
    dsimp only
    rw [ih fun e he => h e (by simp [he])]
    rfl

/-- One step of the walk: the oldest entry that a run can take leaves the list, its CROSS is made, and the walk begins
anew with the entries that stay, the earlier of which still find no run (R64, R65). -/
theorem State.walk_step {pre post : List PendingEntry} (hassigner : s.isAssigner = true) (hactive : s.isActive = true)
    (hentries : s.assign.entries = pre ++ e :: post) (hpre : ∀ x ∈ pre, s.candidateRun x = none)
    (hr : s.candidateRun e = some r) (hstill : ∀ x ∈ pre, (s.makeCross e r).candidateRun x = none)
    (hassigner' : (s.makeCross e r).isAssigner = true) (hactive' : (s.makeCross e r).isActive = true) :
    s.walk = ((s.makeCross e r).withEntries (pre ++ post)).walk := by
  have hwalked : s.walk = ((s.makeCross e r).walkEntries post).1.withEntries
      (pre ++ ((s.makeCross e r).walkEntries post).2) := by
    unfold State.walk
    rw [if_pos ⟨hassigner, hactive⟩, hentries, s.walkEntries_append pre (e :: post) hpre, State.walkEntries, hr]
  unfold State.walk at hwalked ⊢
  rw [hwalked, if_pos (show ((s.makeCross e r).withEntries (pre ++ post)).isAssigner = true ∧
    ((s.makeCross e r).withEntries (pre ++ post)).isActive = true from ⟨hassigner', hactive'⟩)]
  show _ = State.withEntries (State.walkEntries _ (pre ++ post)).1 (State.walkEntries _ (pre ++ post)).2
  rw [State.walkEntries_withEntries, (s.makeCross e r).walkEntries_append pre post hstill]
  rfl

/-- A run that has passed this gate leaves no entry another run than before: its own record takes none (R63). -/
theorem State.candidateRun_replaced {x : RunRecord} (hrecords : t.table.records = replaceRecord x s.table.records)
    (hnumber : t.number = s.number) (hpassed : x.passed s.number = true) (hnone : s.candidateRun e = none) :
    t.candidateRun e = none := by
  unfold State.candidateRun at hnone ⊢
  rw [List.find?_eq_none] at hnone ⊢
  rw [hrecords, hnumber]
  intro y hy
  obtain ⟨z, hz, rfl⟩ := List.mem_map.1 hy
  split
  · simp [RunRecord.eligible, hpassed]
  · exact hnone z hz

/-- The run an entry is matched to has passed the gate once its slot is filled (R11). -/
theorem RunRecord.crossed_passed {gates gate : Nat} (hr : r.Sound gates) (hgate : gate ≠ 0) (hbelow : gate < gates) :
    (r.crossed gate e).passed gate = true := by
  obtain ⟨-, -, hlength, -⟩ := hr
  have hlt : gate - 1 < r.splits.length := by omega
  simp [RunRecord.passed, RunRecord.crossed, hlt]

/-! ### The Run Table's notice (R26) -/

/-- What a fact on a held record gives notice of. -/
theorem noticeDue_iff (old new : RunRecord) :
    noticeDue old new = true ↔
      (old.start = none ∧ new.start ≠ none) ∨ (old.state = .onCourse ∧ new.state ≠ .onCourse) := by
  simp [noticeDue, RunRecord.settled, Option.isSome_iff_ne_none]

/-- The record as the table stores it has the start time and the state of the fact (R19). -/
theorem RunRecord.stored_start_state (r : RunRecord) : r.stored.start = r.start ∧ r.stored.state = r.state := by
  unfold RunRecord.stored
  split <;> exact ⟨rfl, rfl⟩

/-- A fact gives notice exactly where a record of its run is new, has its first start time or has settled (R26). -/
theorem State.takeFact_notice (hs : s.TableSound) (f : Fact) :
    (s.takeFact f).2 = true ↔
      ∃ x ∈ (s.takeFact f).1.table.records, x.run = f.run ∧
        ∀ r ∈ s.table.records, r.run = f.run →
          (r.start = none ∧ x.start ≠ none) ∨ (r.state = .onCourse ∧ x.state ≠ .onCourse) := by
  cases hlookup : s.lookup f.run with
  | some r =>
    have hrun : r.run = f.run := by simpa using List.find?_some hlookup
    have hmem : r ∈ s.table.records := List.mem_of_find?_eq_some hlookup
    have hfound : (s.raiseCounter f.run).lookup f.run = some r := by simp [hlookup]
    have hnotice : (s.takeFact f).2 = noticeDue r (r.take f) := by
      unfold State.takeFact
      simp [State.enrol_known hfound, hlookup]
    obtain ⟨hstart, hstate⟩ := (r.take f).stored_start_state
    have htaken : (r.take f).run = r.run := r.take_run f
    have hstored : (r.take f).stored.run = (r.take f).run := by simp
    rw [hnotice, noticeDue_iff, State.takeFact_records_known hlookup]
    constructor
    · intro hdue
      refine ⟨_, mem_replaceRecord_self hmem (by rw [hstored, htaken]), by rw [hstored, htaken, hrun], fun y hy hyrun => ?_⟩
      have hsame : s.lookup y.run = some y := State.lookup_of_mem hs hy
      rw [hyrun, hlookup, Option.some.injEq] at hsame
      rw [← hsame, hstart, hstate]
      exact hdue
    · rintro ⟨x, hx, hxrun, hdue⟩
      obtain ⟨y, -, rfl⟩ := List.mem_map.1 hx
      split at hdue
      next => simpa only [hstart, hstate] using hdue r hmem hrun
      next hne =>
        rw [if_neg hne] at hxrun
        exact absurd (hxrun.trans (by rw [hstored, htaken, hrun])) hne
  | none =>
    have habsent := (s.lookup_eq_none f.run).1 hlookup
    have hvacuous : ∀ x : RunRecord, ∀ r ∈ s.table.records, r.run = f.run →
        (r.start = none ∧ x.start ≠ none) ∨ (r.state = .onCourse ∧ x.state ≠ .onCourse) :=
      fun _ r hr hrun => absurd hrun (habsent r hr)
    have hfound : (s.raiseCounter f.run).lookup f.run = none := by simp [hlookup]
    rcases State.enrol_absent hfound f.learns with ⟨hno, hrec⟩ | ⟨hyes, kept, hkept, hrec⟩
    · have htaken : s.takeFact f = (((s.raiseCounter f.run).enrol f.run f.learns).1, false) := by
        simp [State.takeFact, hno]
      simp only [State.raiseCounter_frame] at hrec
      rw [htaken, hrec]
      refine ⟨nofun, ?_⟩
      rintro ⟨x, hx, hxrun, -⟩
      exact absurd hxrun (habsent x hx)
    · simp only [State.raiseCounter_frame] at hkept hrec
      have hnew : ∀ x ∈ kept, x.run ≠ (newRecord s.gates f.run f.learns).run := fun x hx => habsent x (hkept hx)
      have hfind : ((s.raiseCounter f.run).enrol f.run f.learns).1.lookup f.run =
          some (newRecord s.gates f.run f.learns) := by
        rw [State.lookup, hrec]
        exact find_insertRecord _ kept hnew
      have hmade : ((newRecord s.gates f.run f.learns).take f).stored ∈
          (s.takeFact f).1.table.records := by
        simp only [State.takeFact, hyes, hfind, if_true, State.settle_records, hrec]
        rw [replaceRecord_inserted _ _ (by simp) kept hnew]
        exact (mem_insertRecord _ _ _).2 (.inl rfl)
      refine ⟨fun _ => ⟨_, hmade, by simp, hvacuous _⟩, fun _ => ?_⟩
      simp [State.takeFact, hyes, hfind, hlookup]

/-! ### The obligation -/

/-- The station that a START of an absent run reaches: the new record alone in the table (R7, R10). -/
theorem State.takeFact_first {f : Fact} (hassigner : s.isAssigner = true) (hempty : s.table.records = [])
    (hfloor : s.table.floor < f.run) {x : RunRecord} (hx : (newRecord s.gates f.run f.learns).take f = x)
    (hcourse : x.state = .onCourse) :
    s.takeFact f = ({ s with table := { s.table with records := [x] } }, true) := by
  subst hx
  have habsent : s.lookup f.run = none := (s.lookup_eq_none f.run).2 (by simp [hempty])
  have hcounter : s.raiseCounter f.run = s := by
    unfold State.raiseCounter
    rw [if_neg fun h => State.isAssigner_ne_zero hassigner h.1]
  rw [s.takeFact_new f habsent hfloor (by simp [hempty]), hcounter, State.settle_quiet _ _ (.inl hcourse)]
  simp [State.create, State.withRecords, hempty, insertRecord, replaceRecord]

/-- A walk over one entry, which its run takes (R64, R65). -/
theorem State.walk_one (hassigner : s.isAssigner = true) (hactive : s.isActive = true)
    (hentries : s.assign.entries = [e]) (hr : s.candidateRun e = some r) :
    s.walk = (s.makeCross e r).withEntries [] := by
  unfold State.walk
  rw [if_pos ⟨hassigner, hactive⟩, hentries, State.walkEntries, hr]
  rfl

/-- A run whose slots are empty has passed no gate (R63). -/
theorem RunRecord.highestGate_empty {n : Nat} (hsplits : r.splits = List.replicate n none) : r.highestGate = 0 := by
  have hnone : r.splits.zipIdx.filterMap (fun x => if x.1.isSome then some (x.2 + 1) else none) = [] := by
    rw [List.filterMap_eq_nil_iff]
    intro x hx
    have hmem : x.1 ∈ r.splits := List.fst_mem_of_mem_zipIdx hx
    rw [hsplits] at hmem
    simp [(List.mem_replicate.1 hmem).2]
  rw [RunRecord.highestGate, hnone]
  rfl

/-- The one run of a table, on course and at no gate yet, takes an entry that it started before (R63, R64). -/
theorem State.candidateRun_first (hrecords : s.table.records = [r]) (hcourse : r.state = .onCourse)
    (hsplits : r.splits = List.replicate (s.gates - 1) none) (hstart : r.start = some start) (hbefore : start < e.time)
    (hnumber : s.number ≠ 0) : s.candidateRun e = some r := by
  have hfits : (r.eligible s.number && r.precedes e.time) = true := by
    have hpassed : r.passed s.number = false := by
      simp [RunRecord.passed, hsplits]
    simp [RunRecord.eligible, RunRecord.precedes, hcourse, hstart, hpassed, r.highestGate_empty hsplits, hbefore]
    omega
  rw [State.candidateRun, hrecords]
  simp [hfits]

/-- Settles O24: the START's record and the walk over the one entry, the notice of every fact, and one step of the
walk, with and without a place, before the finish and at it. -/
theorem aStartHeardMatchesAWaitingCrossing : Obligations.AStartHeardMatchesAWaitingCrossing := by
  refine ⟨?_, fun s f hs => State.takeFact_notice hs f, ?_⟩
  · intro s h sp e hs horder hactive hassigner hepoch htable hentries hjoining hempty hfloor hlow hhigh hbefore
      htime hplace hgate made
    have hcourse : s.onCourse = true := State.onCourse_of_isActive hactive
    have hnumber := State.isAssigner_ne_zero hassigner
    let heard := s.heardAs h (some (h.seq + 1)) []
    let fact : Fact := .start sp.run.toNat sp.startTime.toNat (sp.marks.getLsbD 0)
    have hstep : heard.epochStep ⟨h, .start sp⟩ = (heard, false) := by
      have hnot : ¬ heard.epoch < h.epoch := by
        rw [hepoch]
        exact BitVec.lt_irrefl _
      rw [State.epochStep_same (s := heard) (State.onCourse_not_listening hcourse) hnot]
      exact Prod.ext rfl (decide_eq_false (by rw [hepoch]; exact BitVec.lt_irrefl _))
    have hfact : payloadFact s.gates (.start sp) = some fact := by
      simp only [payloadFact, startFact_eq]
      exact if_pos ⟨⟨hlow, hhigh⟩, htime⟩
    let started : RunRecord :=
      ⟨sp.run.toNat, some sp.startTime.toNat, List.replicate (s.gates - 1) none, false, false,
        sp.marks.getLsbD 0, false, false, false, false, none⟩
    have hstarted : (newRecord heard.gates fact.run fact.learns).take fact = started :=
      newRecord_started s.gates sp.run.toNat sp.startTime.toNat (sp.marks.getLsbD 0)
    have hquiet : started.state = .onCourse := by
      rw [← hstarted]
      exact ((newRecord _ _ _).takeStart_state _ _).trans (newRecord_state _ _ _)
    let u : State := { heard with table := { s.table with records := [started] } }
    have htaken : heard.takeFact fact = (u, true) :=
      State.takeFact_first (s := heard) hassigner hempty (by exact hfloor) hstarted hquiet
    have hcandidate : u.candidateRun e = some started :=
      State.candidateRun_first (s := u) rfl hquiet rfl rfl hbefore hnumber
    have hsound : u.TableSound := by
      obtain ⟨-, -, -, hlimit, -⟩ := htable
      refine ⟨by simp [u, Config.tableCapacity], by simp [u], ?_, hlimit, fun hoff => ?_⟩
      · intro x hx
        obtain rfl : x = started := by simpa [u] using hx
        have hunsettled : ¬ started.settled = true := by
          rw [RunRecord.settled, hquiet]
          decide
        exact ⟨hlow, hhigh, List.length_replicate, (if_neg hunsettled).symm⟩
      · have hon : u.onCourse = true := hcourse
        simp [hon] at hoff
    have hwalk := State.walk_one (s := u) hassigner hactive hentries hcandidate
    rw [State.makeCross_passes (s := u) hsound hassigner hplace hcandidate rfl hgate] at hwalk
    show Host.Outcome.next (s.receive ⟨h, .start sp⟩).settleLine = _
    rw [hs.exec_fact horder (base := heard) (.inl ⟨sp, rfl⟩) hcourse rfl hstep, hfact]
    simp only [State.takeFactAndWalk, htaken, if_true, hwalk]
    have hpayload := crossPayload_eq (s := s) (e := e) (r := started) rfl
    rw [State.settleLine_placed (s := heard) (epoch := s.epoch) (p := crossPayload s.number e started)
      (by rw [State.requestTone_requested]; rfl) (by rw [State.requestTone_requested]; rfl)]
    simp only [State.requestTone_requested]
    have hmade : replaceRecord (started.crossed s.number e) [started] = [made] := by
      simp [replaceRecord, RunRecord.crossed, made, started, hjoining]
    have hcross : crossPayload s.number e started = .cross ⟨sp.run, s.stationByte, BitVec.ofNat 32 e.time, sp.startTime,
        (if e.manual then 1#8 else 0#8) ||| 2#8⟩ := by
      rw [hpayload]
      simp [started, hjoining]
    rw [← hmade, ← hcross]
    rfl
  · intro s pre post e r start hassigner hactive hs hentries taker hpre
    refine ⟨fun hnone => State.walk_waits fun x hx => ?_, fun htaker hstart => ?_⟩
    · rw [hentries, List.mem_append] at hx
      exact hx.elim (hpre x) (hnone x)
    · intro late crossed matched
      have hnumber := State.isAssigner_ne_zero hassigner
      have hbelow : s.number < s.gates := by
        simp only [State.isAssigner, Bool.and_eq_true, decide_eq_true_eq] at hassigner
        exact hassigner.2
      have hcandidate : s.candidateRun e = some r := htaker
      have hpassed : (r.crossed s.number e).passed s.number = true :=
        RunRecord.crossed_passed (hs.2.2.1 r (State.candidateRun_some hcandidate).1) hnumber hbelow
      have hpayload := crossPayload_eq (s := s) (e := e) hstart
      have hmatched : ∀ x : RunRecord, x.run = r.run → matched x = (s.crossPlaced e r x).withEntries (pre ++ post) := by
        intro x hx
        simp only [State.crossPlaced, hpayload, replaceRecord, hx]
        rfl
      have hwalks : ∀ u v : State, s.makeCross e r = u →
          ((∃ x : RunRecord, x.passed s.number = true ∧ u.table.records = replaceRecord x s.table.records) ∨
            u.table.records = s.table.records) →
          v = u.withEntries (pre ++ post) → s.walk = v.walk := by
        rintro u v rfl hrecords rfl
        have hnum : (s.makeCross e r).number = s.number := by simp
        refine State.walk_step hassigner hactive hentries hpre hcandidate (fun x hx => ?_)
          (by simpa using hassigner) (by simpa using hactive)
        rcases hrecords with ⟨y, hy, hreplaced⟩ | hsame
        · exact State.candidateRun_replaced hreplaced hnum hy (hpre x hx)
        · have hnone := hpre x hx
          unfold State.candidateRun
          rw [hsame, hnum]
          exact hnone
      refine ⟨fun hplace hgate => ?_, fun hplace hgate => ?_, fun hfull hunsent => ?_⟩
      · intro t
        refine hwalks _ _ (State.makeCross_passes hs hassigner hplace hcandidate hstart hgate)
          (.inl ⟨_, hpassed, by simp [State.crossPlaced]⟩) ?_
        rw [State.requestTone_requested, State.requestTone_requested, show t = _ from hmatched crossed rfl]
        rfl
      · intro t
        refine hwalks _ _ (State.makeCross_finishes hs hassigner hplace hcandidate hstart hgate)
          (.inl ⟨{ r.crossed s.number e with reported := some .finished }, hpassed, ?_⟩) ?_
        · simp [State.crossPlaced, State.appended_queued]
        · rw [show t = _ from congrArg (fun u => State.appended u _) (hmatched _ rfl)]
          simp only [State.requestTone_requested, State.appended_queued]
          rfl
      · refine hwalks _ _ ((State.makeCross_refused hfull hunsent e r).trans (s.refused_eq _ _ _ _))
          (.inr rfl) ?_
        simp only [State.append_queued, State.appended_queued]
        rfl

end

end Sys2Proof.Machine
end

section
/-! PROOFS. A beacon of station 0 and the bookkeeping of every beacon: the snapshot, HELD set and released, restarts,
late joins and tails. -/

namespace Sys2Proof.Machine

section
variable {s t : State} {h : Header}

/-! ### Station 0's beacon -/

/-- A beacon from a peer that passes the checks, whole (R112). -/
theorem State.Hears.receive_beacon {b : BeaconPayload} (hs : s.Hears h) (hseq : h.seq = 0#8)
    (hgates : b.gateCount.toNat = s.gates) (holdest : b.oldest.isSome = (h.station == 0#8)) :
    s.receive ⟨h, .beacon b⟩ =
      let tested := ((s.heard h).bookBeacon h.station.toNat b).epochStep ⟨h, .beacon b⟩
      tested.1.beaconContent ⟨h, .beacon b⟩ b tested.2 := by
  have hform : Frame.wellFormed ⟨h, .beacon b⟩ = true := by
    simp [Frame.wellFormed, Payload.sequenced, hs.2.2.1, hseq, holdest]
  exact hs.receive_eq hform (fun x hx => by cases hx; exact hgates)

/-- The time a beacon carries, taken where it is one (R30). -/
def State.carried (s : State) (b : BeaconPayload) : State :=
  if b.courseTime.toNat ≤ Config.timeLimit then s.takeTime b.courseTime.toNat else s

/-- A carried time is taken by single acts, none of them a crossing. -/
theorem State.carried_moves (s : State) (b : BeaconPayload) : Moves false s (s.carried b) := by
  unfold State.carried
  split
  · exact s.takeTime_moves _ ‹_›
  · exact Moves.refl s

/-- What a carried time leaves of the station (R30, R31). -/
theorem State.carried_frame (s : State) (b : BeaconPayload) :
    (s.carried b).receiver.snapshot = s.receiver.snapshot ∧ (s.carried b).epoch = s.epoch ∧
      (s.carried b).isAssigner = s.isAssigner ∧ (s.table.records = [] → (s.carried b).table.records = []) := by
  have hrecords : s.table.records = [] → ∀ time, (s.takeTime time).table.records = [] := by
    intro hempty time
    unfold State.takeTime
    split
    · exact hempty
    · dsimp only
      split <;> simp [State.endTimers, State.markStepped, State.withRecords, State.adoptTime, hempty]
  unfold State.carried
  split
  · exact ⟨by simp, by simp, by simp, fun hempty => hrecords hempty _⟩
  · exact ⟨rfl, rfl, rfl, id⟩

/-- A carried time keeps the station on course, and makes no crossing wait (R38, R68). -/
theorem State.carried_keeps (s : State) (b : BeaconPayload) :
    (s.onCourse = true → (s.carried b).onCourse = true) ∧
      (s.assign.entries = [] → (s.carried b).assign.entries = []) :=
  ⟨(s.carried_moves b).keeps (P := fun u => u.onCourse = true) fun _ _ hact => hact.onCourse,
    (s.carried_moves b).keeps (P := fun u => u.assign.entries = []) fun _ _ hact hu =>
      List.subset_nil.1 (hu ▸ hact.entries_subset)⟩

/-- Station 0's beacon of no older epoch: the carried time, the snapshot, and the release (R113; assumption log 9). -/
theorem State.beaconContent_zero {b : BeaconPayload} (hzero : h.station = 0#8) :
    s.beaconContent ⟨h, .beacon b⟩ b false =
      if h.epoch = s.epoch then ((s.carried b).snapshotBeacon b).releaseHeld (b.oldest.getD 0#16).toNat
      else (s.carried b).snapshotBeacon b := by
  have hepoch : ((s.carried b).snapshotBeacon b).epoch = s.epoch := (s.carried_frame b).2.1
  rw [← hepoch]
  exact if_pos ⟨hzero, rfl⟩

/-- A beacon of an older epoch carries its time alone (R87). -/
theorem State.beaconContent_older (b : BeaconPayload) :
    s.beaconContent ⟨h, .beacon b⟩ b true = s.carried b := if_neg (by simp)

/-- HELD that stands after station 0's beacon stands because its oldest run does not release it (R76). -/
theorem State.releaseHeld_stands {oldest : Nat} (hassigner : s.isAssigner = true) (hcourse : s.onCourse = true)
    (hheld : (s.releaseHeld oldest).assign.held = true) :
    oldest ≠ 0 ∧ ¬ ((s.releaseHeld oldest).assign.boundary ≤ oldest ∧ oldest ≤ 999) := by
  unfold State.releaseHeld at hheld ⊢
  split at hheld
  · simp at hheld
  next hnot =>
    rw [if_neg hnot]
    have hreleases : s.releases oldest = false := by
      simpa [hassigner, hcourse, hheld] using hnot
    simp only [State.releases, Config.maxRun, Bool.or_eq_false_iff, beq_eq_false_iff_ne, Bool.and_eq_false_iff,
      decide_eq_false_iff_not] at hreleases
    exact ⟨hreleases.1, fun hall => hreleases.2.elim (fun hn => hn hall.1) (fun hn => by simp [hall.2] at hn)⟩

/-- A frame's epoch is older than the station's out of LISTENING alone (R84, R87). -/
theorem State.epochStep_older (s : State) (f : Frame) :
    (s.epochStep f).2 = decide (s.station.state ≠ .listening ∧ f.header.epoch < s.epoch) := by
  by_cases hstate : s.station.state = .listening
  · rw [State.epochStep_listening hstate]
    simp [hstate]
  · by_cases hhigher : s.epoch < f.header.epoch
    · rw [State.epochStep_higher hstate hhigher]
      simp [hstate, BitVec.lt_asymm hhigher]
    · rw [State.epochStep_same hstate hhigher]
      simp [hstate]

/-- The snapshot that station 0's beacon makes (R113). -/
theorem State.releaseHeld_snapshot (oldest : Nat) (b : BeaconPayload) :
    ((s.snapshotBeacon b).releaseHeld oldest).receiver.snapshot =
      { taken := true, highest := heldRun b.highest, oldest := heldRun (b.oldest.getD 0#16) } := by
  simp [State.snapshotBeacon]

/-- Settles O46: the bookkeeping leaves the snapshot, and the content makes it and then looks at HELD. -/
theorem stationZerosBeaconMakesTheSnapshot : Obligations.StationZerosBeaconMakesTheSnapshot := by
  intro s h b oldest hs hseq hzero hgates holdest
  have hreceive := hs.receive_beacon hseq hgates (by simp [holdest, hzero])
  have hlistens : s.station.state ≠ .listening ↔ s.onCourse = true := by
    have hreceives := hs.1
    unfold State.receives at hreceives
    unfold State.onCourse
    cases hstate : s.station.state <;> simp [hstate] at hreceives ⊢
  let f : Frame := ⟨h, .beacon b⟩
  let booked := (s.heard h).bookBeacon h.station.toNat b
  let u := (booked.epochStep f).1
  have hbooked : booked.station.state = s.station.state ∧ booked.epoch = s.epoch := by
    simp only [booked, State.bookBeacon_frame]
    exact ⟨rfl, rfl⟩
  have hu : u.onCourse = s.onCourse ∧ u.isAssigner = s.isAssigner ∧ u.receiver.snapshot = s.receiver.snapshot := by
    simp only [u, booked, State.epochStep_frame, State.bookBeacon_frame]
    exact ⟨rfl, rfl, rfl⟩
  obtain ⟨hcourse, hassigner, hsnapshot⟩ := hu
  have holder : (booked.epochStep f).2 = decide (s.onCourse = true ∧ h.epoch < s.epoch) := by
    rw [State.epochStep_older, hbooked.1, hbooked.2]
    exact decide_eq_decide.2 (and_congr_left fun _ => hlistens)
  have hepoch : u.epoch = if s.epoch < h.epoch then h.epoch else s.epoch := by
    rw [← hbooked.2]
    exact (booked.epochStep_epoch f).1
  refine ⟨_, rfl, ?_⟩
  rw [hreceive, State.settleLine_eq]
  show (u.beaconContent f b (booked.epochStep f).2).receiver.snapshot = _ ∧
    (_ → _ → _ → (u.beaconContent f b (booked.epochStep f).2).assign.held = true →
      _ ∧ ¬ ((u.beaconContent f b (booked.epochStep f).2).assign.boundary ≤ _ ∧ _)) ∧
    (_ → _ → (u.beaconContent f b (booked.epochStep f).2).epoch = _ ∧
      (u.beaconContent f b (booked.epochStep f).2).table.records = [] ∧
      (u.beaconContent f b (booked.epochStep f).2).assign.entries = [])
  obtain ⟨hsame, -, hassigner', hempty⟩ := u.carried_frame b
  obtain ⟨hcourse', hentries⟩ := u.carried_keeps b
  by_cases hold : s.onCourse = true ∧ h.epoch < s.epoch
  · rw [holder, decide_eq_true hold, State.beaconContent_older, if_pos hold]
    exact ⟨hsame.trans hsnapshot, fun _ _ hle => absurd hold.2 (BitVec.not_lt.2 hle),
      fun _ hlt => absurd hold.2 (BitVec.lt_asymm hlt)⟩
  · rw [holder, decide_eq_false hold, State.beaconContent_zero hzero, if_neg hold]
    refine ⟨?_, fun ha hc hle => ?_, fun hc hlt => ?_⟩
    · have hmade : ({ taken := true, highest := heldRun b.highest, oldest := heldRun (b.oldest.getD 0#16) } : Snapshot) =
          { taken := true
            highest := if b.highest.toNat ≤ 999 then b.highest.toNat else 0
            oldest := if oldest.toNat ≤ 999 then oldest.toNat else 0 } := by
        rw [holdest]
        rfl
      rw [← hmade]
      split
      · exact State.releaseHeld_snapshot _ _
      · rfl
    · have hsame : h.epoch = u.epoch := by
        rw [hepoch]
        split
        · rfl
        next hnot => exact BitVec.le_antisymm (BitVec.not_lt.1 hnot) hle
      rw [if_pos hsame, holdest]
      exact State.releaseHeld_stands (s := (u.carried b).snapshotBeacon b) (hassigner'.trans (hassigner.trans ha))
        (hcourse' (hcourse.trans hc))
    · rw [if_pos hlt] at hepoch
      have hadopted : u.table.records = [] ∧ u.assign.entries = [] := by
        have hstep := State.epochStep_higher (s := booked) (f := f) (by rw [hbooked.1]; exact hlistens.2 hc)
          (by rw [hbooked.2]; exact hlt)
        simp only [u, hstep]
        exact ⟨rfl, rfl⟩
      rw [if_pos hepoch.symm]
      simp only [State.releaseHeld_frame]
      exact ⟨(u.carried_frame b).2.1.trans hepoch, hempty hadopted.1, hentries hadopted.2⟩

/-! ### What losses leave, whatever else the bookkeeping changes

The queue, the errors and the Assignment Unit after losses are read from these blocks alone, so the Peer Table may change
between one loss and the next. -/

/-- Two states that agree on all that a loss reads and writes outside the Peer Table and the Control List. -/
structure State.ReportsAlike (s t : State) : Prop where
  results : t.results = s.results
  time : t.clock.courseTime = s.clock.courseTime
  assign : t.assign = s.assign
  errors : t.station.errors = s.station.errors
  assigner : t.isAssigner = s.isAssigner
  course : t.onCourse = s.onCourse
  known : t.highestKnown = s.highestKnown
  snapshot : t.receiver.snapshot = s.receiver.snapshot

/-- Another Peer Table. -/
theorem State.ReportsAlike.withPeer (h : s.ReportsAlike t) (p : Nat) (x : Peer) : s.ReportsAlike (t.withPeer p x) :=
  ⟨h.results, h.time, h.assign, h.errors, h.assigner, h.course, h.known, h.snapshot⟩

/-- A loss in each. -/
theorem State.ReportsAlike.lose (h : s.ReportsAlike t) (p : Nat) (q : Byte) :
    (s.lose p q).ReportsAlike (t.lose p q) := by
  refine ⟨?_, by simp [h.time], ?_, ?_, by simp [h.assigner], by simp [h.course], ?_, by simp [h.snapshot]⟩
  · have hqueue : (t.append (lossContents p q)).results = (s.append (lossContents p q)).results :=
      State.append_results h.results h.time _
    rw [State.lose_results, State.lose_results, h.assigner, h.course, h.assign]
    split
    · exact State.strays_results hqueue (by simp [h.time]) _ _
    · exact hqueue
  · rw [State.lose_assign, State.lose_assign]
    simp only [State.lossAssign, h.assign, h.assigner, h.course, h.known, h.snapshot]
  · rw [(s.lose_reported p q).1, (t.lose_reported p q).1, h.errors]
  · have hknown := h.known
    simpa [State.highestKnown] using hknown

/-- The same losses in each. -/
theorem State.ReportsAlike.loseAll {p : Nat} : ∀ (lost : List Byte) {s t : State}, s.ReportsAlike t →
    (s.loseAll p lost).ReportsAlike (t.loseAll p lost)
  | [], _, _, h => h
  | q :: qs, _, _, h => State.ReportsAlike.loseAll qs (h.lose p q)

/-- Losses after losses. -/
theorem State.loseAll_append (p : Nat) : ∀ (l l' : List Byte) (s : State),
    s.loseAll p (l ++ l') = (s.loseAll p l).loseAll p l'
  | [], _, _ => rfl
  | q :: qs, l', s => State.loseAll_append p qs l' (s.lose p q)

/-- Every state is like itself. -/
theorem State.ReportsAlike.refl (s : State) : s.ReportsAlike s := ⟨rfl, rfl, rfl, rfl, rfl, rfl, rfl, rfl⟩

/-- Changes that losses do not see, one after the other. -/
theorem State.ReportsAlike.trans {u : State} (h : s.ReportsAlike t) (h' : t.ReportsAlike u) : s.ReportsAlike u :=
  ⟨h'.results.trans h.results, h'.time.trans h.time, h'.assign.trans h.assign, h'.errors.trans h.errors,
    h'.assigner.trans h.assigner, h'.course.trans h.course, h'.known.trans h.known, h'.snapshot.trans h.snapshot⟩

/-- The Assignment Unit after losses of a peer is what the first of them makes of it: the boundary is raised to the
same run each time (R75). -/
theorem State.loseAll_assign_eq (p : Nat) : ∀ (lost : List Byte) (s : State),
    (s.loseAll p lost).assign = if lost = [] then s.assign else s.lossAssign p
  | [], _ => rfl
  | q :: qs, s => by
    have hknown : (s.lose p q).highestKnown = s.highestKnown := by simp [State.highestKnown]
    refine (State.loseAll_assign_eq p qs (s.lose p q)).trans ?_
    rw [if_neg (List.cons_ne_nil q qs), s.lose_assign]
    split
    · rfl
    · unfold State.lossAssign
      rw [s.lose_assign, hknown]
      simp only [State.lose_frame]
      unfold State.lossAssign
      by_cases hcase : p = 0 ∧ s.isAssigner = true ∧ s.onCourse = true
      · by_cases hheld : s.assign.held = true
        · simp only [hcase, and_self, if_true, hheld, max_assoc, max_self]
        · simp only [hcase, and_self, if_true, hheld, Bool.false_eq_true, if_false, max_self]
      · simp only [hcase, if_false]

/-- The queue after losses: the first of them may take every pending crossing (R75, R121). -/
theorem State.loseAll_results (s : State) (p : Nat) (lost : List Byte) :
    (s.loseAll p lost).results =
      ((lost.drop 1).foldl (fun u y => u.append (lossContents p y))
        (((lost.take 1).foldl (fun u y => u.append (lossContents p y)) s).strays .held
          (if lost ≠ [] ∧ p = 0 ∧ s.isAssigner = true ∧ s.onCourse = true ∧ s.assign.held = false then
            s.assign.entries
          else []))).results := by
  cases lost with
  | nil => simp
  | cons q qs =>
    have hunmoved : (s.lose p q).Unmoved p := by
      unfold State.Unmoved
      rw [s.lose_assign]
      simp only [State.lose_frame]
      unfold State.lossAssign
      by_cases hcase : p = 0 ∧ s.isAssigner = true ∧ s.onCourse = true
      · by_cases hheld : s.assign.held = true
        · exact .inr (.inr (.inr (by simp [hcase, hheld])))
        · exact .inr (.inr (.inr (by simp [hcase, hheld])))
      · by_cases hp : p = 0
        · by_cases ha : s.isAssigner = true
          · exact .inr (.inr (.inl (by simpa [hp, ha] using hcase)))
          · exact .inr (.inl (by simpa using ha))
        · exact .inl hp
    have hfirst : (s.lose p q).results =
        ((s.append (lossContents p q)).strays .held
          (if q :: qs ≠ [] ∧ p = 0 ∧ s.isAssigner = true ∧ s.onCourse = true ∧ s.assign.held = false then
            s.assign.entries
          else [])).results := by
      rw [s.lose_results]
      by_cases hcase : p = 0 ∧ s.isAssigner = true ∧ s.onCourse = true ∧ s.assign.held = false
      · rw [if_pos hcase, if_pos ⟨List.cons_ne_nil q qs, hcase⟩]
      · rw [if_neg hcase, if_neg fun h => hcase h.2]
        rfl
    exact (hunmoved.loseAll qs).1.trans (foldl_loss_results p qs hfirst (by simp))

/-! ### The bookkeeping of a beacon (R116) -/

/-- What the bookkeeping of a beacon comes to: the peer's expected sequence and Missing List, and what is lost. -/
structure State.Books (s t : State) (p : Nat) (expected : Option Byte) (missing : List MissingEntry)
    (lost : List Byte) : Prop where
  peer : t.peer p = { s.peer p with expected := expected, missing := missing }
  reports : (s.loseAll p lost).ReportsAlike t

/-- Losses leave the length of the Peer Table. -/
theorem State.loseAll_length (p : Nat) : ∀ (lost : List Byte) (s : State),
    (s.loseAll p lost).receiver.peers.length = s.receiver.peers.length
  | [], _ => rfl
  | q :: qs, s => by
    refine (State.loseAll_length p qs (s.lose p q)).trans ?_
    rw [(s.lose_reported p q).2.1]
    show (s.receiver.peers.set p _).length = _
    simp

/-- Sequences that join an empty Missing List: the oldest 8, and those left over (R115). -/
theorem State.found_first {p : Nat} (hmissing : (s.peer p).missing = []) (e : Byte) (count : Nat) :
    s.found p (sequencesFrom e count) =
        (List.range (min 8 count)).map (fun i => ⟨e + BitVec.ofNat 8 i, 0, s.now + (20 + 5 * s.number)⟩) ∧
      s.leftOver p (sequencesFrom e count) = (List.range (count - 8)).map (fun i => e + BitVec.ofNat 8 (8 + i)) := by
  have hdeadline : s.firstDeadline = s.now + (20 + 5 * s.number) := by simp [State.firstDeadline, Nat.add_assoc]
  simp only [State.found, State.leftOver, hmissing, unlisted_nil, sequencesFrom, hdeadline]
  refine ⟨by simp [List.map_take.symm, List.take_range], ?_⟩
  refine List.ext_getElem (by simp) fun i hi _ => ?_
  simp

/-- The Missing List of a peer that restarts is lost whole (R116). -/
theorem State.loseEntries_peer (s : State) (p : Nat) :
    (s.loseEntries p).peer p = { s.peer p with missing := [] } := by
  rw [State.loseEntries, State.loseAll_peer, if_pos rfl, Peer.without]
  refine congrArg (fun l => { s.peer p with missing := l }) (List.filter_eq_nil_iff.2 fun m hm => ?_)
  have hmem : m.seq ∈ (s.peer p).missing.map (fun m => m.seq) := List.mem_map_of_mem hm
  simp [hmem]

/-- A restart's losses, and another expected sequence (R116). -/
theorem State.restart_books {p : Nat} (hp : p < s.receiver.peers.length) (e : Byte) :
    s.Books ((s.loseEntries p).advance p [] e) p (some e) [] ((s.peer p).missing.map (fun m => m.seq)) := by
  have hpeer := s.loseEntries_peer p
  have hlength : p < (s.loseEntries p).receiver.peers.length := by
    rw [State.loseEntries, State.loseAll_length]
    exact hp
  rw [State.advance_nil (by rw [hpeer])]
  refine ⟨?_, (State.ReportsAlike.refl _).withPeer _ _⟩
  rw [State.peer_withPeer _ _ _ hlength, hpeer]

/-- A late join of a peer of which nothing is missing sets the expected sequence (R116). -/
theorem State.advance_books {p : Nat} (hp : p < s.receiver.peers.length) (hmissing : (s.peer p).missing = [])
    (e : Byte) : s.Books (s.advance p [] e) p (some e) [] [] := by
  rw [State.advance_nil hmissing]
  exact ⟨State.peer_withPeer _ _ _ hp, (State.ReportsAlike.refl _).withPeer _ _⟩

/-- No bookkeeping. -/
theorem State.Books.same (s : State) (p : Nat) : s.Books s p (s.peer p).expected (s.peer p).missing [] :=
  ⟨rfl, .refl s⟩

/-- A restart of a peer that has sent: its missing sequences are lost, and those sent since are listed (R116). -/
theorem State.relist_books {p : Nat} (hp : p < s.receiver.peers.length) (l : Byte) :
    s.Books (((s.loseEntries p).advance p [] (l + 1)).listAll p (sequencesFrom 0#8 (l.toNat + 1))) p (some (l + 1))
      ((List.range (min 8 (l.toNat + 1))).map (fun i => ⟨BitVec.ofNat 8 i, 0, s.now + (20 + 5 * s.number)⟩))
      ((s.peer p).missing.map (fun m => m.seq) ++
        (List.range (l.toNat + 1 - 8)).map (fun i => BitVec.ofNat 8 (8 + i))) := by
  obtain ⟨hpeer, hreports⟩ := State.restart_books hp (l + 1)
  let u := (s.loseEntries p).advance p [] (l + 1)
  have hnodup : (sequencesFrom 0#8 (l.toNat + 1)).Nodup := sequencesFrom_nodup _ (by have := l.isLt; omega)
  have hlength : p < u.receiver.peers.length := by
    have hset : u = (s.loseEntries p).withPeer p _ := State.advance_nil (by rw [s.loseEntries_peer p]) _
    rw [hset]
    simpa [State.withPeer, State.loseEntries, State.loseAll_length] using hp
  have hempty : (u.peer p).missing = [] := by rw [hpeer]
  have hframe : u.now = s.now ∧ u.number = s.number := by simp [u, State.loseEntries]
  obtain ⟨hfound, hleft⟩ := State.found_first hempty 0#8 (l.toNat + 1)
  simp only [BitVec.zero_add, hframe.1, hframe.2] at hfound hleft
  refine ⟨?_, ?_⟩
  · rw [State.listAll_peer hlength hnodup, hfound, hpeer]
  · rw [State.loseAll_append, State.listAll_eq u p hnodup, hfound, hleft]
    exact (hreports.withPeer _ _).loseAll _

/-- A beacon of a peer that is followed, ahead of what was heard: the sequences between are listed (R116). -/
theorem State.tail_books {p : Nat} (hp : p < s.receiver.peers.length) (hmissing : (s.peer p).missing = []) {e l : Byte}
    {d : Nat} (hd : d = (l - e).toNat + 1) (hrange : d ≤ 128) :
    s.Books (s.advance p (sequencesFrom e d) (l + 1)) p (some (l + 1))
      ((List.range (min 8 d)).map (fun i => ⟨e + BitVec.ofNat 8 i, 0, s.now + (20 + 5 * s.number)⟩))
      ((List.range (d - 8)).map (fun i => e + BitVec.ofNat 8 (8 + i))) := by
  have hnodup : (sequencesFrom e d).Nodup := sequencesFrom_nodup _ (by omega)
  obtain ⟨hfound, hleft⟩ := State.found_first hmissing e d
  have hwithin : ∀ m ∈ s.found p (sequencesFrom e d), withinRange (l + 1) m.seq = true := by
    intro m hm
    rw [hfound] at hm
    obtain ⟨i, hi, rfl⟩ := List.mem_map.1 hm
    rw [List.mem_range] at hi
    have hdist : (l + 1 - (e + BitVec.ofNat 8 i)).toNat = d - i := by
      rw [hd] at hi hrange ⊢
      bv_omega
    simp only [withinRange, hdist, Bool.and_eq_true, decide_eq_true_eq]
    omega
  refine ⟨?_, ?_⟩
  · rw [State.advance_peer hp hnodup, List.filter_eq_self.2 hwithin, hfound]
  · have hnone : (s.found p (sequencesFrom e d)).filter (fun m => !withinRange (l + 1) m.seq) = [] :=
      List.filter_eq_nil_iff.2 fun m hm => by rw [hwithin m hm]; decide
    rw [State.advance_eq s p _ hnodup, hnone, hleft]
    exact ((State.ReportsAlike.refl s).withPeer _ _).loseAll _

/-- The bookkeeping of a beacon, but for a late join, which looks at HELD too (R116). -/
theorem State.bookBeacon_books {p : Nat} {b : BeaconPayload} (hp : p < s.receiver.peers.length) :
    let fresh := b.flags.getLsbD 1
    let noneSent := b.flags.getLsbD 3
    let l := b.lastSeq
    (noneSent = true → fresh = true →
      s.Books (s.bookBeacon p b) p (some 0#8) [] ((s.peer p).missing.map (fun m => m.seq))) ∧
    (∀ e, noneSent = true → fresh = false → (s.peer p).expected = some e → s.bookBeacon p b = s) ∧
    (noneSent = false → fresh = true → (s.peer p).expected ≠ some (l + 1) →
      s.Books (s.bookBeacon p b) p (some (l + 1))
        ((List.range (min 8 (l.toNat + 1))).map (fun i => ⟨BitVec.ofNat 8 i, 0, s.now + (20 + 5 * s.number)⟩))
        ((s.peer p).missing.map (fun m => m.seq) ++
          (List.range (l.toNat + 1 - 8)).map (fun i => BitVec.ofNat 8 (8 + i)))) ∧
    (∀ e, noneSent = false → fresh = false → (s.peer p).expected = some e → (s.peer p).missing = [] →
      (l - e).toNat + 1 ≤ 128 →
      s.Books (s.bookBeacon p b) p (some (l + 1))
        ((List.range (min 8 ((l - e).toNat + 1))).map
          (fun i => ⟨e + BitVec.ofNat 8 i, 0, s.now + (20 + 5 * s.number)⟩))
        ((List.range ((l - e).toNat + 1 - 8)).map (fun i => e + BitVec.ofNat 8 (8 + i)))) ∧
    (∀ e, noneSent = false → (s.peer p).expected = some e → 128 < (l - e).toNat + 1 → fresh = false ∨ e = l + 1 →
      s.bookBeacon p b = s) := by
  intro fresh noneSent l
  have hfresh : beaconFresh b = fresh := rfl
  have hlast : beaconLastSequence b = if noneSent = true then none else some l := rfl
  unfold State.bookBeacon
  refine ⟨fun hnone hf => ?_, fun e hnone hf he => ?_, fun hnone hf he => ?_, fun e hnone hf he hmissing hd => ?_,
    fun e hnone he hd hf => ?_⟩
  · simp only [hlast, hfresh, hnone, hf, if_true]
    exact State.restart_books hp 0#8
  · simp only [hlast, hfresh, hnone, hf, he, if_true, Bool.false_eq_true, if_false]
  · simp only [hlast, hfresh, hnone, hf, he, Bool.false_eq_true, if_false, ne_eq, not_false_eq_true, and_self, if_true]
    exact State.relist_books hp l
  · have hlt : (l - e).toNat < 128 := by omega
    simp only [hlast, hfresh, hnone, hf, he, Bool.false_eq_true, if_false, false_and, hlt, if_true]
    exact State.tail_books hp hmissing rfl hd
  · have hnot : ¬ (l - e).toNat < 128 := by omega
    have hkeeps : ¬ (fresh = true ∧ (s.peer p).expected ≠ some (l + 1)) := by
      rintro ⟨htrue, hne⟩
      rcases hf with hfalse | heq
      · simp [hfalse] at htrue
      · exact hne (he.trans (congrArg some heq))
    simp only [hlast, hfresh, hnone, Bool.false_eq_true, if_false]
    rw [if_neg hkeeps]
    simp only [he, hnot, if_false]

/-- A late join of a peer of which nothing is missing (R75, R116). -/
theorem State.bookBeacon_joins {p : Nat} {b : BeaconPayload} (hp : p < s.receiver.peers.length)
    (hfresh : b.flags.getLsbD 1 = false) (hexpected : (s.peer p).expected = none) (hmissing : (s.peer p).missing = []) :
    ∃ joined : State, s.Books joined p (some (if b.flags.getLsbD 3 = true then 0#8 else b.lastSeq + 1)) [] [] ∧
      joined.table = s.table ∧ joined.number = s.number ∧ joined.receiver.peers.length = s.receiver.peers.length ∧
      s.bookBeacon p b = if p = 0 then joined.setHeld (heldRun b.highest) else joined := by
  have hfresh' : beaconFresh b = false := hfresh
  have hlast : beaconLastSequence b = if b.flags.getLsbD 3 = true then none else some b.lastSeq := rfl
  have hlength : ∀ e, (s.advance p [] e).receiver.peers.length = s.receiver.peers.length := fun e => by
    rw [State.advance_nil hmissing]
    simp [State.withPeer]
  by_cases hnone : b.flags.getLsbD 3 = true
  · refine ⟨s.advance p [] 0#8, ?_, by simp, by simp, hlength _, ?_⟩
    · rw [if_pos hnone]
      exact State.advance_books hp hmissing _
    · unfold State.bookBeacon
      simp only [hlast, hnone, if_true, hfresh', hexpected, Bool.false_eq_true, if_false]
  · refine ⟨s.advance p [] (b.lastSeq + 1), ?_, by simp, by simp, hlength _, ?_⟩
    · rw [if_neg hnone]
      exact State.advance_books hp hmissing _
    · unfold State.bookBeacon
      simp only [hlast, hnone, hfresh', hexpected, Bool.false_eq_true, if_false, false_and]

/-- A beacon of the epoch held whose time is not ahead, once it is booked: station 0's makes the snapshot and may
release HELD (R30, R113). -/
theorem State.Hears.receive_inStep {b : BeaconPayload} (hs : s.Hears h) (hseq : h.seq = 0#8)
    (hcourse : s.onCourse = true) (hepoch : h.epoch = s.epoch) (hgates : b.gateCount.toNat = s.gates)
    (holdest : b.oldest.isSome = (h.station == 0#8))
    (htime : b.courseTime.toNat + 1 ≤ s.clock.courseTime ∨ 86400000 < b.courseTime.toNat) {booked : State}
    (hbooked : (s.heard h).bookBeacon h.station.toNat b = booked) :
    s.receive ⟨h, .beacon b⟩ =
      if h.station = 0#8 then (booked.snapshotBeacon b).releaseHeld (b.oldest.getD 0#16).toNat else booked := by
  have hframe : booked.station.state = s.station.state ∧ booked.epoch = s.epoch ∧
      booked.clock.courseTime = s.clock.courseTime := by
    subst hbooked
    simp only [State.bookBeacon_frame]
    exact ⟨rfl, rfl, rfl⟩
  obtain ⟨hstate, hsame, hclock⟩ := hframe
  have hstep : booked.epochStep ⟨h, .beacon b⟩ = (booked, false) := by
    rw [State.epochStep_same (by rw [hstate]; exact State.onCourse_not_listening hcourse)
      (by rw [hsame, hepoch]; exact BitVec.lt_irrefl _)]
    exact Prod.ext rfl (decide_eq_false (by rw [hsame, hepoch]; exact BitVec.lt_irrefl _))
  rw [hs.receive_beacon hseq hgates holdest, hbooked, hstep]
  dsimp only
  rw [State.beaconContent_behind (by rw [hclock]; exact htime), hsame, if_pos hepoch]

/-- What the losses of a booking leave of the queue and the errors where they do not set HELD. -/
theorem State.Books.reported {p : Nat} {expected : Option Byte} {missing : List MissingEntry} {lost : List Byte}
    (hbooks : s.Books t p expected missing lost) (hp : p ≠ 0) :
    t.results = (lost.foldl (fun u y => u.append (lossContents p y)) s).results ∧
      t.station.errors = (if lost = [] then s.station.errors else s.station.errors.put true .e05) ∧
      t.assign = s.assign := by
  have hunmoved : s.Unmoved p := .inl hp
  exact ⟨hbooks.reports.results.trans (hunmoved.loseAll lost).1,
    hbooks.reports.errors.trans (State.loseAll_errors p lost s), hbooks.reports.assign.trans (State.loseAll_assign hp lost s)⟩

/-- A late join of station 0 sets HELD at stations 1 to N−1, and every pending crossing leaves (R75). -/
theorem State.setHeld_sets (hassigner : s.isAssigner = true) (hcourse : s.onCourse = true)
    (hheld : s.assign.held = false) (second : Nat) :
    s.setHeld second =
      State.strays
        { s with
          assign := { s.assign with held := true, boundary := max s.highestKnown second + 1, entries := [] } }
        .held s.assign.entries := by
  rw [State.setHeld_eq, if_pos ⟨hassigner, hcourse⟩, if_neg (by simp [hheld])]

/-- HELD is not released by an oldest run below the boundary (R76). -/
theorem State.releaseHeld_below {oldest : Nat} (hlow : 1 ≤ oldest) (hboundary : oldest < s.assign.boundary) :
    s.releaseHeld oldest = s := by
  unfold State.releaseHeld
  have hreleases : s.releases oldest = false := by
    simp [State.releases]
    omega
  rw [if_neg (by simp [hreleases])]

/-- The release of HELD, as a value (R76). -/
theorem State.releaseHeld_eq (hcourse : s.onCourse = true) (oldest : Nat) :
    s.releaseHeld oldest =
      { s with
        assign :=
          { s.assign with
            held :=
              if s.isAssigner = true ∧ s.assign.held = true ∧
                  (oldest = 0 ∨ s.assign.boundary ≤ oldest ∧ oldest ≤ 999) then false
              else s.assign.held
            boundary :=
              if s.isAssigner = true ∧ s.assign.held = true ∧
                  (oldest = 0 ∨ s.assign.boundary ≤ oldest ∧ oldest ≤ 999) then 0
              else s.assign.boundary } } := by
  have hreleases : s.releases oldest = true ↔ oldest = 0 ∨ s.assign.boundary ≤ oldest ∧ oldest ≤ 999 := by
    simp only [State.releases, Bool.or_eq_true, beq_iff_eq, Bool.and_eq_true, decide_eq_true_eq]
    rfl
  unfold State.releaseHeld
  by_cases hall : s.isAssigner = true ∧ s.assign.held = true ∧
      (oldest = 0 ∨ s.assign.boundary ≤ oldest ∧ oldest ≤ 999)
  · obtain ⟨ha, hheld, hdue⟩ := id hall
    rw [if_pos hall, if_pos hall, if_pos ⟨ha, hcourse, hheld, hreleases.2 hdue⟩]
  · rw [if_neg hall, if_neg hall, if_neg fun h => hall ⟨h.1, h.2.2.1, hreleases.1 h.2.2.2⟩]

/-- The peer just heard has its entry in the table, its bookkeeping as it was (R111). -/
theorem State.Hears.heard_entry (hs : s.Hears h) {p : Nat} (hp : h.station.toNat = p) :
    p < (s.heard h).receiver.peers.length ∧
      (s.heard h).peer p =
        ⟨.present, s.clock.courseTime, some (s.now + 1000), (s.peer p).expected, (s.peer p).missing⟩ := by
  subst hp
  exact ⟨by simpa [State.heard, State.heardAs] using hs.inTable, hs.heardAs_peer _ _⟩

/-- What losses of station 0 make of the Assignment Unit, as a value (R75). -/
theorem State.lost_assign (hcourse : s.onCourse = true) (lost : List Byte) :
    let sets : Bool := s.isAssigner && !lost.isEmpty
    let known : Nat := max s.highestKnown s.receiver.snapshot.highest + 1
    (s.loseAll 0 lost).assign =
      { s.assign with
        entries := if sets && !s.assign.held then [] else s.assign.entries
        held := s.assign.held || sets
        boundary :=
          if sets then (if s.assign.held then max s.assign.boundary known else known) else s.assign.boundary } := by
  intro sets known
  rw [State.loseAll_assign_eq]
  by_cases hlost : lost = []
  · simp [hlost, sets]
  · by_cases hassigner : s.isAssigner = true
    · have hsets : sets = true := by simp [sets, hassigner, hlost]
      by_cases hheld : s.assign.held = true
      · simp [State.lossAssign, hlost, hassigner, hcourse, hsets, hheld, known]
      · simp [State.lossAssign, hlost, hassigner, hcourse, hsets, hheld, known]
    · have hsets : sets = false := by simp [sets, hassigner]
      simp [State.lossAssign, hlost, hassigner, hsets]

/-- HELD after its release, in Bools. -/
theorem released_held (assigner held : Bool) (due : Prop) [Decidable due] :
    (if assigner = true ∧ held = true ∧ due then false else held) = (held && !(assigner && held && decide due)) := by
  by_cases hdue : due
  · cases assigner <;> simp [hdue]
  · simp [hdue]

/-- The release of HELD, in Bools. -/
theorem released_iff (assigner held : Bool) (due : Prop) [Decidable due] :
    (assigner = true ∧ held = true ∧ due) ↔ (assigner && held && decide due) = true := by
  simp [and_assoc]

/-- LINK LOSS results leave course time. -/
theorem foldl_loss_clock (p : Nat) : ∀ (lost : List Byte) (s : State),
    (lost.foldl (fun u y => u.append (lossContents p y)) s).clock = s.clock
  | [], _ => rfl
  | q :: qs, s => (foldl_loss_clock p qs (s.append (lossContents p q))).trans (by simp)

/-- Settles O29: a beacon in step, once booked, does what its booking does, and station 0's looks at HELD after it. -/
theorem aBeaconInStep : Obligations.ABeaconInStep := by
  refine ⟨?_, ?_, ?_, ?_⟩
  · intro s h b oldest hs hseq hcourse hepoch hgates holdest hsettled htime hmissing hfresh hsent hexpected heard
    have hheard : s.heard h = heard := by simp only [heard, State.heard, hexpected, hmissing]
    have hpeer : (s.heard h).peer h.station.toNat = _ := hs.heardAs_peer _ _
    have hbooked : (s.heard h).bookBeacon h.station.toNat b = heard :=
      (State.bookBeacon_nothing hfresh hsent (by rw [hpeer]; exact hexpected)).trans hheard
    have hreceive := hs.receive_inStep hseq hcourse hepoch hgates holdest htime hbooked
    have hsettle : ∀ t : State, t.outbox = s.outbox → t.line = heard.line → t.settleLine = t := fun t =>
      State.settleLine_heard hsettled
    refine ⟨fun hother => congrArg Host.Outcome.next ?_, fun hzero hrun => ?_⟩
    · rw [hreceive, if_neg hother]
      exact hsettle _ rfl rfl
    · refine congrArg Host.Outcome.next ?_
      rw [hreceive, if_pos hzero, hsettle _ (by simp; rfl) (by simp), hrun,
        State.releaseHeld_eq (s := heard.snapshotBeacon b) hcourse]
      simp only [State.snapshotBeacon, hrun]
      rfl
  · intro s h b e hs hseq hcourse hepoch hother hgates holdest htime p x fresh noneSent l d entry books
    have hp0 : p ≠ 0 := fun hzero => hother (BitVec.eq_of_toNat_eq hzero)
    obtain ⟨hlength, hpeer⟩ := hs.heard_entry (p := p) rfl
    have hbooks : ∀ booked expected missing lost, (s.heard h).bookBeacon p b = booked →
        (s.heard h).Books booked p expected missing lost → books expected missing lost := by
      intro booked expected missing lost hbooked hresult
      have hreceive := hs.receive_inStep hseq hcourse hepoch hgates (by simp [holdest, hother]) htime hbooked
      obtain ⟨hresults, herrors, hassign⟩ := hresult.reported hp0
      have hframe : booked.table = s.table ∧ booked.outbox.ring = s.outbox.ring := by
        subst hbooked
        simp only [State.bookBeacon_frame]
        exact ⟨rfl, rfl⟩
      refine ⟨booked.settleLine, congrArg Host.Outcome.next ?_, ?_⟩
      · rw [hreceive, if_neg hother]
      · rw [State.settleLine_eq]
        refine ⟨?_, ?_, herrors, hframe.1, hassign, hframe.2⟩
        · have hentry := hresult.peer
          rw [hpeer] at hentry
          exact hentry
        · exact hresults.trans (foldl_loss_results p lost rfl rfl)
    obtain ⟨hrestart, hsame, hrelist, htail, hbehind⟩ := State.bookBeacon_books (b := b) hlength
    rw [hpeer] at hrestart hrelist htail
    have hunbooked : (s.heard h).bookBeacon p b = s.heard h → books x.expected x.missing [] := fun hb => by
      have hbook := State.Books.same (s.heard h) p
      rw [hpeer] at hbook
      exact hbooks _ _ _ _ hb hbook
    have hjoins : fresh = false → x.expected = none → x.missing = [] →
        books (some (if noneSent = true then 0#8 else l + 1)) [] [] := by
      intro hfresh hexpected hmissing
      obtain ⟨joined, hjoined, -, -, -, hbooked⟩ := State.bookBeacon_joins (b := b) hlength hfresh
        (by rw [hpeer]; exact hexpected) (by rw [hpeer]; exact hmissing)
      rw [if_neg hp0] at hbooked
      exact hbooks _ _ _ _ hbooked hjoined
    refine ⟨fun hnone hfresh => hbooks _ _ _ _ rfl (hrestart hnone hfresh), fun hnone hfresh hexpected hmissing => ?_,
      fun hnone hfresh hexpected => hunbooked (hsame e hnone hfresh (by rw [hpeer]; exact hexpected)),
      fun hnone hfresh hexpected => hbooks _ _ _ _ rfl (hrelist hnone hfresh hexpected),
      fun hnone hfresh hexpected hmissing => ?_,
      fun hnone hfresh hexpected hmissing hd => hbooks _ _ _ _ rfl (htail e hnone hfresh hexpected hmissing hd),
      fun hnone hexpected hd hfresh => hunbooked (hbehind e hnone (by rw [hpeer]; exact hexpected) hd hfresh)⟩
    · have hbook := hjoins hfresh hexpected hmissing
      rwa [if_pos hnone] at hbook
    · have hbook := hjoins hfresh hexpected hmissing
      rwa [if_neg (by rw [hnone]; exact Bool.false_ne_true)] at hbook
  · intro s h b oldest hs hseq hcourse hepoch hzero hgates hrun htime hfresh hexpected hmissing hassigner hheld hlow
      hle hhigh
    have hp : h.station.toNat = 0 := by simp [hzero]
    obtain ⟨hlength, hpeer⟩ := hs.heard_entry hp
    obtain ⟨joined, hjoined, htable, -, -, hbooked⟩ := State.bookBeacon_joins (b := b) hlength hfresh
      (by rw [hpeer]; exact hexpected) (by rw [hpeer]; exact hmissing)
    have hreports : (s.heard h).ReportsAlike joined := hjoined.reports
    have hhighest : heldRun b.highest = b.highest.toNat := if_pos hhigh
    rw [if_pos rfl, hhighest, State.setHeld_sets (hreports.assigner.trans hassigner) (hreports.course.trans hcourse)
      (by rw [hreports.assign]; exact hheld), hreports.known, hreports.assign] at hbooked
    obtain ⟨booked, hbooked'⟩ : ∃ booked, (s.heard h).bookBeacon 0 b = booked := ⟨_, rfl⟩
    rw [hbooked'] at hbooked
    have hreceive := hs.receive_inStep (booked := booked) hseq hcourse hepoch hgates (by simp [hrun, hzero]) htime
      (by rw [hp]; exact hbooked')
    have hassign : booked.assign =
        { s.assign with held := true, boundary := max s.highestKnown b.highest.toNat + 1, entries := [] } := by
      rw [hbooked, State.strays_assign]
      rfl
    have hbelow : oldest.toNat < (booked.snapshotBeacon b).assign.boundary := by
      show oldest.toNat < booked.assign.boundary
      rw [hassign]
      show oldest.toNat < max s.highestKnown b.highest.toNat + 1
      omega
    rw [if_pos hzero, hrun, State.releaseHeld_below (by exact hlow) (by exact hbelow)] at hreceive
    refine ⟨State.settleLine _, congrArg (fun u => Host.Outcome.next (State.settleLine u)) hreceive, ?_⟩
    rw [State.settleLine_eq]
    have hentry : booked.peer 0 = joined.peer 0 := by simp [hbooked, State.peer]
    refine ⟨congrArg Assign.held hassign, congrArg Assign.boundary hassign, congrArg Assign.entries hassign, ?_, ?_, ?_, ?_⟩
    · show booked.results = _
      rw [hbooked]
      exact State.strays_results (by exact hreports.results) (by exact hreports.time) _ _
    · show (booked.peer 0).expected = _
      rw [hentry, hjoined.peer]
    · show (booked.peer 0).missing = _
      rw [hentry, hjoined.peer]
    · show booked.table = _
      simp only [hbooked, State.strays_frame, htable]
      rfl
  · intro s h b oldest e hs hseq hcourse hepoch hzero hgates hrun htime x fresh noneSent l d entry books
    have hp : h.station.toNat = 0 := by simp [hzero]
    obtain ⟨hlength, hpeer⟩ := hs.heard_entry hp
    have hbooks : ∀ booked expected missing lost, (s.heard h).bookBeacon 0 b = booked →
        (s.heard h).Books booked 0 expected missing lost → books expected missing lost := by
      intro booked expected missing lost hbooked hresult
      have hreceive := hs.receive_inStep (booked := booked) hseq hcourse hepoch hgates (by simp [hrun, hzero]) htime
        (by rw [hp]; exact hbooked)
      have hreports := hresult.reports
      have hon : (s.heard h).onCourse = s.onCourse ∧ (s.heard h).isAssigner = s.isAssigner := ⟨rfl, rfl⟩
      have hsame : (s.heard h).assign = s.assign := rfl
      rw [if_pos hzero, hrun, State.releaseHeld_eq (s := booked.snapshotBeacon b)
        (by rw [show (booked.snapshotBeacon b).onCourse = booked.onCourse from rfl, hreports.course]; simpa [hon] using hcourse)]
        at hreceive
      have hframe : booked.table = s.table ∧ booked.outbox.ring = s.outbox.ring := by
        subst hbooked
        simp only [State.bookBeacon_frame]
        exact ⟨rfl, rfl⟩
      refine ⟨State.settleLine _, congrArg (fun u => Host.Outcome.next (State.settleLine u)) hreceive, ?_⟩
      rw [State.settleLine_eq]
      refine ⟨?_, ?_, ?_, ?_, hframe.1, hframe.2⟩
      · have hentry := hresult.peer
        rw [hpeer] at hentry
        exact hentry
      · have hstrayed : (if lost ≠ [] ∧ 0 = 0 ∧ (s.heard h).isAssigner = true ∧ (s.heard h).onCourse = true ∧
              (s.heard h).assign.held = false then (s.heard h).assign.entries else []) =
            if (s.isAssigner && !lost.isEmpty && !s.assign.held) = true then s.assign.entries else [] :=
          if_congr (by simp [hon, hcourse, hsame]; tauto) rfl rfl
        refine hreports.results.trans ?_
        rw [State.loseAll_results, hstrayed]
        refine foldl_loss_results 0 _ (State.strays_results (foldl_loss_results (s := s) (t := s.heard h) 0 _ rfl rfl) ?_ _ _) ?_
        · rw [foldl_loss_clock]
          exact (congrArg Clock.courseTime (foldl_loss_clock 0 (lost.take 1) s)).symm
        · simp only [State.strays_frame, foldl_loss_clock]
          exact (congrArg Clock.courseTime (foldl_loss_clock 0 (lost.take 1) s)).symm
      · exact hreports.errors.trans (State.loseAll_errors 0 lost _)
      · have hassign := hreports.assign.trans (State.lost_assign (s := s.heard h) hcourse lost)
        have hassigner : (booked.snapshotBeacon b).isAssigner = s.isAssigner :=
          hreports.assigner.trans (by simp [hon])
        have hknown : (s.heard h).highestKnown = s.highestKnown := rfl
        dsimp only at hassign
        rw [hon.2, hsame, hknown] at hassign
        rw [hassigner, show (booked.snapshotBeacon b).assign = booked.assign from rfl, hassign, released_held,
          if_congr (released_iff _ _ _) rfl rfl]
        rfl
    obtain ⟨hrestart, hsame, hrelist, htail, hbehind⟩ := State.bookBeacon_books (b := b) hlength
    rw [hpeer] at hrestart hrelist htail
    have hunbooked : (s.heard h).bookBeacon 0 b = s.heard h → books x.expected x.missing [] := fun hb => by
      have hbook := State.Books.same (s.heard h) 0
      rw [hpeer] at hbook
      exact hbooks _ _ _ _ hb hbook
    exact ⟨fun hnone hfresh => hbooks _ _ _ _ rfl (hrestart hnone hfresh),
      fun hnone hfresh hexpected => hunbooked (hsame e hnone hfresh (by rw [hpeer]; exact hexpected)),
      fun hnone hfresh hexpected => hbooks _ _ _ _ rfl (hrelist hnone hfresh hexpected),
      fun hnone hfresh hexpected hmissing hd => hbooks _ _ _ _ rfl (htail e hnone hfresh hexpected hmissing hd),
      fun hnone hexpected hd hfresh => hunbooked (hbehind e hnone (by rw [hpeer]; exact hexpected) hd hfresh)⟩

end

end Sys2Proof.Machine
end

section
/-! PROOFS. The close and a silencing error that fall together, in either order. -/

namespace Sys2Proof.Machine

section
variable {s t u v : State}

/-! ### STRAY results in a queue with room -/

/-- What of a result says which it is, wherever and whenever it is appended. -/
def ResultRecord.named (r : ResultRecord) : ResultKind × Reason × Option Nat := (r.kind, r.reason, r.value)

/-- The queue has gained results at its end, named so (R159). -/
def State.Gains (s t : State) (names : List (ResultKind × Reason × Option Nat)) : Prop :=
  ∃ new, t.results.records = s.results.records ++ new ∧ new.map ResultRecord.named = names

/-- Results gained after others. -/
theorem State.Gains.trans {l l' : List (ResultKind × Reason × Option Nat)} (h : s.Gains t l) (h' : t.Gains u l') :
    s.Gains u (l ++ l') := by
  obtain ⟨new, hrec, hnames⟩ := h
  obtain ⟨new', hrec', hnames'⟩ := h'
  exact ⟨new ++ new', by rw [hrec', hrec, List.append_assoc], by rw [List.map_append, hnames, hnames']⟩

/-- A queue that stays gains nothing. -/
theorem State.Gains.none (h : t.results = s.results) : s.Gains t [] := ⟨[], by simp [h], rfl⟩

/-- The results gained are those behind the ones that stood before. -/
theorem State.Gains.drop {l : List (ResultKind × Reason × Option Nat)} (h : s.Gains t l) :
    (t.results.records.drop s.results.records.length).map ResultRecord.named = l ∧
      t.results.records.length = s.results.records.length + l.length := by
  obtain ⟨new, hrec, rfl⟩ := h
  rw [hrec]
  simp

/-- An append to a queue with room (R159). -/
theorem State.append_gains (s : State) (c : ResultContents) (h : s.results.records.length < 24) :
    s.Gains (s.append c) [(c.kind, c.reason, c.value)] := by
  rw [s.append_room c h]
  exact ⟨_, rfl, rfl⟩

/-- STRAY results appended to a queue with room (R60, R159). -/
theorem State.strays_gains (reason : StrayReason) : ∀ (l : List PendingEntry) (s : State),
    s.results.records.length + l.length ≤ 24 →
      s.Gains (s.strays reason l) (l.map (fun e => (.stray, .stray reason, some e.time)))
  | [], _, _ => .none rfl
  | e :: es, s, h => by
    rw [List.length_cons] at h
    have hfirst : s.Gains (s.stray reason e.time e.manual) [(.stray, .stray reason, some e.time)] :=
      s.append_gains _ (by omega)
    have hlength := hfirst.drop.2
    exact hfirst.trans (State.strays_gains reason es _ (by rw [hlength]; simp; omega))

/-! ### The close with crossings pending -/

/-- The close appends a STRAY CLOSED for each pending crossing, and after them the CLOSED result (R38, R70; assumption
log 11). -/
theorem State.close_gains (s : State) (h : s.results.records.length + s.assign.entries.length + 1 ≤ 24) :
    s.Gains s.close
      (s.assign.entries.map (fun e => (.stray, .stray .closed, some e.time)) ++
        [(.closed, .empty, some s.epoch.toNat)]) := by
  let w : State :=
    State.withEntries { s with station := { s.station with state := .closed, closedSpeaking := s.isActive } } []
  have hstrays : s.Gains (w.strays .closed s.assign.entries)
      (s.assign.entries.map (fun e => (.stray, .stray .closed, some e.time))) :=
    State.strays_gains .closed s.assign.entries w (by show s.results.records.length + _ ≤ 24; omega)
  have hraised : s.Gains ((w.strays .closed s.assign.entries).raise .e10)
      (s.assign.entries.map (fun e => (.stray, .stray .closed, some e.time))) := by
    rw [State.raise_eq]
    exact hstrays
  have hlength := hraised.drop.2
  rw [List.length_map] at hlength
  have hlast := State.append_gains ((w.strays .closed s.assign.entries).raise .e10) (closedContents s.epoch)
    (by omega)
  have hall := hraised.trans hlast
  have hclose : s.close = ((w.strays .closed s.assign.entries).raise .e10).append (closedContents s.epoch) := by
    simp only [State.close, State.strayEntries, closedContents]
    congr 2
  rw [hclose]
  exact hall

/-- No entry that expires and nothing missing: the close falls alone. -/
theorem State.together_close_alone (htime : s.clock.courseTime = Config.timeLimit) (hstop : s.clock.stopTicks = 0)
    (hstate : s.station.state = .active ∨ s.station.state = .mute)
    (hahead : ∀ e ∈ s.assign.entries, 86400000 < e.deadline) (hmissing : ∀ p ∈ s.receiver.peers, p.missing = []) :
    s.together = [.close] := by
  have hexpire : s.assign.entries.any (fun e => decide (e.deadline ≤ s.now)) = false := by
    rw [List.any_eq_false]
    intro e he
    have hdeadline := hahead e he
    simp only [State.now, htime, hstop, Config.timeLimit, decide_eq_true_eq]
    omega
  have hempty := State.together_close (s := s.withEntries []) htime hstate rfl hmissing
  unfold State.together at hempty ⊢
  rw [hexpire]
  exact hempty

/-- The tick that reaches the limit with no expiry and no retry is the close (R38). -/
theorem exec_millisecondTick_close (hreach : s.clock.courseTime + 1 = Config.timeLimit) (hstop : s.clock.stopTicks = 0)
    (hstate : s.station.state = .active ∨ s.station.state = .mute)
    (hahead : ∀ e ∈ s.assign.entries, 86400000 < e.deadline) (hmissing : ∀ p ∈ s.receiver.peers, p.missing = []) :
    exec .millisecondTick s =
      .next
        (State.close
          { s with
            clock := { s.clock with courseTime := Config.timeLimit, phase := 0 }
            freeIndex := s.freeIndex + 1 }).settleLine := by
  have htogether := State.together_close_alone
    (s := { s with clock := { s.clock with courseTime := Config.timeLimit, phase := 0 } }) rfl hstop hstate hahead hmissing
  rw [exec_millisecondTick_limit hreach hstate]
  unfold State.fallTogether
  rw [htogether]
  exact congrArg (fun w => Host.Outcome.next (State.settleLine w)) (if_pos ⟨rfl, hstate⟩)

/-! ### A silencing error -/

/-- Two states that differ in the line and the Outbox alone. -/
structure State.Beside (s t : State) : Prop where
  station : t.station = s.station
  results : t.results = s.results
  clock : t.clock = s.clock
  assign : t.assign = s.assign
  epoch : t.epoch = s.epoch
  peers : t.receiver.peers = s.receiver.peers

/-- The two silencing errors: a sixteenth failed attempt, or a frame with this station's number (R109, R139). -/
def State.Silencing (s : State) (c : Instr) (code : ErrorCode) : Prop :=
  (c = .readbackMismatch ∧ code = .e02 ∧ s.line.failed = 15 ∧ s.sending = true) ∨
    ∃ f, c = frameCommand f ∧ code = .e01 ∧ s.sending = false ∧ f.wellFormed = true ∧
      f.header.station = s.stationByte

/-- The unit of a silenced ACTIVE or CLOSED station is OFF (R131). -/
theorem State.silence_off (hstate : s.station.state = .active ∨ s.station.state = .closed) :
    s.silence.line.tx = .off := by
  rcases hstate with h | h
  · rw [s.silence_cases.2.1 h]
    simp [State.muteFromActive, State.stopSpeaking, State.enter]
  · rw [s.silence_cases.2.2.1 h]
    rfl

/-- A unit that begins to wait was not sending, and is not (R131). -/
theorem State.settleLine_sending (s : State) : s.settleLine.sending = s.sending := by
  unfold State.settleLine
  split
  next h =>
    simp only [State.sending, h.1]
    rfl
  next => rfl

/-- A silencing error, in ACTIVE or CLOSED: its code is raised and the station silenced, the rest being the line's and
the Outbox's (R109, R139). -/
theorem State.Silencing.exec_eq {c : Instr} {code : ErrorCode} (h : s.Silencing c code)
    (hstate : s.station.state = .active ∨ s.station.state = .closed) :
    ∃ v, s.Beside v ∧ exec c s = .next (v.raise code).silence := by
  rcases h with ⟨rfl, rfl, hfailed, hsending⟩ | ⟨f, rfl, rfl, hsending, hwf, hown⟩
  · cases htx : s.line.tx with
    | off => simp [State.sending, htx] at hsending
    | idle => simp [State.sending, htx] at hsending
    | waiting gap slot => simp [State.sending, htx] at hsending
    | sending source f n =>
      refine ⟨State.afterFrame
        { s with
          outbox := s.outbox.frameFailed source
          line :=
            { ((s.line.readBack !s.drives).dropOwn f).startRest with
              tx := .idle, failed := 16 } }, ⟨rfl, rfl, rfl, rfl, rfl, rfl⟩, ?_⟩
      show execReadbackMismatch s = _
      unfold execReadbackMismatch
      rw [htx, hfailed]
      rfl
  · have hreceives := State.receives_of (s := s) (by rcases hstate with h | h <;> simp [h])
    refine ⟨s.frameHandedOn, ⟨rfl, rfl, rfl, rfl, rfl, rfl⟩, ?_⟩
    have hraised : s.selfHeard = s.frameHandedOn.raise .e01 := by
      rw [State.raise_eq]
      rfl
    rw [exec_frameCommand, State.receive_own hreceives hwf hown hsending, hraised, State.settleLine_not_idle]
    rw [State.silence_off (by simpa using hstate)]
    simp

/-- What a silenced station no longer does (R104, R131). -/
structure State.Silent (s : State) : Prop where
  control : s.outbox.control = []
  timer : s.outbox.beaconTimer = none
  tx : s.line.tx = .off

/-- A silenced ACTIVE station: MUTE, its crossings gone as STRAY MUTE (R70, R152). -/
theorem State.Beside.mutes {code : ErrorCode} (h : s.Beside v) (hstate : s.station.state = .active)
    (hroom : s.results.records.length + s.assign.entries.length ≤ 24) :
    let t := (v.raise code).silence
    t.Silent ∧ t.station.state = .mute ∧ t.station.errors = s.station.errors.put true code ∧ t.clock = s.clock ∧
      t.assign.entries = [] ∧ t.epoch = s.epoch ∧ t.receiver.peers = s.receiver.peers ∧
      s.Gains t (s.assign.entries.map (fun e => (.stray, .stray .mute, some e.time))) := by
  intro t
  have hactive : (v.raise code).station.state = .active := by simpa [h.station] using hstate
  have ht : t = State.strays (((v.raise code).enter .mute).stopSpeaking.withEntries []) .mute s.assign.entries := by
    refine (State.silence_cases _).2.1 hactive |>.trans ?_
    rw [State.muteFromActive, State.strayEntries]
    congr 1
    simp [State.stopSpeaking, State.enter, h.assign]
  have hgains : s.Gains t (s.assign.entries.map (fun e => (.stray, .stray .mute, some e.time))) := by
    rw [ht]
    have hresults : (((v.raise code).enter .mute).stopSpeaking.withEntries []).results = s.results := by
      rw [State.raise_eq]
      exact h.results
    have hstrays := State.strays_gains .mute s.assign.entries
      (((v.raise code).enter .mute).stopSpeaking.withEntries []) (by rw [hresults]; exact hroom)
    unfold State.Gains at hstrays
    rwa [hresults] at hstrays
  refine ⟨?_, ?_, ?_, ?_, ?_, ?_, ?_, hgains⟩
  · rw [ht]
    exact ⟨by simp [State.withEntries, State.stopSpeaking], by simp [State.withEntries, State.stopSpeaking],
      by simp [State.withEntries, State.stopSpeaking]⟩
  · simp [ht, State.withEntries, State.stopSpeaking, State.enter]
  · simp [ht, State.withEntries, State.stopSpeaking, State.enter, State.raise_eq, h.station]
  · simp [ht, State.withEntries, State.stopSpeaking, State.enter, h.clock]
  · simp [ht, State.withEntries]
  · simp [ht, State.withEntries, State.stopSpeaking, State.enter, h.epoch]
  · simp [ht, State.withEntries, State.stopSpeaking, State.enter, h.peers]

/-- A silenced CLOSED station: it stops speaking, and that is all (R104, R153). -/
theorem State.Beside.quiets {code : ErrorCode} (h : s.Beside v) (hstate : s.station.state = .closed) :
    let t := (v.raise code).silence
    t.Silent ∧ t.station.state = .closed ∧ t.speaking = false ∧
      t.station.errors = s.station.errors.put true code ∧ t.results = s.results := by
  intro t
  have hclosed : (v.raise code).station.state = .closed := by simpa [h.station] using hstate
  have ht : t = (v.raise code).stopSpeaking := (State.silence_cases _).2.2.1 hclosed
  refine ⟨?_, ?_, ?_, ?_, ?_⟩
  · rw [ht]
    exact ⟨rfl, rfl, rfl⟩
  · rw [ht]
    exact hclosed
  · have hstays : t.station.state = .closed := by
      rw [ht]
      exact hclosed
    rw [State.speaking, hstays, ht]
    rfl
  · simp [ht, State.stopSpeaking, State.raise_eq, h.station]
  · rw [ht, State.stopSpeaking]
    simp [h.results]

/-- E10 and a silencing code raised one after the other are both pending (R155). -/
theorem ErrorSet.put_both (x : ErrorSet) {code : ErrorCode} (h : code = .e01 ∨ code = .e02) :
    (((x.put true code).put true .e10).has code = true ∧ ((x.put true code).put true .e10).e10 = true) ∧
      ((x.put true .e10).put true code).has code = true ∧ ((x.put true .e10).put true code).e10 = true := by
  rcases h with rfl | rfl <;> exact ⟨⟨rfl, rfl⟩, rfl, rfl⟩

/-- Settles O47: the close and then the error, the error and then the close. -/
theorem theCloseMeetsASilencingError : Obligations.TheCloseMeetsASilencingError := by
  intro s c code f source n hactive hreach hstop hahead hmissing hroom hsilencing ends
  have hstate : s.station.state = .active := by simpa [State.isActive] using hactive
  have hcode : code = .e01 ∨ code = .e02 := by
    rcases hsilencing with ⟨-, rfl, -⟩ | ⟨-, rfl, -⟩
    · exact .inr rfl
    · exact .inl rfl
  have hsilences : ∀ u : State, u.line.failed = s.line.failed → u.sending = s.sending →
      u.stationByte = s.stationByte → u.Silencing c code := by
    intro u hfailed hsending hbyte
    rcases hsilencing with ⟨hc, hcode, hlast, htx⟩ | ⟨hc, hcode, hnot, hwf, hown⟩
    · exact .inl ⟨hc, hcode, hfailed.trans hlast, hsending.trans (by simp [State.sending, htx])⟩
    · exact .inr ⟨f, hc, hcode, hsending.trans hnot, hwf, hown.trans hbyte.symm⟩
  constructor
  · let w : State :=
      { s with clock := { s.clock with courseTime := Config.timeLimit, phase := 0 }, freeIndex := s.freeIndex + 1 }
    have hgains : s.Gains w.close _ := w.close_gains hroom
    let u := w.close.settleLine
    have hclosed := w.close_closedFrom
    have hu : u.station = w.close.station ∧ u.results = w.close.results := by simp [u]
    have hustate : u.station.state = .closed := by rw [hu.1]; exact hclosed.state
    obtain ⟨v, hbeside, hexec⟩ := (hsilences u (by simp [u, w])
      ((State.settleLine_sending _).trans (by simp [w]; rfl)) (by simp [u, w]; rfl)).exec_eq
      (.inr hustate)
    obtain ⟨hsilent, hstays, hquiet, herrors, hresults⟩ := hbeside.quiets (code := code) hustate
    have hcodes := (s.station.errors.put_both hcode).2
    have hpending : (v.raise code).silence.station.errors = (s.station.errors.put true .e10).put true code := by
      rw [herrors, hu.1, State.close_errors]
    have hqueue : (v.raise code).silence.results = w.close.results := hresults.trans hu.2
    refine ⟨u, exec_millisecondTick_close hreach hstop (.inl hstate) hahead hmissing, hustate, _, hexec, hstays, hquiet,
      ?_, ?_, hsilent.control, hsilent.timer, hsilent.tx, ?_⟩
    · rw [hpending]
      exact hcodes.1
    · rw [hpending]
      exact hcodes.2
    · rw [hqueue]
      exact hgains.drop.1
  · obtain ⟨v, hbeside, hexec⟩ := (hsilences s rfl rfl rfl).exec_eq (.inl hstate)
    obtain ⟨hsilent, hmute, herrors, hclock, hempty, hepoch, hpeers, hgains⟩ := hbeside.mutes (code := code) hstate (by omega)
    let u := (v.raise code).silence
    have htick := exec_millisecondTick_close (s := u) (by rw [hclock]; exact hreach) (by rw [hclock]; exact hstop)
      (.inr hmute) (by simp [u, hempty]) (by rw [hpeers]; exact hmissing)
    let w : State :=
      { u with clock := { u.clock with courseTime := Config.timeLimit, phase := 0 }, freeIndex := u.freeIndex + 1 }
    have hclosed := w.close_closedFrom
    have hlength := hgains.drop.2
    rw [List.length_map] at hlength
    have hlast : u.Gains w.close _ := w.close_gains (by
      show u.results.records.length + u.assign.entries.length + 1 ≤ 24
      rw [hempty, hlength]
      simpa using hroom)
    have hall := hgains.trans hlast
    rw [show w.assign.entries = [] from hempty, show w.epoch = s.epoch from hepoch] at hall
    have hcodes := (s.station.errors.put_both hcode).1
    have hpending : w.close.station.errors = (s.station.errors.put true code).put true .e10 := by
      rw [State.close_errors]
      exact congrArg (fun x => ErrorSet.put x true .e10) herrors
    have hsettle : w.close.settleLine = w.close := State.settleLine_not_idle (by
      have htx : w.line.tx = .off := hsilent.tx
      simp [htx])
    have hspeaking : w.close.speaking = false := by
      rw [State.speaking, hclosed.state]
      refine hclosed.speaking.trans ?_
      have hnot : w.station.state = .mute := hmute
      simp [State.isActive, hnot]
    refine ⟨u, hexec, hmute, w.close, htick.trans (congrArg Host.Outcome.next hsettle), hclosed.state, hspeaking, ?_, ?_,
      ?_, ?_, ?_, ?_⟩
    · rw [hpending]
      exact hcodes.1
    · rw [hpending]
      exact hcodes.2
    · simpa using hsilent.control
    · simpa using hsilent.timer
    · simpa using hsilent.tx
    · exact hall.drop.1

end

end Sys2Proof.Machine
end

section
/-! PROOFS. The Line Access Unit: what the Outbox hands over, a frame that went out whole, and a readback mismatch. -/

namespace Sys2Proof.Machine

section
variable {s t : State} {l : LineUnit}

/-! ### The stop bit and the rest -/

/-- The stop bit that has been read is the reading at 304 periods or more (R127). -/
theorem LineUnit.inStopBit_iff (l : LineUnit) :
    l.inStopBit = true ↔ ∃ r : Reading, l.reading = some r ∧ 304 ≤ r.periods := by
  unfold LineUnit.inStopBit
  cases l.reading with
  | none => simp
  | some r =>
    simp only [decide_eq_true_eq, Option.some.injEq, exists_eq_left']
    rfl

/-- The same, as the model's statements write it. -/
theorem LineUnit.inStopBit_any (l : LineUnit) :
    l.inStopBit = l.reading.any (fun (r : Reading) => decide (304 ≤ r.periods)) := by
  unfold LineUnit.inStopBit
  cases l.reading with
  | none => rfl
  | some r => rfl

/-- A rest that is due comes into force outside the stop bit (R134). -/
theorem LineUnit.settleRest_due (hdue : l.restDue = true) (hstop : l.inStopBit = false) :
    l.settleRest = { l with rest := true, restPeriods := 0, restDue := false } := by
  unfold LineUnit.settleRest
  rw [hdue, hstop]
  rfl

/-- A rest that is not due, or whose stop bit is on the line, stays as it is (R134). -/
theorem LineUnit.settleRest_stays (h : l.restDue = false ∨ l.inStopBit = true) : l.settleRest = l := by
  unfold LineUnit.settleRest
  rcases h with h | h
  · rw [h]
    rfl
  · rw [h, Bool.not_true, Bool.and_false]
    rfl

/-! ### The Outbox's choice (R105, R132) -/

/-- The frame chosen goes on the idle line (R132). -/
theorem State.transmitStart_sends {gap : Nat} {slot : Option Nat} {source : TxSource} {frame : Frame}
    (htx : s.line.tx = .waiting gap slot) (hidle : s.line.busy = false) (h : s.chooseFrame = some (source, frame)) :
    exec .transmitStart s =
      .next
        { s with
          line :=
            { s.line with
              tx := .sending source frame 0
              reading := some ⟨0, []⟩
              idlePeriods := 0
              restPeriods := if s.line.rest then 0 else s.line.restPeriods }
          outbox :=
            { s.outbox with beaconDue := if source = .beacon then false else s.outbox.beaconDue } } := by
  have hwaiting : s.isWaiting = true := by simp [State.isWaiting, htx]
  show execTransmitStart s = _
  unfold execTransmitStart
  rw [if_pos ⟨hwaiting, hidle⟩, h]
  rfl

/-- Settles O37: the choice in its order, and the unit with none. -/
theorem theOutboxChoosesAFrame : Obligations.TheOutboxChoosesAFrame := by
  intro s gap slot f r q o rest sent unsent e htx
  refine ⟨fun hbusy => ?_, fun hidle => ?_⟩
  · exact congrArg Host.Outcome.next (if_neg fun h => by simp [hbusy] at h)
  · intro sends head
    have hcontrol : ∀ entry : ControlEntry, s.outbox.control = entry :: rest →
        exec .transmitStart s = .next (sends .control (s.controlFrame entry)) := by
      intro entry hentries
      have hchoice : s.chooseFrame = some (.control, s.controlFrame entry) := by
        simp only [State.chooseFrame, hentries]
      exact State.transmitStart_sends htx hidle hchoice
    refine ⟨hcontrol (.copy f), hcontrol (.gone r q o), hcontrol (.askRepeat r q), fun hnone hdue => ?_,
      fun hnone hdue hfirst hring hsent hunsent => ?_, fun hnone hdue hready => ?_⟩
    · rw [State.transmitStart_sends htx hidle (source := .beacon) (frame := s.beaconFrame)
        (by simp only [State.chooseFrame, hnone, hdue, if_true])]
      simp only [State.beaconFrame, State.beaconFlags, Option.isNone_iff_eq_none]
      rfl
    · have holdest : s.oldestUnsent = some e.frame := by
        rw [State.oldestUnsent, hring, List.find?_append, List.find?_eq_none.2 (fun x hx => by simp [hsent x hx])]
        simp [hunsent]
      exact State.transmitStart_sends htx hidle
        (by simp only [State.chooseFrame, hnone, hdue, hfirst, holdest, Bool.false_eq_true, if_false, if_true]; rfl)
    · have hchoice : s.chooseFrame = none := by
        simp only [State.chooseFrame, hnone, hdue, Bool.false_eq_true, if_false]
        split
        next hfirst =>
          have hall : ∀ x ∈ s.outbox.ring, x.sent = true := hready.resolve_left (by simp [hfirst])
          have hnone : s.outbox.ring.find? (fun e => !e.sent) = none :=
            List.find?_eq_none.2 fun x hx => by simp [hall x hx]
          rw [State.oldestUnsent, hnone]
          rfl
        next => rfl
      have hwaiting : s.isWaiting = true := by simp [State.isWaiting, htx]
      show execTransmitStart s = _
      unfold execTransmitStart
      rw [if_pos ⟨hwaiting, hidle⟩, hchoice]
      rfl

/-! ### A frame that went out whole -/

/-- The oldest UNSENT entry behind the SENT ones becomes SENT (R101). -/
theorem markSent_append {sent unsent : List RingEntry} {e : RingEntry} (hsent : ∀ x ∈ sent, x.sent = true)
    (he : e.sent = false) : markSent (sent ++ e :: unsent) = sent ++ { e with sent := true } :: unsent := by
  induction sent with
  | nil => simp [markSent, he]
  | cons x xs ih =>
    rw [List.cons_append, markSent, if_pos (hsent x (by simp)), ih fun y hy => hsent y (by simp [hy])]
    rfl

/-- TRANSMIT_COMPLETE: the unit after its frame, by whether another is ready (R134, R136). -/
theorem State.transmitComplete_eq {source : TxSource} {frame : Frame} {n : Nat} {ready : Bool}
    (htx : s.line.tx = .sending source frame n)
    (hready : State.frameReady { s with outbox := s.outbox.frameSent source frame } = ready) :
    exec .transmitComplete s =
      .next
        { s with
          outbox := s.outbox.frameSent source frame
          line :=
            { s.line with
              tx := if ready then .waiting 76 none else .idle
              restDue := true
              restPeriods := if s.line.rest then 0 else s.line.restPeriods
              failed := 0
              idlePeriods := 0
              dominant := false
              reading :=
                if s.line.reading.any (fun (r : Reading) => decide (304 ≤ r.periods)) then s.line.reading
                else some ⟨304, []⟩
              rx := .ignoring
              complete := none } } := by
  subst hready
  rw [← LineUnit.inStopBit_any]
  show execTransmitComplete s = _
  unfold execTransmitComplete
  rw [htx]
  refine congrArg Host.Outcome.next ?_
  unfold State.afterFrame State.startWaiting LineUnit.gap
  simp [LineUnit.madeBusy, Config.restBits, Config.periodsPerBit]
  refine ⟨?_, rfl⟩
  rfl

/-- Settles O38: the rest that is due, and the Outbox told of each kind of frame. -/
theorem aTransmissionCompletes : Obligations.ATransmissionCompletes := by
  refine ⟨fun l => ?_, fun s source frame n sent unsent e htx hrun => ?_⟩
  · intro stopBit
    refine ⟨fun hdue hnot => ?_, fun h => ?_⟩
    · exact LineUnit.settleRest_due hdue (by rwa [← Bool.not_eq_true, l.inStopBit_iff])
    · exact LineUnit.settleRest_stays (h.imp_right l.inStopBit_iff.2)
  · intro after unsentWaits
    refine ⟨fun hsource => ?_, fun hsource => ?_, fun hsource hring hsent hunsent => ?_⟩
    · subst hsource
      refine State.transmitComplete_eq htx ?_
      have hmore : (!(s.outbox.control.drop 1).isEmpty) = decide (2 ≤ s.outbox.control.length) := by
        match s.outbox.control with
        | [] => rfl
        | [_] => rfl
        | _ :: _ :: _ => simp
      rw [State.frameReady]
      show (!(s.outbox.control.drop 1).isEmpty || _ || _) = _
      rw [hmore]
      rfl
    · subst hsource
      exact State.transmitComplete_eq htx (by simp [State.frameReady, Outbox.frameSent])
    · subst hsource
      have hmark : s.outbox.frameSent .ring frame =
          { s.outbox with
            ring := sent ++ { e with sent := true } :: unsent, lastSent := some frame.header.seq } := by
        rw [Outbox.frameSent, hring, markSent_append hsent hunsent]
      have hany : (sent ++ { e with sent := true } :: unsent).any (fun x => !x.sent) = unsent.any (fun x => !x.sent) := by
        have hnone : sent.any (fun x => !x.sent) = false := List.any_eq_false.2 fun x hx => by simp [hsent x hx]
        simp [hnone]
      have hcomplete := State.transmitComplete_eq (s := s) htx rfl
      rw [hmark] at hcomplete
      refine hcomplete.trans ?_
      simp only [State.frameReady, hany]
      rfl

/-! ### A readback mismatch -/

/-- The last byte of a frame is the low byte of its check: with another in its place it is no frame (R130, R188). -/
theorem readFrame_damaged {f : Frame} {b : Byte} (hwf : f.wellFormed = true) (hlast : f.bytes.getLast? ≠ some b) :
    readFrame (f.bytes.dropLast ++ [b]) = none := by
  obtain ⟨⟨station, epoch, seq⟩, p⟩ := f
  have hlen : (BitVec.ofNat 8 p.bytes.length).toNat = p.bytes.length := by
    have := payload_length_le p
    simp only [BitVec.toNat_ofNat]
    omega
  let check : Word16 := crc (Frame.body ⟨⟨station, epoch, seq⟩, p⟩)
  let front : List Byte :=
    [preamble, p.kindCode, station, epoch.extractLsb' 8 8, epoch.extractLsb' 0 8, seq, BitVec.ofNat 8 p.bytes.length] ++
      (p.bytes ++ [check.extractLsb' 8 8])
  have hbytes : Frame.bytes ⟨⟨station, epoch, seq⟩, p⟩ = front ++ [check.extractLsb' 0 8] := by
    simp [front, check, Frame.bytes, Frame.body, bytes16]
  have hne : check.extractLsb' 0 8 ≠ b := fun heq => hlast (by rw [hbytes, heq]; simp)
  rw [hbytes, List.dropLast_concat]
  have hfront : front ++ [b] =
      preamble :: p.kindCode :: station :: epoch.extractLsb' 8 8 :: epoch.extractLsb' 0 8 :: seq ::
        BitVec.ofNat 8 p.bytes.length :: (p.bytes ++ [check.extractLsb' 8 8, b]) := by
    simp [front]
  rw [hfront]
  simp only [readFrame, hlen, List.take_left, List.drop_left]
  have hcheck : [check.extractLsb' 8 8, b] ≠ bytes16 check := fun heq => by
    simp only [bytes16, List.cons.injEq, and_true, true_and] at heq
    exact hne heq.symm
  exact if_neg fun h => hcheck h.2

/-- The bit in progress in the station's own receiver, read at a level (R127, R137). -/
theorem LineUnit.readBack_eq (l : LineUnit) (level : Bool) :
    let inStop : Bool := l.reading.any (fun r => decide (288 ≤ r.periods))
    l.readBack level =
      { l with
        dominant := level && (inStop || l.dominant)
        reading :=
          match l.reading with
          | none => none
          | some r =>
            if 288 ≤ r.periods then if level then none else some r
            else if r.periods < 32 ∧ level = false then none
            else some ⟨max r.periods (r.periods / 32 * 32 + 16), r.levels.take (r.periods / 32) ++ [level]⟩
        rx := if inStop && level then .ignoring else l.rx } := by
  intro inStop
  unfold LineUnit.readBack
  cases hreading : l.reading with
  | none =>
    have hstop : inStop = false := by simp [inStop, hreading]
    simp [hstop, Bool.and_comm]
  | some r =>
    by_cases hearly : r.periods < 288
    · have hstop : inStop = false := by simp [inStop, hreading, hearly]
      have hstart : r.periods / 32 = 0 ↔ r.periods < 32 := by omega
      have hlate : ¬ 288 ≤ r.periods := by omega
      have hbefore : r.periods < Config.stopBitMiddle - Config.periodsPerBit / 2 := hearly
      dsimp only
      rw [if_pos hbefore, if_neg hlate, hstop, Bool.false_or, Bool.false_and, Bool.and_comm]
      simp only [Bool.false_eq_true, if_false, Reading.readBit, Config.periodsPerBit, hstart]
    · have hlate : 288 ≤ r.periods := by omega
      have hstop : inStop = true := by simp [inStop, hreading, hlate]
      have hbefore : ¬ r.periods < Config.stopBitMiddle - Config.periodsPerBit / 2 := hearly
      cases level with
      | true => simp [hbefore, hlate, hstop]
      | false => simp [hbefore, hlate, hstop]

/-- The Outbox once its frame did not go out: a beacon is due again (R37, R137). -/
theorem Outbox.frameFailed_eq (o : Outbox) (source : TxSource) :
    o.frameFailed source = { o with beaconDue := if source = .beacon then true else o.beaconDue } := by
  unfold Outbox.frameFailed
  split <;> rfl

/-- A frame that did not go out is still there to be sent (R105, R137). -/
theorem State.SendingSound.ready {source : TxSource} {frame : Frame} {n : Nat} (h : s.SendingSound)
    (htx : s.line.tx = .sending source frame n) (houtbox : t.outbox = s.outbox.frameFailed source) :
    t.frameReady = true := by
  obtain ⟨-, hring, hcontrol⟩ := h source frame n htx
  rw [Outbox.frameFailed_eq] at houtbox
  cases source with
  | control =>
    have hsome := hcontrol rfl
    simp [State.frameReady, houtbox, hsome]
  | beacon => simp [State.frameReady, houtbox]
  | ring =>
    obtain ⟨hfirst, holdest⟩ := hring rfl
    rw [State.oldestUnsent, Option.map_eq_some_iff] at holdest
    obtain ⟨e, he, -⟩ := holdest
    have hany : s.outbox.ring.any (fun e => !e.sent) = true :=
      List.any_eq_true.2 ⟨e, List.mem_of_find?_eq_some he, List.find?_some (p := fun e : RingEntry => !e.sent) he⟩
    simp [State.frameReady, houtbox, hfirst, hany]

/-- The line once a mismatch is read back, with the rest in force (R134, R137). -/
def State.mismatched (s : State) (frame : Frame) (tx : TxState) : LineUnit :=
  { ((s.line.readBack !s.drives).dropOwn frame).startRest with tx := tx, failed := s.line.failed + 1 }

/-- READBACK_MISMATCH before the sixteenth attempt: the unit waits its gap of 76 bit times (R132, R137). -/
theorem State.readbackMismatch_waits {source : TxSource} {frame : Frame} {n : Nat}
    (htx : s.line.tx = .sending source frame n) (hsound : s.SendingSound) (hfailed : s.line.failed < 15) :
    exec .readbackMismatch s =
      .next
        { s with
          outbox := s.outbox.frameFailed source
          line :=
            s.mismatched frame
              (.waiting 76
                (if (s.mismatched frame .off).busy = false ∧ 2432 ≤ s.line.idlePeriods then some 0 else none)) } := by
  let u : State := { s with outbox := s.outbox.frameFailed source, line := s.mismatched frame .idle }
  have hready : u.frameReady = true := hsound.ready htx rfl
  have hcount : min Config.maxFailed (s.line.failed + 1) = s.line.failed + 1 := by
    simp only [Config.maxFailed]
    omega
  have hnot : ¬ s.line.failed + 1 = Config.maxFailed := by
    simp only [Config.maxFailed]
    omega
  have hbusy : u.line.busy = (s.mismatched frame .off).busy := rfl
  have hidle : u.line.idlePeriods = s.line.idlePeriods := by
    show ((s.line.readBack !s.drives).dropOwn frame).idlePeriods = _
    rw [LineUnit.readBack_eq]
    rfl
  have hgap : u.line.gap = 76 := rfl
  have hwaits : u.startWaiting =
      .waiting 76
        (if (s.mismatched frame .off).busy = false ∧ 2432 ≤ s.line.idlePeriods then some 0 else none) := by
    unfold State.startWaiting
    rw [hgap, hbusy, hidle]
    refine congrArg (TxState.waiting 76) (if_congr ?_ rfl rfl)
    simp only [Bool.and_eq_true, Bool.not_eq_true', decide_eq_true_eq]
    exact Iff.rfl
  show execReadbackMismatch s = _
  unfold execReadbackMismatch
  rw [htx]
  dsimp only
  rw [hcount, if_neg hnot]
  refine congrArg Host.Outcome.next ?_
  show u.afterFrame = _
  unfold State.afterFrame
  rw [hready, if_pos rfl, hwaits]
  rfl

/-- READBACK_MISMATCH at the sixteenth attempt: E02, and the station silenced (R139). -/
theorem State.readbackMismatch_silences {source : TxSource} {frame : Frame} {n : Nat}
    (htx : s.line.tx = .sending source frame n) (hfailed : s.line.failed = 15) :
    ∃ tx, exec .readbackMismatch s =
      .next
        (State.raise { s with outbox := s.outbox.frameFailed source, line := s.mismatched frame tx } .e02).silence := by
  have hcount : min Config.maxFailed (s.line.failed + 1) = s.line.failed + 1 := by
    simp only [Config.maxFailed]
    omega
  have hlast : s.line.failed + 1 = Config.maxFailed := by
    simp only [Config.maxFailed]
    omega
  refine ⟨if State.frameReady { s with outbox := s.outbox.frameFailed source, line := s.mismatched frame .idle } then
    State.startWaiting { s with outbox := s.outbox.frameFailed source, line := s.mismatched frame .idle } else .idle, ?_⟩
  show execReadbackMismatch s = _
  unfold execReadbackMismatch
  rw [htx]
  dsimp only
  rw [hcount, if_pos hlast]
  rfl

/-- A silenced station that spoke, with no crossing pending (R104, R109, R139). -/
theorem State.silence_spoken (hspeaking : s.speaking = true) (hempty : s.assign.entries = []) :
    s.silence =
      { s with
        outbox := { s.outbox with control := [], beaconDue := false, beaconTimer := none }
        line := { s.line with tx := .off }
        station :=
          { s.station with
            state := if s.station.state = .active then .mute else s.station.state
            closedSpeaking := false } } := by
  cases hstate : s.station.state with
  | active =>
    rw [s.silence_cases.2.1 hstate, if_pos rfl, State.muteFromActive, State.strayEntries]
    show State.strays _ .mute s.assign.entries = _
    rw [hempty, State.strays_nil]
    refine (State.withEntries_nil ?_).trans rfl
    exact hempty
  | closed =>
    rw [s.silence_cases.2.2.1 hstate, if_neg (by decide), ← hstate]
    rfl
  | reset => simp [State.speaking, hstate] at hspeaking
  | configFault => simp [State.speaking, hstate] at hspeaking
  | listening => simp [State.speaking, hstate] at hspeaking
  | mute => simp [State.speaking, hstate] at hspeaking

/-- Settles O39: a damaged check, and the attempt that fails before the sixteenth and at it. -/
theorem aReadbackMismatchIsAFailedAttempt : Obligations.AReadbackMismatchIsAFailedAttempt := by
  refine ⟨fun f b hwf hlast => readFrame_damaged hwf hlast,
    fun s source frame n htx hspeaking hsending hring hfailures herrors => ?_⟩
  intro outbox level inStop line
  have hline : ∀ tx, s.mismatched frame tx = line tx := fun tx => by
    rw [State.mismatched, LineUnit.readBack_eq]
    rfl
  have houtbox : s.outbox.frameFailed source = outbox := s.outbox.frameFailed_eq source
  refine ⟨fun hfailed => ?_, fun hfailed hempty => ?_⟩
  · rw [State.readbackMismatch_waits htx hsending hfailed, houtbox, hline, hline]
  · obtain ⟨tx, hexec⟩ := State.readbackMismatch_silences htx hfailed
    rw [hexec, houtbox, hline, State.raise_eq, State.silence_spoken (by exact hspeaking) (by exact hempty)]
    rfl

end

end Sys2Proof.Machine
end

section
/-! PROOFS. The pair and the receiver: what is driven, when the line is busy, and how bytes and idle runs move the
receiver's condition. -/

namespace Sys2Proof.Machine

section
variable {s t : State} {l : LineUnit}

/-! ### What is driven (R124, R125) -/

/-- A byte is ten levels (R125). -/
theorem byteLevels_length (b : Byte) : (byteLevels b).length = 10 := by simp [byteLevels]

/-- The levels of a byte: the start bit, the data bits from the least significant on, and the stop bit (R125). -/
theorem byteLevels_getD (b : Byte) {j : Nat} (hj : j < 10) :
    (byteLevels b).getD j false = if j = 0 then true else if j = 9 then false else !b.getLsbD (j - 1) := by
  match j, hj with
  | 0, _ => rfl
  | 1, _ => rfl
  | 2, _ => rfl
  | 3, _ => rfl
  | 4, _ => rfl
  | 5, _ => rfl
  | 6, _ => rfl
  | 7, _ => rfl
  | 8, _ => rfl
  | 9, _ => rfl

/-- Bytes go back to back: level j of byte i stands at 10 i + j (R125). -/
theorem flatMap_byteLevels (bytes : List Byte) (i j : Nat) (hj : j < 10) :
    (bytes.flatMap byteLevels).getD (10 * i + j) false =
      if i < bytes.length then (byteLevels (bytes.getD i 0#8)).getD j false else false := by
  induction bytes generalizing i with
  | nil => simp
  | cons b bs ih =>
    rw [List.flatMap_cons, List.getD_eq_getElem?_getD]
    cases i with
    | zero =>
      rw [List.getElem?_append_left (by rw [byteLevels_length]; omega), if_pos (by simp)]
      simp
    | succ i =>
      rw [List.getElem?_append_right (by rw [byteLevels_length]; omega), byteLevels_length,
        show 10 * (i + 1) + j - 10 = 10 * i + j by omega, ← List.getD_eq_getElem?_getD, ih i]
      simp

/-- A released pair is driven by none of this station's frames (R124). -/
theorem State.drives_released (h : s.sending = false) : s.drives = false := by
  unfold State.sending at h
  unfold State.drives LineUnit.drives
  split at h
  · simp at h
  all_goals simp_all

/-! ### The busy line (R126, R133, R134) -/

/-- The gap of a count that starts now (R132, R134). -/
theorem LineUnit.gap_eq (l : LineUnit) : l.gap = if l.rest = true ∨ l.restDue = true then 76 else 12 := by
  unfold LineUnit.gap
  refine if_congr ?_ rfl rfl
  rw [Bool.or_eq_true]

/-- A busy line gives up a count of gap and slot, and no other state of the unit (R133). -/
theorem TxState.giveUpCount_eq (tx : TxState) (gap : Nat) :
    tx.giveUpCount gap =
      match tx with
      | .waiting _ _ => .waiting gap none
      | .off => .off
      | .idle => .idle
      | .sending source f n => .sending source f n := by
  cases tx <;> rfl

/-- The byte that a dominant edge begins, where it begins one (R127; assumption log 31). -/
theorem LineUnit.edge_eq (l : LineUnit) :
    l.edge =
      if l.dominant then l.reading
      else
        match l.reading with
        | none => some ⟨0, []⟩
        | some r => if 304 ≤ r.periods then some ⟨0, []⟩ else some r := by
  unfold LineUnit.edge LineUnit.inStopBit
  split
  · rfl
  · cases l.reading with
    | none => rfl
    | some r =>
      simp only [Option.isNone_some, Bool.false_or, decide_eq_true_eq]
      rfl

/-- Settles O36: the driven levels, the busy line, and the three commands where their case holds and where not. -/
theorem aBusyLineIsDeferredTo : Obligations.ABusyLineIsDeferredTo := by
  refine ⟨fun s source f n i j => ⟨State.drives_released, fun htx hn hj => ?_, rfl, ?_⟩, fun s gap slot hrun => ?_⟩
  · have hdrives : s.drives = f.levels.getD (10 * i + j) false := by
      unfold State.drives LineUnit.drives
      rw [htx]
      exact congrArg (fun k => f.levels.getD k false) hn
    rw [hdrives, Frame.levels, flatMap_byteLevels f.bytes i j hj]
    refine ⟨fun hi => ?_, fun hi => ?_⟩
    · rw [if_pos hi, byteLevels_getD _ hj]
    · rw [if_neg (by omega)]
  · have hbyte : s.line.inByte = true ↔ ∃ r : Reading, s.line.reading = some r ∧ 16 ≤ r.periods := by
      unfold LineUnit.inByte
      cases s.line.reading with
      | none => simp
      | some r =>
        simp only [Option.any_some, decide_eq_true_eq, Option.some.injEq, exists_eq_left']
        rfl
    rw [← hbyte, LineUnit.busy, Bool.or_eq_true]
    rfl
  · intro line
    have hfall : ∀ tx, s.line.tx.giveUpCount s.line.gap = tx → s.line.fall = line tx := by
      rintro tx rfl
      unfold LineUnit.fall
      rw [LineUnit.edge_eq]
      rfl
    refine ⟨fun htx => ?_, fun hnot => ?_, fun hrest hbusy => ?_, fun hcase => ?_⟩
    · have hwaiting : s.isWaiting = true := by simp [State.isWaiting, htx]
      refine ⟨congrArg Host.Outcome.next ((if_pos hwaiting).trans ?_),
        congrArg Host.Outcome.next (if_neg fun h => h.2 hwaiting)⟩
      rw [State.withLine, hfall _ rfl, htx, TxState.giveUpCount, LineUnit.gap_eq]
    · refine ⟨congrArg Host.Outcome.next ((if_pos ⟨hrun, by simp [hnot]⟩).trans ?_),
        congrArg Host.Outcome.next (if_neg (by simp [hnot]))⟩
      have htx : s.line.tx.giveUpCount s.line.gap = s.line.tx := by
        unfold State.isWaiting at hnot
        cases htx : s.line.tx with
        | waiting gap slot => simp [htx] at hnot
        | off => rfl
        | idle => rfl
        | sending source f n => rfl
      rw [State.withLine, hfall _ htx]
    · exact congrArg Host.Outcome.next (if_pos ⟨hrest, hbusy⟩)
    · refine congrArg Host.Outcome.next (if_neg fun h => ?_)
      rcases hcase with hrest | hbusy
      · simp [hrest] at h
      · simp [hbusy] at h

/-! ### Bytes and frames (R127 to R129) -/

/-- The unit once a whole byte has been taken, with the receiver's condition and complete frame it comes to (R127,
R128). -/
def State.byteHeard (s : State) (rx : RxState) (complete : Option (List Byte)) : State :=
  { s with
    line :=
      { s.line.madeBusy with
        dominant := false, reading := s.line.afterByte s.sending, rx := rx, complete := complete }.settleRest }

/-- The complete frame kept for the Receiver, after a byte that may have completed one (R130). -/
def State.keptFrame (s : State) : Option (List Byte) → Option (List Byte)
  | some bytes => if s.receives then some bytes else none
  | none => s.line.complete

/-- BYTE_TAKEN with a whole byte, by what the receiver's condition makes of it (R128, R130). -/
theorem State.byteTaken_eq {b : Byte} {rx : RxState} {whole : Option (List Byte)} (hrun : s.running = true)
    (htaken : s.line.rx.takeByte b = (rx, whole)) :
    exec (.byteTaken (.byte b)) s =
      .next (s.byteHeard rx (s.keptFrame whole)) := by
  refine congrArg Host.Outcome.next ((if_pos hrun).trans ?_)
  simp only [htaken]
  cases whole <;> rfl

/-- What a byte in a frame comes to: the length byte is tested, and the last check byte completes the frame (R128). -/
theorem frameByte_cases (bytes : List Byte) (b : Byte) :
    (bytes.length < 6 → frameByte (bytes ++ [b]) = (.inFrame (bytes ++ [b]), none)) ∧
    (bytes.length = 6 → b.toNat ≤ 12 → frameByte (bytes ++ [b]) = (.inFrame (bytes ++ [b]), none)) ∧
    (bytes.length = 6 → 12 < b.toNat → frameByte (bytes ++ [b]) = (.ignoring, none)) ∧
    (7 ≤ bytes.length → (bytes.getD 6 0#8).toNat ≤ 12 → bytes.length + 1 < 9 + (bytes.getD 6 0#8).toNat →
      frameByte (bytes ++ [b]) = (.inFrame (bytes ++ [b]), none)) ∧
    (7 ≤ bytes.length → (bytes.getD 6 0#8).toNat ≤ 12 → bytes.length + 1 = 9 + (bytes.getD 6 0#8).toNat →
      frameByte (bytes ++ [b]) = (.ignoring, some (bytes ++ [b]))) := by
  have hlength : (bytes ++ [b]).length = bytes.length + 1 := by simp
  have hsixth : bytes.length = 6 → (bytes ++ [b]).getD 6 0#8 = b := fun h => by
    rw [List.getD_eq_getElem?_getD, List.getElem?_append_right (by omega), h]
    rfl
  have hstays : 7 ≤ bytes.length → (bytes ++ [b]).getD 6 0#8 = bytes.getD 6 0#8 := fun h => by
    rw [List.getD_eq_getElem?_getD, List.getElem?_append_left (by omega), ← List.getD_eq_getElem?_getD]
  unfold frameByte
  rw [hlength]
  refine ⟨fun h => if_pos (by omega), fun h hlen => ?_, fun h hlen => ?_, fun h hlen hmore => ?_, fun h hlen hlast => ?_⟩
  · rw [if_neg (by omega), hsixth h]
    exact (if_neg (by omega)).trans (if_pos (by omega))
  · rw [if_neg (by omega), hsixth h]
    exact if_pos hlen
  · rw [if_neg (by omega), hstays h]
    exact (if_neg (by omega)).trans (if_pos hmore)
  · rw [if_neg (by omega), hstays h]
    exact (if_neg (by omega)).trans (if_neg (by omega))

/-- The idle run past 10 bit times, with the rest that its start brought into force (R128, R129, R134). -/
theorem LineUnit.idlePassed_eq (l : LineUnit) :
    l.idlePassed =
      { l with
        dominant := false
        reading := none
        idlePeriods := max l.idlePeriods 321
        rest := l.rest || l.restDue
        restDue := false
        restPeriods :=
          if l.restDue then 321 else if l.rest then max l.restPeriods 321 else l.restPeriods } := by
  unfold LineUnit.idlePassed
  by_cases hdue : l.restDue = true
  · rw [LineUnit.settleRest_due (l := { l with dominant := false, reading := none }) hdue rfl]
    simp [Config.abandonBits, Config.periodsPerBit, hdue]
  · rw [Bool.not_eq_true] at hdue
    rw [LineUnit.settleRest_stays (l := { l with dominant := false, reading := none }) (.inl hdue)]
    simp [Config.abandonBits, Config.periodsPerBit, hdue]

/-- The levels of a byte spell it (R125, R127). -/
theorem levelsByte_byteLevels (b : Byte) : levelsByte ((byteLevels b).take 9) = b := by
  revert b
  decide

/-- Settles O35: the receiver's conditions byte by byte, the frames that end otherwise, and the levels of a byte. -/
theorem bytesMakeFrames : Obligations.BytesMakeFrames := by
  refine ⟨fun s b bytes hrun => ?_, fun s bytes hrun => ?_, fun b => ?_⟩
  · intro deferred heard
    have htx : s.line.tx.giveUpCount s.line.gap = deferred :=
      (congrArg s.line.tx.giveUpCount s.line.gap_eq).trans (TxState.giveUpCount_eq _ _)
    have hheard : ∀ rx complete, s.byteHeard rx complete = heard rx complete := fun rx complete => by
      unfold State.byteHeard LineUnit.madeBusy LineUnit.afterByte
      rw [htx, LineUnit.inStopBit_any]
    have htaken : ∀ rx whole, s.line.rx.takeByte b = (rx, whole) → exec (.byteTaken (.byte b)) s =
        .next (heard rx (s.keptFrame whole)) := fun rx whole h => by
      rw [State.byteTaken_eq hrun h, hheard]
    obtain ⟨hshort, hlength, hlong, hmore, hlast⟩ := frameByte_cases bytes b
    refine ⟨fun hrx hb => ?_, fun hrx hb => ?_, fun hrx => ?_, fun hrx h => ?_, fun hrx h hlen => ?_,
      fun hrx h hlen => ?_, fun hrx h hlen hnot => ?_, fun hrx h hlen hall hreceives => ?_,
      fun hrx h hlen hall hreceives => ?_, ?_⟩
    · exact htaken _ none (by rw [hrx]; exact if_pos hb)
    · exact htaken _ none (by rw [hrx]; exact if_neg hb)
    · exact htaken _ none (by rw [hrx]; rfl)
    · exact htaken _ none (by rw [hrx]; exact hshort h)
    · exact htaken _ none (by rw [hrx]; exact hlength h hlen)
    · exact htaken _ none (by rw [hrx]; exact hlong h hlen)
    · exact htaken _ none (by rw [hrx]; exact hmore h hlen hnot)
    · have hwhole := htaken _ (some (bytes ++ [b])) (by rw [hrx]; exact hlast h hlen hall)
      rwa [State.keptFrame, hreceives, if_pos rfl] at hwhole
    · have hwhole := htaken _ (some (bytes ++ [b])) (by rw [hrx]; exact hlast h hlen hall)
      rwa [State.keptFrame, hreceives, if_neg Bool.false_ne_true] at hwhole
    · refine congrArg Host.Outcome.next ((if_pos hrun).trans ?_)
      show State.withLine _ s.line.heldDominant = _
      unfold LineUnit.heldDominant LineUnit.madeBusy
      rw [htx]
      rfl
  · intro waiting
    have hpassed : s.withLine { s.line.idlePassed with rx := .waiting } = waiting := by
      rw [LineUnit.idlePassed_eq]
      rfl
    refine ⟨congrArg Host.Outcome.next (if_pos hrun), fun hrx => ⟨?_, ?_, ?_⟩, fun hrx => ?_, fun hrx => ?_⟩
    · show execFrameAbandoned .idleRun s = _
      unfold execFrameAbandoned
      rw [hrx, ← hpassed]
      exact congrArg Host.Outcome.next (if_pos hrun)
    · show execFrameAbandoned .lengthAbove s = _
      unfold execFrameAbandoned
      rw [hrx]
      exact congrArg Host.Outcome.next (if_pos hrun)
    · show execFrameAbandoned .framingError s = _
      unfold execFrameAbandoned
      rw [hrx]
      refine congrArg Host.Outcome.next ((if_pos hrun).trans ?_)
      show State.withLine _ s.line.heldDominant = _
      unfold LineUnit.heldDominant LineUnit.madeBusy
      rw [TxState.giveUpCount_eq, LineUnit.gap_eq]
      rfl
    · rw [← hpassed]
      exact congrArg Host.Outcome.next (if_pos ⟨hrun, hrx⟩)
    · exact congrArg Host.Outcome.next (if_neg fun h => hrx h.2)
  · exact ⟨byteLevels_length b, rfl, rfl, levelsByte_byteLevels b⟩

end

end Sys2Proof.Machine
end

section
/-! PROOFS. The panel's outputs: tones and the codes that sound them, the display and its digits. -/

namespace Sys2Proof.Machine

section
variable {s t : State}

/-! ### Tones -/

/-- A request plays its pattern from its first step, unless an ALARM plays and the request is another (R184). -/
theorem Pattern.requested_plays {p : Pattern} {tone : Option TonePlay} {now : Nat}
    (h : ∀ t, tone = some t → t.pattern ≠ .alarm ∨ p = .alarm) :
    p.requested tone now = some ⟨p, 0, now + (p.steps.getD 0 (false, 0)).2⟩ := by
  unfold Pattern.requested
  cases tone with
  | none => rfl
  | some t => exact if_neg fun hall => (h t rfl).elim (fun hne => hne hall.1) (fun heq => hall.2 heq)

/-- The length of a pattern's first step (R183). -/
theorem Pattern.first_step (p : Pattern) :
    (p.steps.getD 0 (false, 0)).2 =
      match p with
      | .click => 50
      | .double => 100
      | .refuse => 50
      | .alarm => 500 := by
  cases p <;> rfl

/-- The steps in which a pattern sounds (R183). -/
theorem Pattern.sounds_iff (p : Pattern) (k : Nat) :
    (p.steps.getD k (false, 0)).1 = true ↔ k = 0 ∨ (k = 2 ∧ (p = .double ∨ p = .refuse)) := by
  match k with
  | 0 => cases p <;> simp [Pattern.steps]
  | 1 => cases p <;> simp [Pattern.steps]
  | 2 => cases p <;> simp [Pattern.steps]
  | k + 3 => cases p <;> simp [Pattern.steps]

/-! ### The digits (R181) -/

/-- The minutes, seconds and hundredths of a time. -/
theorem time_parts {m s c x : Nat} (hs : s < 60) (hc : c < 100) (hx : x < 10) :
    (60000 * m + 1000 * s + 10 * c + x) / 60000 = m ∧
      (60000 * m + 1000 * s + 10 * c + x) / 1000 % 60 = s ∧ (60000 * m + 1000 * s + 10 * c + x) / 10 % 100 = c := by
  omega

/-- Two figures of a number below 100. -/
theorem twoFigures_eq {n : Nat} (h : n < 100) : twoFigures n = [.figure (n / 10), .figure (n % 10)] := by
  rw [twoFigures, Nat.mod_eq_of_lt (show n / 10 < 10 by omega)]

/-- The digits of each content (R181). -/
theorem digits_eq (m s c x h : Nat) (e : ErrorCode) (hm : m < 100) (hs : s < 60) (hc : c < 100) (hx : x < 10) :
    let time := 60000 * m + 1000 * s + 10 * c + x
    (DisplayContent.error e).digits =
      ([.blank, .blank, .blank, .letterE, .figure (e.number / 10), .figure (e.number % 10)], false) ∧
    (DisplayContent.result (some time)).digits =
      ([if m < 10 then .blank else .figure (m / 10), .figure (m % 10), .figure (s / 10), .figure (s % 10),
        .figure (c / 10), .figure (c % 10)], true) ∧
    (m < 60 →
      (DisplayContent.courseTime (3600000 * h + time)).digits =
        ([.figure (m / 10), .figure (m % 10), .figure (s / 10), .figure (s % 10), .figure (c / 10),
          .figure (c % 10)], true)) := by
  intro time
  obtain ⟨hminutes, hseconds, hhundredths⟩ := time_parts (m := m) hs hc hx
  have hs' := twoFigures_eq (show s < 100 by omega)
  have hc' := twoFigures_eq hc
  have hm' := twoFigures_eq hm
  refine ⟨?_, ?_, fun hhour => ?_⟩
  · have he : e.number < 100 := by cases e <;> decide
    simp only [DisplayContent.digits, twoFigures_eq he]
    rfl
  · have hshort : ¬ 6000000 ≤ time := by omega
    simp only [DisplayContent.digits, hshort, if_false, time, hminutes, hseconds, hhundredths, hs', hc', hm']
    split
    next hlow => rw [Nat.mod_eq_of_lt hlow]; rfl
    next => rfl
  · have hwithin : (3600000 * h + time) % 3600000 = time := by omega
    simp only [DisplayContent.digits, hwithin, time, hminutes, hseconds, hhundredths, hs', hc', hm']
    rfl

/-- Settles O43: the requests, the display's choice, the tone's steps and the digits. -/
theorem tonesErrorsAndTheDisplay : Obligations.TonesErrorsAndTheDisplay := by
  refine ⟨fun s p c t => ?_, fun s c h g => ?_, fun s p k e => ?_, fun m s c x h e hm hs hc hx => ?_⟩
  · intro length plays
    have hplays : (∀ t, s.panel.tone = some t → t.pattern ≠ .alarm ∨ p = .alarm) → s.requestTone p = plays := by
      intro hfree
      rw [State.requestTone_requested, Pattern.requested_plays hfree, Pattern.first_step]
      rfl
    refine ⟨fun hnone => hplays fun t ht => ?_, fun hsome halarm hother => ?_, fun hsome hcase => hplays fun t' ht => ?_,
      fun hpending => if_pos hpending, fun hnot hp => ?_⟩
    · simp [hnone] at ht
    · have hstays : p.requested s.panel.tone s.now = s.panel.tone := by
        unfold Pattern.requested
        rw [hsome]
        exact if_pos ⟨halarm, hother⟩
      rw [State.requestTone_requested, hstays]
    · rw [hsome, Option.some.injEq] at ht
      rwa [← ht]
    · subst hp
      have hraise : s.raise c =
          { s with station := { s.station with errors := s.station.errors.put true c } }.requestTone .alarm :=
        if_neg (by simp [hnot])
      rw [hraise, State.requestTone_requested, Pattern.requested_plays fun _ _ => .inr rfl]
      rfl
  · refine ⟨fun hdark => if_neg (by simp [hdark]), fun hrun hc hmin => ?_, fun hrun hnone => ?_⟩
    · have hlowest := ErrorSet.lowest_eq hc hmin
      simp only [State.display, hrun, if_true, hlowest]
    · have hlowest : s.station.errors.lowest = none := List.find?_eq_none.2 fun d hd => by simp [hnone d hd]
      refine ⟨fun hresult => ?_, fun hresult hrunning => ?_, fun hresult hrunning => ?_⟩
      · simp only [State.display, hrun, if_true, hlowest, hresult]
      · simp only [State.display, hrun, if_true, hlowest, hresult, hrunning]
      · simp only [State.display, hrun, if_true, hlowest, hresult, hrunning]
  · refine ⟨fun hnone => ?_, fun hsome => ?_, rfl⟩
    · simp only [State.toneOn, hnone]
    · rw [State.toneOn, hsome]
      exact p.sounds_iff k
  · intro time dashes
    obtain ⟨herror, hresult, hcourse⟩ := digits_eq m s c x h e hm hs hc hx
    refine ⟨rfl, herror, rfl, if_pos (by omega), hresult, hcourse, fun run hrun => ?_⟩
    have hhundreds : run / 100 % 10 = run / 100 := Nat.mod_eq_of_lt (by omega)
    simp only [DisplayContent.digits, hhundreds]

end

end Sys2Proof.Machine
end

section
/-! PROOFS. The readout port: a transfer's latch and end, its pins, and the layouts of a record and of the status. -/

namespace Sys2Proof.Machine

section
variable {s t : State}

/-! ### The latch and the end of a transfer (R164 to R169) -/

/-- The latch in COMMAND (R165). -/
theorem State.latch_command (hrun : s.running = true) (hphase : s.port.phase = .command) (b : Byte) (reply : List Byte)
    (seq : Option Byte) :
    s.latch b reply seq =
      { s with
        port :=
          { s.port with
            phase := .reply, bits := 8, shown := 8, command := b, latched := some reply
            latchedSeq := seq, overtaken := false, xclkHigh := true } } :=
  if_pos ⟨hrun, hphase⟩

/-- A completed transfer's end (R168). -/
theorem State.transferComplete_eq (hrun : s.running = true) (hphase : s.port.phase = .done) :
    exec .transferComplete s =
      .next
        (if s.removes then
          { s with
            results := { s.results with records := s.results.records.drop 1, lost := 0 }
            port := s.port.ended }
        else { s with port := s.port.ended }) :=
  congrArg Host.Outcome.next (if_pos ⟨hrun, hphase⟩)

/-! ### The pins (R163) -/

/-- XOUT in COMMAND shows the fill, the most significant bit first (R163). -/
theorem State.xout_command (hphase : s.port.phase = .command) {k : Nat} (hshown : s.port.shown = k) (hlow : 1 ≤ k)
    (hhigh : k ≤ 8) : s.xout = (BitVec.ofNat 8 s.port.fill).getLsbD (8 - k) := by
  have hbyte : (k - 1) / 8 = 0 := by omega
  have hbit : 7 - (k - 1) % 8 = 8 - k := by omega
  simp [State.xout, State.xoutBit, hphase, hshown, hbyte, hbit, State.portBytes, hlow, hhigh]

/-- XOUT in REPLY shows the reply, the most significant bit of each byte first (R163). -/
theorem State.xout_reply (hphase : s.port.phase = .reply) {reply : List Byte} (hlatched : s.port.latched = some reply)
    {k : Nat} (hshown : s.port.shown = 8 + k) (hlow : 1 ≤ k) (hhigh : k ≤ 128) :
    s.xout = (reply.getD ((k - 1) / 8) 0#8).getLsbD (7 - (k - 1) % 8) := by
  have hbyte : (8 + k - 1) / 8 = (k - 1) / 8 + 1 := by omega
  have hbit : 7 - (8 + k - 1) % 8 = 7 - (k - 1) % 8 := by omega
  have hrange : 8 ≤ 8 + k ∧ 8 + k ≤ 136 := by omega
  simp only [State.xout, State.xoutBit, hphase, hshown, hbyte, hbit, State.portBytes, hlatched, hrange, and_self,
    decide_true, Bool.true_and, List.getD_cons_succ, Option.getD_some]

/-! ### Flags in bytes and words -/

/-- A flag stands at its place alone. -/
theorem bitAt_getLsbD (b : Bool) {i j : Nat} (hj : j < 8) : (bitAt b i).getLsbD j = (b && decide (i = j)) := by
  unfold bitAt
  cases b with
  | false => simp
  | true =>
    rw [if_pos rfl, BitVec.getLsbD_shiftLeft, Bool.true_and]
    by_cases hij : i = j
    · simp [hij, hj]
    · rcases Nat.lt_or_gt_of_ne hij with hlt | hgt
      · have hbit : j - i ≠ 0 := by omega
        simp [hij, hbit]
      · simp [hij, hgt]

/-- Each mark has its bit (R189). -/
theorem Marks.byte_bits (m : Marks) :
    m.byte.getLsbD 0 = m.manualStart ∧ m.byte.getLsbD 1 = m.learned ∧ m.byte.getLsbD 2 = m.stepped ∧
      m.byte.getLsbD 3 = m.corrected ∧ m.byte.getLsbD 4 = m.disturbed ∧ m.byte.getLsbD 5 = m.late ∧
      m.byte.getLsbD 6 = m.manual ∧ m.byte.getLsbD 7 = false := by
  unfold Marks.byte
  simp only [BitVec.getLsbD_or]
  refine ⟨?_, ?_, ?_, ?_, ?_, ?_, ?_, ?_⟩
  all_goals
    rw [bitAt_getLsbD _ (by omega), bitAt_getLsbD _ (by omega), bitAt_getLsbD _ (by omega), bitAt_getLsbD _ (by omega),
      bitAt_getLsbD _ (by omega), bitAt_getLsbD _ (by omega), bitAt_getLsbD _ (by omega)]
    simp

/-- A flag of the error word stands at its place alone. -/
theorem flag16_getLsbD (b : Bool) {i j : Nat} (hj : j < 16) :
    (if b = true then 1#16 <<< i else 0#16).getLsbD j = (b && decide (i = j)) := by
  cases b with
  | false => simp
  | true =>
    rw [if_pos rfl, BitVec.getLsbD_shiftLeft, Bool.true_and]
    by_cases hij : i = j
    · simp [hij, hj]
    · rcases Nat.lt_or_gt_of_ne hij with hlt | hgt
      · have hbit : j - i ≠ 0 := by omega
        simp [hij, hbit]
      · simp [hij, hgt]

/-- Bit j of the error word: the code whose number is j + 1 is pending (R190). -/
theorem ErrorSet.word_getLsbD (e : ErrorSet) {j : Nat} (hj : j < 16) :
    e.word.getLsbD j = ErrorCode.all.any (fun c => e.has c && decide (c.number - 1 = j)) := by
  have hfold : ∀ (l : List ErrorCode) (w : Word16),
      (l.foldl (fun w c => w ||| (if e.has c then 1#16 <<< (c.number - 1) else 0#16)) w).getLsbD j =
        (w.getLsbD j || l.any (fun c => e.has c && decide (c.number - 1 = j))) := by
    intro l
    induction l with
    | nil => simp
    | cons c cs ih =>
      intro w
      rw [List.foldl_cons, ih, BitVec.getLsbD_or, flag16_getLsbD _ hj, List.any_cons, Bool.or_assoc]
  rw [ErrorSet.word, hfold]
  simp

/-- No two codes have one number. -/
theorem ErrorSet.any_number (e : ErrorSet) (c : ErrorCode) :
    ErrorCode.all.any (fun d => e.has d && decide (d.number - 1 = c.number - 1)) = e.has c := by
  cases c <;> simp [ErrorCode.all, ErrorCode.number]

/-- No code has a number above 11. -/
theorem ErrorSet.word_high (e : ErrorSet) : e.word >>> 11 = 0#16 := by
  refine BitVec.eq_of_getLsbD_eq fun j hj => ?_
  rw [BitVec.getLsbD_ushiftRight, BitVec.getLsbD_zero]
  by_cases hin : 11 + j < 16
  · rw [e.word_getLsbD hin, List.any_eq_false]
    intro c _
    have hnumber : c.number ≤ 11 := by cases c <;> decide
    have hne : c.number - 1 ≠ 11 + j := by omega
    simp [hne]
  · exact BitVec.getLsbD_of_ge _ _ (by omega)

/-- Four pairs of bits in a byte, each read at its place. -/
theorem pack_pairs (a b c d : BitVec 2) :
    let x : Byte := (a.setWidth 8 <<< 6) ||| (b.setWidth 8 <<< 4) ||| (c.setWidth 8 <<< 2) ||| d.setWidth 8
    (x >>> 6) &&& 3#8 = a.setWidth 8 ∧ (x >>> 4) &&& 3#8 = b.setWidth 8 ∧ (x >>> 2) &&& 3#8 = c.setWidth 8 ∧
      (x >>> 0) &&& 3#8 = d.setWidth 8 := by
  revert a b c d
  decide

/-- The fill, the cause and HELD in the last byte of the status, each read at its place. -/
theorem pack_status (fill : Fin 25) (cause : BitVec 2) (held : Bool) :
    let x : Byte := BitVec.ofNat 8 fill.val ||| (cause.setWidth 8 <<< 5) ||| bitAt held 7
    x &&& 31#8 = BitVec.ofNat 8 fill.val ∧ (x >>> 5) &&& 3#8 = cause.setWidth 8 ∧ x.getLsbD 7 = held := by
  revert fill cause held
  decide

/-! ### The layouts (R189, R190) -/

/-- Presence codes have two bits (R190). -/
theorem Presence.code_pair (x : Presence) : x.code = (x.code.setWidth 2).setWidth 8 := by cases x <;> rfl

/-- Reset causes have two bits (R190). -/
theorem ResetCause.code_pair (x : ResetCause) : x.code = (x.code.setWidth 2).setWidth 8 := by cases x <;> rfl

/-- A station's presence as the status shows it: its own entry reads UNKNOWN (R166, R190). -/
def State.shownPresence (s : State) (i : Nat) : Presence :=
  if i = s.number then .unknown else (s.peer i).presence

/-- Each station's presence stands at its place in the presence bytes (R190). -/
theorem State.presenceByte_pairs (s : State) (k : Nat) {i : Nat} (hi : i < 4) :
    (s.presenceByte k >>> (6 - 2 * i)) &&& 3#8 = (s.shownPresence (4 * k + i)).code := by
  have hcode : ∀ i, (if 4 * k + i = s.number then Presence.unknown.code
      else ((s.receiver.peers.getD (4 * k + i) Peer.reset).presence).code) =
        (((s.shownPresence (4 * k + i)).code).setWidth 2).setWidth 8 := by
    intro i
    rw [← Presence.code_pair, State.shownPresence, apply_ite Presence.code]
    rfl
  obtain ⟨h0, h1, h2, h3⟩ := pack_pairs (((s.shownPresence (4 * k + 0)).code).setWidth 2)
    (((s.shownPresence (4 * k + 1)).code).setWidth 2) (((s.shownPresence (4 * k + 2)).code).setWidth 2)
    (((s.shownPresence (4 * k + 3)).code).setWidth 2)
  have hbyte : s.presenceByte k =
      ((((s.shownPresence (4 * k + 0)).code).setWidth 2).setWidth 8 <<< 6) |||
        ((((s.shownPresence (4 * k + 1)).code).setWidth 2).setWidth 8 <<< 4) |||
        ((((s.shownPresence (4 * k + 2)).code).setWidth 2).setWidth 8 <<< 2) |||
        (((s.shownPresence (4 * k + 3)).code).setWidth 2).setWidth 8 := by
    rw [← hcode, ← hcode, ← hcode, ← hcode]
    rfl
  rw [hbyte]
  match i, hi with
  | 0, _ => exact h0.trans (Presence.code_pair _).symm
  | 1, _ => exact h1.trans (Presence.code_pair _).symm
  | 2, _ => exact h2.trans (Presence.code_pair _).symm
  | 3, _ => exact h3.trans (Presence.code_pair _).symm

/-- The last byte of the status (R190). -/
theorem State.statusByte_parts (s : State) (h : s.results.records.length ≤ 24) :
    s.statusByte &&& 31#8 = BitVec.ofNat 8 s.results.records.length ∧
      (s.statusByte >>> 5) &&& 3#8 = s.station.cause.code ∧
      s.statusByte.getLsbD 7 = (s.isAssigner && s.assign.held) := by
  have hparts := pack_status ⟨s.results.records.length, by omega⟩ (s.station.cause.code.setWidth 2)
    (s.isAssigner && s.assign.held)
  rw [← ResetCause.code_pair] at hparts
  exact hparts

/-- Settles O41: the latch and the end of each transfer, the pins bit by bit, and the layouts byte by byte. -/
theorem aTransferLatchesAndEnds : Obligations.ATransferLatchesAndEnds := by
  refine ⟨fun s b r rest hrun => ?_, fun s r rest hrun => ?_, fun s reply k => ?_, fun r => ?_, fun s => ?_⟩
  · intro latched none
    have hlatch : s.port.phase = .command → ∀ b reply seq, s.latch b reply seq = latched b reply seq :=
      fun hphase => s.latch_command hrun hphase
    refine ⟨fun hphase hhigh => congrArg Host.Outcome.next (if_pos ⟨hrun, hphase, hhigh⟩), fun hphase =>
      ⟨fun hrecords => ⟨?_, ?_⟩, fun hrecords => ⟨?_, ?_⟩, ?_, fun h1 h2 h3 => ?_⟩⟩
    · show execNext s = _
      rw [execNext, hlatch hphase, State.recordReply, hrecords]
      rfl
    · show execPeek s = _
      rw [execPeek, hlatch hphase, State.recordReply, hrecords]
      rfl
    · show execNext s = _
      rw [execNext, hlatch hphase, State.recordReply, hrecords]
      rfl
    · show execPeek s = _
      rw [execPeek, hlatch hphase, State.recordReply, hrecords]
      rfl
    · exact congrArg Host.Outcome.next (hlatch hphase _ _ _)
    · have hunknown : ¬ commandBytes.contains b = true := by simp [commandBytes, h1, h2, h3]
      exact congrArg Host.Outcome.next ((if_neg hunknown).trans (hlatch hphase _ _ _))
  · intro ended
    refine ⟨fun hphase => congrArg Host.Outcome.next (if_pos ⟨hrun, hphase⟩),
      fun hphase hrecords hseq hfree => ?_, fun hphase hkept => ?_, fun hphase => ?_⟩
    · have hremoves : s.removes = true := by simp [State.removes, hfree, hseq, hrecords]
      rw [State.transferComplete_eq hrun hphase, if_pos hremoves, hrecords]
      rfl
    · have hremoves : s.removes = false := by
        rcases hkept with hnone | hovertaken
        · simp [State.removes, hnone]
        · simp [State.removes, hovertaken]
      rw [State.transferComplete_eq hrun hphase, if_neg (by simp [hremoves])]
      rfl
    · show execTransferAbort s = _
      unfold execTransferAbort
      rcases hphase with hphase | hphase
      · rw [hphase]
        exact congrArg Host.Outcome.next (if_pos hrun)
      · rw [hphase]
        exact congrArg Host.Outcome.next (if_pos hrun)
  · have hcommand : ∀ b : Byte, b ≠ 0x4E#8 → b ≠ 0x50#8 → b ≠ 0x53#8 → portCommand b = .unknownCommand b :=
      fun b h1 h2 h3 => by rw [portCommand, if_neg h1, if_neg h2, if_neg h3]
    refine ⟨?_, fun hphase => ?_, fun hphase hshown hlow hhigh => State.xout_command hphase hshown hlow hhigh,
      fun hphase hlatched hshown hlow hhigh => State.xout_reply hphase hlatched hshown hlow hhigh, rfl, rfl, rfl, hcommand,
      fun b => ?_⟩
    · simp [State.xrdy, and_assoc]
    · rcases hphase with hphase | hphase
      · simp [State.xout, State.xoutBit, hphase]
      · simp [State.xout, State.xoutBit, hphase]
    · refine (if_pos ⟨rfl, b.isLt⟩).trans ?_
      rw [BitVec.ofNat_toNat, BitVec.setWidth_eq]
  · intro b
    obtain ⟨h0, h1, h2, h3, h4, h5, h6, h7⟩ := r.marks.byte_bits
    have hreason : ∀ x, r.reason = x → b 2 = x.code := fun x hx => by
      rw [← hx]
      rfl
    refine ⟨rfl, ?_, hreason .empty, hreason (.newState .finished), hreason (.newState .void),
      fun n hn => hreason (.station n) hn, fun x hx => (hreason (.stray x) hx).trans ?_, word16_bytes _,
      (word32_bytes _).trans ?_, word32_bytes _, h0, h1, h2, h3, h4, h5, h6, h7, rfl, rfl, rfl⟩
    · show r.kind.code = _
      cases r.kind <;> rfl
    · cases x <;> rfl
    · cases r.value <;> rfl
  · intro b
    have hword : word16 (b 14) (b 15) = s.station.errors.word := word16_bytes _
    refine ⟨rfl, rfl, rfl, ?_, word16_bytes _, word32_bytes _, fun i hi => ?_, fun c hc => ?_, ?_, fun h => ?_,
      fun h => ?_, fun h => ?_⟩
    · show s.station.state.code = _
      cases s.station.state <;> rfl
    · have hbyte : ∀ k < 4, b (10 + k) = s.presenceByte k := by
        intro k hk
        match k, hk with
        | 0, _ => rfl
        | 1, _ => rfl
        | 2, _ => rfl
        | 3, _ => rfl
      have hplace : 4 * (i / 4) + i % 4 = i := Nat.div_add_mod i 4
      rw [hbyte _ (by omega), s.presenceByte_pairs (i / 4) (by omega), hplace, State.shownPresence,
        apply_ite Presence.code]
      refine if_congr Iff.rfl rfl ?_
      cases (s.peer i).presence <;> rfl
    · rw [hword, ErrorSet.word_getLsbD _ (by cases c <;> decide)]
      exact ErrorSet.any_number _ c
    · rw [hword]
      exact ErrorSet.word_high _
    · exact (s.statusByte_parts h).1
    · refine (s.statusByte_parts h).2.1.trans ?_
      cases s.station.cause <;> rfl
    · exact (s.statusByte_parts h).2.2

end

end Sys2Proof.Machine
end

section
/-! PROOFS. The step on an empty queue (R27, R42, R124, R148, R173, R183; assumption log 4): what is due waits
next, and where nothing is due one crystal period passes, each count of it an equation of its own. -/

namespace Sys2Proof.Machine

section
variable {s : State}

/-! ### What is due waits next -/

/-- The first of an order is one of the list. -/
theorem pickOrder_first {α : Type} (index : Nat) {l : List α} (h : l ≠ []) :
    ∃ c ∈ l, (pickOrder l.length index l).take 1 = [c] := by
  have hperm := pickOrder_perm l.length index l (Nat.le_refl _)
  match hpick : pickOrder l.length index l with
  | [] => exact absurd (hpick ▸ hperm).nil_eq.symm h
  | c :: cs => exact ⟨c, hperm.mem_iff.mp (hpick ▸ List.mem_cons_self), rfl⟩

/-- With no command waiting, one of those that are due waits next. -/
theorem idleStep_due (hrun : s.running = true) (hdue : s.dueCommands ≠ []) :
    ∃ c ∈ s.dueCommands, ∃ n, s.idleStep = { s with freeIndex := n, pending := [c] } := by
  obtain ⟨c, hc, hfirst⟩ := pickOrder_first s.freeIndex hdue
  refine ⟨c, hc, s.freeIndex + s.dueCommands.length, ?_⟩
  unfold State.idleStep
  rw [if_pos hrun]
  split
  · rename_i h
    exact absurd h hdue
  · rename_i d ds h
    rw [h] at hfirst ⊢
    rw [hfirst]

/-! ### What is due -/

/-- A timer is due where its end is reached. -/
theorem State.due_iff (s : State) (timer : Option Nat) :
    s.due timer = true ↔ ∃ e, timer = some e ∧ e ≤ s.now := by
  cases timer with
  | none => simp [State.due]
  | some e => simp [State.due]

/-- The command of a timer. -/
theorem mem_if_due {c d : Instr} {timer : Option Nat} :
    (c ∈ if s.due timer then [d] else []) ↔ c = d ∧ ∃ e, timer = some e ∧ e ≤ s.now := by
  rw [← s.due_iff]
  split <;> simp_all

/-- The command of a complete frame (R130, R98). -/
theorem State.mem_dueFrame (s : State) (c : Instr) :
    c ∈ s.dueFrame ↔
      ∃ bytes, s.line.complete = some bytes ∧
        ¬ (∃ r : Reading, s.line.reading = some r ∧ 304 ≤ r.periods) ∧
        ((readFrame bytes = none ∧ c = .badFrameDropped) ∨
          ∃ f, readFrame bytes = some f ∧
            c = if s.receives then frameCommand f else .badFrameDropped) := by
  rw [← LineUnit.inStopBit_iff]
  unfold State.dueFrame
  cases s.line.complete with
  | none => simp
  | some bytes =>
    cases hstop : s.line.inStopBit with
    | true => simp
    | false =>
      cases hread : readFrame bytes with
      | none => simp [hread]
      | some f => cases s.receives <;> simp [hread]

/-- The command of a gap and slot that are over on an idle line (R132). -/
theorem State.mem_dueStart (s : State) (c : Instr) :
    c ∈ s.dueStart ↔
      c = .transmitStart ∧ s.line.busy = false ∧
        match s.line.tx with
        | .waiting _ (some n) => 128 * s.number ≤ n
        | .waiting _ none | .off | .idle | .sending _ _ _ => False := by
  have hslot : 4 * s.number * Config.periodsPerBit = 128 * s.number := by
    unfold Config.periodsPerBit
    omega
  unfold State.dueStart
  rw [hslot]
  cases htx : s.line.tx with
  | waiting gap slot =>
    cases slot with
    | none => simp
    | some n =>
      cases s.line.busy with
      | true => simp
      | false => by_cases hn : 128 * s.number ≤ n <;> simp [hn]
  | off => simp
  | idle => simp
  | sending source f n => simp

/-- The first of the lists that the entries of a table give, each item with its entry's place: it is the first
item of the first entry that gives any. -/
theorem mem_take_one_placed {α β : Type} (f : α → List β) (d : α) (l : List α) (n : Nat) (y : Nat × β) :
    y ∈ ((l.zipIdx n).map (fun x => (f x.1).map (fun b => (x.2, b)))).flatten.take 1 ↔
      ∃ k < l.length, (∀ j < k, f (l.getD j d) = []) ∧ y.1 = n + k ∧ (f (l.getD k d)).head? = some y.2 := by
  induction l generalizing n with
  | nil => simp
  | cons a l ih =>
    simp only [List.zipIdx_cons, List.map_cons, List.flatten_cons]
    cases ha : f a with
    | nil =>
      rw [List.map_nil, List.nil_append, ih]
      constructor
      · rintro ⟨k, hk, hbefore, hy, hfirst⟩
        refine ⟨k + 1, Nat.succ_lt_succ hk, fun j hj => ?_, by omega, hfirst⟩
        cases j with
        | zero => exact ha
        | succ j => exact hbefore j (Nat.lt_of_succ_lt_succ hj)
      · rintro ⟨k, hk, hbefore, hy, hfirst⟩
        cases k with
        | zero => simp [ha] at hfirst
        | succ k =>
          exact ⟨k, Nat.lt_of_succ_lt_succ hk, fun j hj => hbefore (j + 1) (Nat.succ_lt_succ hj), by omega, hfirst⟩
    | cons b bs =>
      rw [List.map_cons, List.cons_append, List.take_succ_cons, List.take_zero, List.mem_singleton]
      constructor
      · rintro rfl
        exact ⟨0, Nat.succ_pos _, fun j hj => absurd hj (Nat.not_lt_zero j), rfl, by simp [ha]⟩
      · rintro ⟨k, _, hbefore, hy, hfirst⟩
        cases k with
        | zero =>
          rw [List.getD_cons_zero, ha] at hfirst
          exact Prod.ext hy (Option.some.inj hfirst).symm
        | succ k => exact absurd ((hbefore 0 (Nat.succ_pos _)).symm.trans ha) (by simp)

/-- The sequences of a Missing List whose deadlines have ended. -/
def Peer.dueRetries (now : Nat) (p : Peer) : List Byte :=
  (p.missing.filter (fun m => decide (m.deadline ≤ now))).map (fun m => m.seq)

/-- None of a peer's deadlines has ended where each lies ahead. -/
theorem Peer.dueRetries_nil (now : Nat) (p : Peer) :
    p.dueRetries now = [] ↔ ∀ x ∈ p.missing, now < x.deadline := by
  simp [Peer.dueRetries, List.filter_eq_nil_iff]

/-- The oldest of a peer's sequences whose deadlines have ended. -/
theorem Peer.dueRetries_head (now : Nat) (p : Peer) (q : Byte) :
    (p.dueRetries now).head? = some q ↔
      ∃ m, p.missing.find? (fun m => decide (m.deadline ≤ now)) = some m ∧ m.seq = q := by
  rw [Peer.dueRetries, List.head?_map, List.head?_filter, Option.map_eq_some_iff]

/-- The retry that is due is that of the oldest such entry of the lowest peer that has one (R117). -/
theorem State.mem_retriesDue (s : State) (hpeers : s.receiver.peers.length = 16) (c : Instr) :
    c ∈ (s.retriesDue.take 1).map (fun x => Instr.retryDeadline (Fin.ofNat 16 x.1) x.2) ↔
      ∃ p : Fin 16, ∃ m,
        (s.peer p.val).missing.find? (fun m => decide (m.deadline ≤ s.now)) = some m ∧
          (∀ k < p.val, ∀ x ∈ (s.peer k).missing, s.now < x.deadline) ∧ c = .retryDeadline p m.seq := by
  have hlist : s.retriesDue =
      ((s.receiver.peers.zipIdx 0).map (fun x => (x.1.dueRetries s.now).map (fun q => (x.2, q)))).flatten := by
    simp only [State.retriesDue, Peer.dueRetries, List.map_map]
    rfl
  have hplaced := fun y => mem_take_one_placed (Peer.dueRetries s.now) Peer.reset s.receiver.peers 0 y
  rw [hlist, List.mem_map]
  constructor
  · rintro ⟨⟨i, q⟩, hmem, rfl⟩
    obtain ⟨k, hk, hbefore, hi, hq⟩ := (hplaced _).1 hmem
    obtain ⟨m, hm, rfl⟩ := (Peer.dueRetries_head s.now _ _).1 hq
    refine ⟨⟨k, hpeers ▸ hk⟩, m, hm, fun j hj => (Peer.dueRetries_nil s.now _).1 (hbefore j hj), ?_⟩
    have hp : Fin.ofNat 16 i = ⟨k, hpeers ▸ hk⟩ := Fin.ext (by
      have hi : i = 0 + k := hi
      show i % 16 = k
      omega)
    exact congrArg (fun p => Instr.retryDeadline p m.seq) hp
  · rintro ⟨p, m, hm, hbefore, rfl⟩
    refine ⟨(p.val, m.seq), (hplaced _).2 ⟨p.val, p.isLt.trans_eq hpeers.symm, fun j hj => ?_, (Nat.zero_add _).symm, ?_⟩, ?_⟩
    · exact (Peer.dueRetries_nil s.now _).2 (hbefore j hj)
    · exact (Peer.dueRetries_head s.now _ _).2 ⟨m, hm, rfl⟩
    · exact congrArg (fun p => Instr.retryDeadline p m.seq) (Fin.ofNat_val_eq_self p)

/-- The expiry that is due: that of the oldest pending crossing (R67). -/
def State.dueExpiry (s : State) : List Instr :=
  match s.assign.entries with
  | e :: _ => if e.deadline ≤ s.now then [.pendingEntryExpiry] else []
  | [] => []

/-- The oldest pending crossing expires where its deadline is reached. -/
theorem State.mem_dueExpiry (s : State) (c : Instr) :
    c ∈ s.dueExpiry ↔
      c = .pendingEntryExpiry ∧ ∃ e, s.assign.entries.head?.map (fun e => e.deadline) = some e ∧ e ≤ s.now := by
  unfold State.dueExpiry
  cases s.assign.entries with
  | nil => simp
  | cons e es => by_cases he : e.deadline ≤ s.now <;> simp [he]

/-- The silences that are due. -/
theorem State.mem_dueSilences (s : State) (c : Instr) :
    c ∈ ((List.finRange 16).filter (fun p => s.silenceDue (s.peer p.val))).map Instr.peerSilent ↔
      ∃ p : Fin 16, c = .peerSilent p ∧ (s.peer p.val).presence = .present ∧
        ∃ e, (s.peer p.val).silenceEnd = some e ∧ e ≤ s.now := by
  simp only [List.mem_map, List.mem_filter, List.mem_finRange, true_and, State.silenceDue, Bool.and_eq_true,
    beq_iff_eq, State.due_iff]
  exact ⟨fun ⟨p, h, hc⟩ => ⟨p, hc.symm, h⟩, fun ⟨p, hc, h⟩ => ⟨p, h, hc.symm⟩⟩

/-- The timers that are due, with the expiry by its name. -/
theorem State.dueTimers_eq (s : State) :
    s.dueTimers =
      (if s.due s.outbox.beaconTimer then [Instr.beaconTimerEnd] else []) ++
        (if s.due s.outbox.freshEnd then [Instr.freshSpanEnd] else []) ++ s.dueExpiry ++
        (if s.due (s.panel.resultHold.map (fun h => h.endsAt)) then [Instr.resultHoldEnd] else []) ++
        (if s.due (s.panel.runHold.map (fun h => h.endsAt)) then [Instr.runNumberHoldEnd] else []) ++
        (if s.due (s.panel.tone.map (fun t => t.endsAt)) then [Instr.toneStepEnd] else []) ++
        ((List.finRange 16).filter (fun p => s.silenceDue (s.peer p.val))).map Instr.peerSilent ++
        (s.retriesDue.take 1).map (fun x => Instr.retryDeadline (Fin.ofNat 16 x.1) x.2) := rfl

end

end Sys2Proof.Machine
end

section
/-! PROOFS. What one crystal period counts in each block, an equation per count. -/

namespace Sys2Proof.Machine

section
variable {s : State}

/-! ### The Course Clock, the listen counter and Gate Capture (R27, R148, R42 to R48) -/

/-- The phase of the Course Clock (R27). -/
theorem State.countPhase_eq (s : State) :
    s.countPhase =
      ({ s with clock := { s.clock with phase := if s.clock.phase < 4095 then s.clock.phase + 1 else s.clock.phase } },
        if s.clock.phase < 4095 then [] else [.millisecondTick]) := by
  unfold State.countPhase
  by_cases h : s.clock.phase < 4095
  · rw [if_pos (show s.clock.phase + 1 < Config.periodsPerMs from Nat.succ_lt_succ h), if_pos h, if_pos h]
  · rw [if_neg (show ¬ s.clock.phase + 1 < Config.periodsPerMs from fun h' => h (Nat.lt_of_succ_lt_succ h')), if_neg h,
      if_neg h]

/-- The listen counter (R148). -/
theorem State.countListening_eq (s : State) :
    s.countListening =
      ({ s with
          station :=
            { s.station with
              listenCount :=
                if s.station.state == .listening then s.station.listenCount + 1 else s.station.listenCount } },
        if s.station.state == .listening ∧ 4096 * (1000 + 50 * s.number) ≤ s.station.listenCount + 1 then [.listenEnd]
        else []) := by
  unfold State.countListening
  by_cases h : s.station.state = .listening
  · have hb : (s.station.state == .listening) = true := beq_iff_eq.2 h
    rw [if_pos h, if_pos hb]
    exact congrArg _ (if_congr (by rw [hb]; simp [State.listenLimit, Config.periodsPerMs]) rfl rfl)
  · have hb : (s.station.state == .listening) = false := beq_eq_false_iff_ne.2 h
    simp [h, hb]

/-- Gate Capture after a sample: a judged one that only raises a count raises it (R44 to R48). -/
def State.sampleCounted (s : State) : GateUnit :=
  if s.gateReleased then
    match s.gate.capture with
    | .armed => if s.gate.high == s.config.gpol then s.gate else { s.gate with firstSample := false }
    | .confirming =>
      if s.gate.high == s.config.gpol ∧ s.gate.confirm + 1 < s.confirmLimit then
        { s.gate with confirm := s.gate.confirm + 1 }
      else s.gate
    | .holdoff =>
      if s.gate.holdoff + 1 < s.holdoffLimit then { s.gate with holdoff := s.gate.holdoff + 1 } else s.gate
    | .awaitClear =>
      if s.gate.high == s.config.gpol ∧ s.gate.blocked + 1 < 100000 then
        { s.gate with blocked := s.gate.blocked + 1 }
      else s.gate
  else s.gate

/-- Any other judged sample is a command (R44 to R48). -/
def State.sampleCommands (s : State) : List Instr :=
  if s.gateReleased then
    match s.gate.capture with
    | .armed =>
      if s.gate.high == s.config.gpol then
        [if s.gate.firstSample then .gateActiveAtRelease else .gateCandidateLatch]
      else []
    | .confirming =>
      if s.gate.high == s.config.gpol then
        if s.gate.confirm + 1 < s.confirmLimit then [] else [.crossingAccepted]
      else [.candidateRejected]
    | .holdoff =>
      if s.gate.holdoff + 1 < s.holdoffLimit then [] else [.holdoffEnd (s.gate.high == s.config.gpol)]
    | .awaitClear =>
      if s.gate.high == s.config.gpol then if s.gate.blocked + 1 = 100000 then [.gateBlocked] else []
      else [.gateCleared]
  else []

/-- One gate sample. -/
theorem State.gateSample_eq (s : State) : s.gateSample = ({ s with gate := s.sampleCounted }, s.sampleCommands) := by
  unfold State.gateSample State.sampleCounted State.sampleCommands
  dsimp only
  cases s.gateReleased with
  | false => rfl
  | true =>
    cases s.gate.capture with
    | armed => cases s.gate.high == s.config.gpol <;> rfl
    | confirming =>
      cases s.gate.high == s.config.gpol with
      | false => rfl
      | true => by_cases h : s.gate.confirm + 1 < s.confirmLimit <;> simp [h]
    | holdoff => by_cases h : s.gate.holdoff + 1 < s.holdoffLimit <;> simp [h]
    | awaitClear =>
      cases s.gate.high == s.config.gpol with
      | false => rfl
      | true =>
        by_cases h : s.gate.blocked + 1 < 100000
        · have hne : s.gate.blocked + 1 ≠ 100000 := Nat.ne_of_lt h
          simp [Config.blockedSamples, h, hne]
        · by_cases hlast : s.gate.blocked + 1 = 100000
          · have hlt : s.gate.blocked < 100000 := by omega
            simp [Config.blockedSamples, hlast, hlt]
          · have hlt : ¬ s.gate.blocked < 100000 := by omega
            simp [Config.blockedSamples, h, hlast, hlt]

/-- The gate divider's interval, in crystal periods (R42). -/
def State.gateInterval (s : State) : Nat :=
  [410, 409, 410, 410, 409, 410, 409, 410, 410, 409].getD s.gate.interval 410

/-- A gate sample is judged in this period (R42, R43). -/
def State.gateJudged (s : State) : Bool := decide (s.gateInterval ≤ s.gate.divider + 1) && s.gateReleased

/-- The gate divider after one period (R42). -/
def State.gateDivided (s : State) : GateUnit :=
  if s.gate.divider + 1 < s.gateInterval then { s.gate with divider := s.gate.divider + 1 }
  else { s.gate with divider := 0, interval := (s.gate.interval + 1) % 10 }

/-- Gate Capture after one period: the divider, and the sample where one is judged. -/
def State.gateCounted (s : State) : GateUnit :=
  if s.gateJudged then
    match s.gate.capture with
    | .armed => if s.gate.high == s.config.gpol then s.gateDivided else { s.gateDivided with firstSample := false }
    | .confirming =>
      if s.gate.high == s.config.gpol ∧ s.gate.confirm + 1 < s.confirmLimit then
        { s.gateDivided with confirm := s.gate.confirm + 1 }
      else s.gateDivided
    | .holdoff =>
      if s.gate.holdoff + 1 < s.holdoffLimit then { s.gateDivided with holdoff := s.gate.holdoff + 1 }
      else s.gateDivided
    | .awaitClear =>
      if s.gate.high == s.config.gpol ∧ s.gate.blocked + 1 < 100000 then
        { s.gateDivided with blocked := s.gate.blocked + 1 }
      else s.gateDivided
  else s.gateDivided

/-- The commands of a gate sample that is judged in this period. -/
def State.gateCommands (s : State) : List Instr := if s.gateJudged then s.sampleCommands else []

/-- Gate Capture in one period. -/
theorem State.countGate_eq (s : State) : s.countGate = ({ s with gate := s.gateCounted }, s.gateCommands) := by
  unfold State.countGate
  by_cases h : s.gate.divider + 1 < s.gateInterval
  · have hj : s.gateJudged = false := by simp [State.gateJudged, h]
    rw [State.gateCounted, State.gateCommands, hj, State.gateDivided, if_pos h]
    exact (if_pos h).trans rfl
  · have hd : s.gateDivided = { s.gate with divider := 0, interval := (s.gate.interval + 1) % 10 } := if_neg h
    have hj : s.gateJudged = s.gateReleased := by simp [State.gateJudged, Nat.le_of_not_lt h]
    have hcommands : s.gateCommands = s.sampleCommands := by
      rw [State.gateCommands, hj]
      unfold State.sampleCommands
      cases s.gateReleased <;> rfl
    refine (if_neg h).trans ((State.gateSample_eq _).trans ?_)
    rw [hcommands, State.gateCounted, hj, hd]
    rfl

/-! ### The keys (R173 to R177) -/

/-- A key's filter after one period, on a key sample tick or not (R174). -/
def KeyFilter.ticked (tick : Bool) (f : KeyFilter) : KeyFilter :=
  if tick = false then f
  else if f.down = f.pressed then { f with change := 0 }
  else if f.change = 0 ∨ f.accepting = true then f
  else { f with change := f.change + 1 }

/-- The command of a key's sample (R174). -/
def KeyFilter.commands (tick : Bool) (k : Key) (f : KeyFilter) : List Instr :=
  if tick = false ∨ f.down = f.pressed then []
  else if f.change = 0 then [.keyCandidateLatch k f.down]
  else if f.accepting then [acceptance k f.down]
  else []

/-- A ruling key's hold is counted: its filtered level stays pressed (R176). -/
def RulingHold.counting (tick : Bool) (f : KeyFilter) (h : RulingHold) : Bool :=
  tick && f.pressed && !f.accepting && decide (h.count < 1000)

/-- A ruling key's hold after one period (R176). -/
def RulingHold.ticked (tick : Bool) (f : KeyFilter) (h : RulingHold) : RulingHold :=
  if h.counting tick f = true ∧ h.count + 1 < 1000 then { h with count := h.count + 1 } else h

/-- The command of a hold that becomes long (R176). -/
def RulingHold.commands (tick : Bool) (k : RulingKey) (f : KeyFilter) (h : RulingHold) : List Instr :=
  if h.counting tick f = true ∧ h.count + 1 = 1000 then [.rulingKeyLong k] else []

/-- The combination is counted: both filtered levels stay pressed (R177). -/
def Panel.combining (p : Panel) (tick : Bool) : Bool :=
  tick && p.comboRunning && p.void.pressed && p.dnf.pressed && !p.void.accepting && !p.dnf.accepting

/-- The combination count after one period (R177). -/
def Panel.comboTicked (p : Panel) (tick : Bool) : Nat :=
  if p.combining tick = true ∧ p.comboCount + 1 < 3000 then p.comboCount + 1 else p.comboCount

/-- The command of the combination (R177). -/
def Panel.comboCommands (p : Panel) (tick : Bool) : List Instr :=
  if p.combining tick = true ∧ 3000 ≤ p.comboCount + 1 then [.combinationFires] else []

/-- A filter put back as it is. -/
theorem Panel.putFilter_filter (p : Panel) (k : Key) : p.putFilter (p.filter k) k = p := by cases k <;> rfl

/-- A hold put back as it is. -/
theorem Panel.putHold_hold (p : Panel) (k : RulingKey) : p.putHold (p.hold k) k = p := by cases k <;> rfl

/-- One sample of one key. -/
theorem State.keySample_eq (s : State) (k : Key) :
    s.keySample k =
      (s.withPanel (s.panel.putFilter ((s.panel.filter k).ticked true) k), (s.panel.filter k).commands true k) := by
  have hsame : s = s.withPanel (s.panel.putFilter (s.panel.filter k) k) := by
    rw [s.panel.putFilter_filter k]
    rfl
  unfold State.keySample KeyFilter.ticked KeyFilter.commands
  dsimp only
  by_cases hlevel : (s.panel.filter k).down = (s.panel.filter k).pressed
  · simp [hlevel]
  · by_cases hfirst : (s.panel.filter k).change = 0
    · simp [hlevel, hfirst, ← hsame]
    · cases (s.panel.filter k).accepting <;> simp [hlevel, hfirst, ← hsame]

/-- The hold count of one ruling key. -/
theorem State.holdSample_eq (s : State) (k : RulingKey) :
    s.holdSample k =
      (s.withPanel (s.panel.putHold ((s.panel.hold k).ticked true (s.panel.filter (RulingKey.key k))) k),
        (s.panel.hold k).commands true k (s.panel.filter (RulingKey.key k))) := by
  have hsame : s = s.withPanel (s.panel.putHold (s.panel.hold k) k) := by
    rw [s.panel.putHold_hold k]
    rfl
  have hcounting : (s.panel.hold k).counting true (s.panel.filter (RulingKey.key k)) = true ↔
      s.held k ∧ (s.panel.filter (RulingKey.key k)).accepting = false ∧ (s.panel.hold k).count < Config.longHold := by
    simp only [RulingHold.counting, Bool.true_and, Bool.and_eq_true, Bool.not_eq_true', decide_eq_true_eq, and_assoc]
    exact Iff.rfl
  unfold State.holdSample RulingHold.ticked RulingHold.commands
  dsimp only
  cases hcounts : (s.panel.hold k).counting true (s.panel.filter (RulingKey.key k)) with
  | true =>
    have h := hcounting.1 hcounts
    have hlimit : (s.panel.hold k).count < 1000 := h.2.2
    rw [if_pos h]
    by_cases hnext : (s.panel.hold k).count + 1 < 1000
    · simp [Config.longHold, hnext, Nat.ne_of_lt hnext]
    · have hlast : (s.panel.hold k).count + 1 = 1000 := by omega
      simp [Config.longHold, hlast, ← hsame]
  | false =>
    rw [if_neg (fun h => Bool.false_ne_true (hcounts.symm.trans (hcounting.2 h)))]
    simp [← hsame]

/-- The combination count. -/
theorem State.comboSample_eq (s : State) :
    s.comboSample =
      (s.withPanel { s.panel with comboCount := s.panel.comboTicked true }, s.panel.comboCommands true) := by
  have hcombining : s.panel.combining true = true ↔
      s.panel.comboRunning ∧ s.held .void ∧ s.held .dnf ∧ s.panel.void.accepting = false ∧
        s.panel.dnf.accepting = false := by
    simp only [Panel.combining, Bool.true_and, Bool.and_eq_true, Bool.not_eq_true', and_assoc]
    exact Iff.rfl
  have hsame : s = s.withPanel { s.panel with comboCount := s.panel.comboCount } := rfl
  unfold State.comboSample Panel.comboTicked Panel.comboCommands
  cases hcounts : s.panel.combining true with
  | true =>
    rw [if_pos (hcombining.1 hcounts)]
    by_cases hnext : s.panel.comboCount + 1 < 3000
    · simp [Config.comboFires, hnext, Nat.not_le.2 hnext]
    · simp [Config.comboFires, hnext, Nat.le_of_not_lt hnext, ← hsame]
  | false =>
    rw [if_neg (fun h => Bool.false_ne_true (hcounts.symm.trans (hcombining.2 h)))]
    simp [← hsame]

/-- The panel's keys, holds and combination after one period (R173 to R177). -/
def Panel.keysTicked (p : Panel) (tick : Bool) : Panel :=
  { p with
    trip := p.trip.ticked tick
    void := p.void.ticked tick
    dnf := p.dnf.ticked tick
    ack := p.ack.ticked tick
    voidHold := p.voidHold.ticked tick p.void
    dnfHold := p.dnfHold.ticked tick p.dnf
    comboCount := p.comboTicked tick
    divider := if tick then 0 else p.divider + 1 }

/-- The commands of the panel's samples. -/
def Panel.keysCommands (p : Panel) (tick : Bool) : List Instr :=
  p.comboCommands tick ++ p.voidHold.commands tick .void p.void ++ p.dnfHold.commands tick .dnf p.dnf ++
    p.trip.commands tick .trip ++ p.void.commands tick .void ++ p.dnf.commands tick .dnf ++ p.ack.commands tick .ack

/-- The panel's keys in one period. -/
theorem State.countKeys_eq (s : State) :
    s.countKeys =
      (s.withPanel (s.panel.keysTicked (decide (4096 ≤ s.panel.divider + 1))),
        s.panel.keysCommands (decide (4096 ≤ s.panel.divider + 1))) := by
  unfold State.countKeys
  by_cases h : 4096 ≤ s.panel.divider + 1
  · rw [decide_eq_true h]
    refine (if_neg (Nat.not_lt.2 h)).trans ?_
    simp only [State.keySamples, State.counts, State.comboSample_eq, State.holdSample_eq, State.keySample_eq,
      State.withPanel, Panel.filter, Panel.putFilter, Panel.hold, Panel.putHold, RulingKey.key, Panel.keysCommands,
      Panel.keysTicked, List.append_assoc, List.append_nil]
    rfl
  · rw [decide_eq_false h]
    exact (if_pos (Nat.lt_of_not_le h)).trans rfl

end

end Sys2Proof.Machine
end

section
/-! PROOFS. The timing line in one crystal period (R126, R127, R132, R134, R136). -/

namespace Sys2Proof.Machine

section
variable {s : State}

/-- The line is idle: this station does not send, and the pair is not busy (R126). -/
def State.idles (s : State) : Bool := !s.sending && !s.line.busy

/-- The transmit state after one period: the gap and the slot count on an idle line, and a frame is driven on
(R132, R136). -/
def State.nextTx (s : State) : TxState :=
  match s.line.tx with
  | .waiting gap (some n) => .waiting gap (some (if s.idles then n + 1 else n))
  | .waiting gap none =>
    .waiting gap (if s.idles = true ∧ 32 * gap ≤ s.line.idlePeriods + 1 then some 0 else none)
  | .sending source f n => .sending source f (n + 1)
  | .off => .off
  | .idle => .idle

/-- The byte being received after one period (R127). -/
def State.nextReading (s : State) : Option Reading :=
  match s.ownEdge with
  | none => none
  | some r =>
    if r.periods + 1 = 304 then some ⟨304, r.levels⟩
    else if 320 ≤ r.periods + 1 then none
    else if (r.periods + 1) % 32 = 16 then
      if r.periods + 1 = 16 ∧ s.lineLevel = false then none
      else some ⟨r.periods + 1, r.levels ++ [s.lineLevel]⟩
    else some ⟨r.periods + 1, r.levels⟩

/-- A rest that is due comes into force: the stop bit ends with this period (R134). -/
def State.restBegins (s : State) : Bool :=
  s.line.restDue && s.ownEdge.isSome && !s.nextReading.any (fun (r : Reading) => decide (304 ≤ r.periods))

/-- The line unit after one period, with the level that others hold. -/
def State.lineCounted (s : State) (dominant : Bool) : LineUnit :=
  { s.line with
    tx := s.nextTx
    idlePeriods := if s.idles then s.line.idlePeriods + 1 else s.line.idlePeriods
    rest := s.line.rest || s.restBegins
    restDue := s.line.restDue && !s.restBegins
    restPeriods :=
      if s.restBegins then 0
      else if s.idles && s.line.rest then s.line.restPeriods + 1
      else s.line.restPeriods
    dominant := dominant
    reading := s.nextReading }

/-- The commands of an idle line: the rest's end, and an idle run past 10 bit times (R134, R128, R129). -/
def State.idleCommands (s : State) : List Instr :=
  (if s.idles = true ∧ s.line.rest = true ∧ 2432 ≤ s.line.restPeriods + 1 then [.restEnd] else []) ++
    (if s.idles = true ∧ 320 ≤ s.line.idlePeriods then
      match s.line.rx with
      | .ignoring => [.waitingForAFrame]
      | .inFrame _ => [.frameAbandoned .idleRun]
      | .waiting => []
    else [])

/-- The command of a byte that is whole (R127). -/
def State.readingCommands (s : State) : List Instr :=
  match s.ownEdge with
  | some r =>
    if r.periods + 1 = 304 then
      [.byteTaken (if s.lineLevel then .framingError else .byte (levelsByte r.levels))]
    else []
  | none => []

/-- The commands of a bit read back (R136). -/
def State.sendingCommands (s : State) : List Instr :=
  match s.line.tx with
  | .sending _ f n =>
    if (n + 1) % 32 = 16 then
      if s.lineLevel != s.drives then [.readbackMismatch]
      else if f.levels.length ≤ n / 32 + 1 then [.transmitComplete]
      else []
    else []
  | .off | .idle | .waiting _ _ => []

/-- One period of a byte being received. -/
theorem Reading.count_eq (r : Reading) (level : Bool) :
    r.count level =
      (if r.periods + 1 = 304 then some ⟨304, r.levels⟩
        else if 320 ≤ r.periods + 1 then none
        else if (r.periods + 1) % 32 = 16 then
          if r.periods + 1 = 16 ∧ level = false then none
          else some ⟨r.periods + 1, r.levels ++ [level]⟩
        else some ⟨r.periods + 1, r.levels⟩,
        if r.periods + 1 = 304 then [.byteTaken (if level then .framingError else .byte (levelsByte r.levels))]
        else []) := by
  have hmiddle : Config.stopBitMiddle = 304 := rfl
  have hbyte : Config.periodsPerByte = 320 := rfl
  have hbit : Config.periodsPerBit = 32 := rfl
  unfold Reading.count
  dsimp only
  rw [hmiddle, hbyte, hbit]
  by_cases hstop : r.periods + 1 = 304
  · simp only [if_pos hstop]
    exact congrArg (fun n => (some (Reading.mk n r.levels), _)) hstop
  · by_cases hend : 320 ≤ r.periods + 1
    · simp only [if_neg hstop, if_pos hend]
    · by_cases hmid : (r.periods + 1) % 32 = 16
      · have hstart : r.periods + 1 < 32 ∧ level = false ↔ r.periods + 1 = 16 ∧ level = false := by
          refine and_congr_left fun _ => ?_
          omega
        simp only [if_neg hstop, if_neg hend, if_pos hmid, hstart]
        split <;> rfl
      · simp only [if_neg hstop, if_neg hend, if_neg hmid]

/-- The transmit state after one period of gap and slot (R132). -/
def State.idleTx (s : State) : TxState :=
  match s.line.tx with
  | .waiting gap (some n) => .waiting gap (some (if s.idles then n + 1 else n))
  | .waiting gap none =>
    .waiting gap (if s.idles = true ∧ 32 * gap ≤ s.line.idlePeriods + 1 then some 0 else none)
  | .sending source f n => .sending source f n
  | .off => .off
  | .idle => .idle

/-- The transmit state after one period driven (R136). -/
def TxState.driven : TxState → TxState
  | .sending source f n => .sending source f (n + 1)
  | .waiting gap slot => .waiting gap slot
  | .off => .off
  | .idle => .idle

/-- The two counts of the transmit state follow each other. -/
theorem State.nextTx_eq (s : State) : s.nextTx = s.idleTx.driven := by
  unfold State.nextTx State.idleTx
  match s.line.tx with
  | .waiting _ (some _) => rfl
  | .waiting _ none => rfl
  | .sending _ _ _ => rfl
  | .off => rfl
  | .idle => rfl

/-- On an idle line gap and slot count (R132). -/
theorem State.idleTx_idle (hidle : s.idles = true) : s.idleTx = s.line.tx.countIdle (s.line.idlePeriods + 1) := by
  have hbit : Config.periodsPerBit = 32 := rfl
  unfold State.idleTx
  match s.line.tx with
  | .waiting _ (some _) => simp only [TxState.countIdle, hidle, if_pos]
  | .waiting gap none => simp only [TxState.countIdle, hidle, true_and, hbit, Nat.mul_comm 32]
  | .sending _ _ _ => rfl
  | .off => rfl
  | .idle => rfl

/-- On a busy line they do not. -/
theorem State.idleTx_busy (hbusy : s.idles = false) : s.idleTx = s.line.tx := by
  unfold State.idleTx
  match s.line.tx with
  | .waiting _ (some _) => simp [hbusy]
  | .waiting gap none => simp [hbusy]
  | .sending _ _ _ => rfl
  | .off => rfl
  | .idle => rfl

/-- The line unit after the counts of an idle line (R126, R132, R134). -/
def State.idleLine (s : State) : LineUnit :=
  { s.line with
    tx := s.idleTx
    idlePeriods := if s.idles then s.line.idlePeriods + 1 else s.line.idlePeriods
    restPeriods := if s.idles && s.line.rest then s.line.restPeriods + 1 else s.line.restPeriods }

/-- The idle run, the rest timer and the count of gap and slot in one period. -/
theorem State.countIdle_eq (s : State) : s.countIdle = (s.withLine s.idleLine, s.idleCommands) := by
  have hbusy : (s.sending || s.line.busy) = !s.idles := by
    rw [State.idles, Bool.not_and, Bool.not_not, Bool.not_not]
  unfold State.countIdle State.idleCommands State.idleLine
  rw [hbusy]
  cases hidle : s.idles with
  | false =>
    rw [State.idleTx_busy hidle]
    rfl
  | true =>
    rw [State.idleTx_idle hidle]
    have hrun : Config.abandonBits * Config.periodsPerBit < s.line.idlePeriods + 1 ↔ 320 ≤ s.line.idlePeriods :=
      Nat.lt_succ_iff
    refine Prod.ext rfl (congrArg₂ (· ++ ·) (if_congr (by simp only [true_and]; exact Iff.rfl) rfl rfl) ?_)
    simp only [true_and, hrun]
    by_cases hpast : 320 ≤ s.line.idlePeriods <;> cases s.line.rx <;> simp [hpast]

/-- The byte being received in one period. -/
theorem State.countReading_eq (s : State) :
    s.countReading =
      (s.withLine
        { s.line with
          rest := s.line.rest || s.restBegins
          restDue := s.line.restDue && !s.restBegins
          restPeriods := if s.restBegins then 0 else s.line.restPeriods
          reading := s.nextReading },
        s.readingCommands) := by
  unfold State.countReading
  cases hedge : s.ownEdge with
  | none =>
    have hreading : s.line.reading = none := by
      unfold State.ownEdge at hedge
      split at hedge
      · split at hedge
        · cases hedge
        · exact hedge
      all_goals exact hedge
    have hnext : s.nextReading = s.line.reading := by rw [State.nextReading, hedge, hreading]
    have hbegins : s.restBegins = false := by simp [State.restBegins, hedge]
    rw [State.readingCommands, hedge, hnext, hbegins, Bool.or_false, Bool.not_false, Bool.and_true]
    rfl
  | some r =>
    have hread : (r.count s.lineLevel).1 = s.nextReading := by
      rw [State.nextReading, hedge, r.count_eq]
    have hcommands : (r.count s.lineLevel).2 = s.readingCommands := by
      rw [State.readingCommands, hedge, r.count_eq]
    have hstop : LineUnit.inStopBit { s.line with reading := s.nextReading } =
        s.nextReading.any (fun (r : Reading) => decide (304 ≤ r.periods)) := by
      unfold LineUnit.inStopBit
      cases s.nextReading <;> rfl
    have hbegins : s.restBegins =
        (s.line.restDue && !LineUnit.inStopBit { s.line with reading := s.nextReading }) := by
      rw [State.restBegins, hedge, hstop, Option.isSome_some, Bool.and_true]
    dsimp only
    rw [hread, hcommands]
    refine congrArg (fun l => (s.withLine l, s.readingCommands)) ?_
    unfold LineUnit.settleRest
    rw [← show s.restBegins = _ from hbegins]
    cases hb : s.restBegins with
    | true => simp
    | false => simp

/-- The frame being driven in one period. -/
theorem State.countSending_eq (s : State) :
    s.countSending = (s.withLine { s.line with tx := s.line.tx.driven }, s.sendingCommands) := by
  have hsame : ∀ tx, s.line.tx = tx → s = s.withLine { s.line with tx := tx } := fun _ htx => by rw [← htx]; rfl
  unfold State.countSending State.sendingCommands
  cases htx : s.line.tx with
  | sending source f n => rfl
  | off => exact congrArg (·, []) (hsame _ htx)
  | idle => exact congrArg (·, []) (hsame _ htx)
  | waiting gap slot => exact congrArg (·, []) (hsame _ htx)

/-- The counts of an idle line change nothing that a byte's or a frame's bits are read by. -/
theorem State.idleLine_seen (s : State) :
    (s.withLine s.idleLine).ownEdge = s.ownEdge ∧ (s.withLine s.idleLine).drives = s.drives := by
  unfold State.ownEdge State.drives LineUnit.drives
  show (match s.idleTx with | .sending _ _ periods => _ | .off | .idle | .waiting _ _ => _) = _ ∧
    (match s.idleTx with | .sending _ f periods => _ | .off | .idle | .waiting _ _ => _) = _
  unfold State.idleTx
  match s.line.tx with
  | .waiting _ (some _) => exact ⟨rfl, rfl⟩
  | .waiting _ none => exact ⟨rfl, rfl⟩
  | .sending _ _ _ => exact ⟨rfl, rfl⟩
  | .off => exact ⟨rfl, rfl⟩
  | .idle => exact ⟨rfl, rfl⟩

/-- So the byte being received and the rest that is due go on as they would without them. -/
theorem State.idleLine_read (s : State) :
    (s.withLine s.idleLine).nextReading = s.nextReading ∧ (s.withLine s.idleLine).restBegins = s.restBegins ∧
    (s.withLine s.idleLine).readingCommands = s.readingCommands := by
  obtain ⟨hedge, hdrives⟩ := s.idleLine_seen
  have hlevel : (s.withLine s.idleLine).lineLevel = s.lineLevel := congrArg (s.line.dominant || ·) hdrives
  have hnext : (s.withLine s.idleLine).nextReading = s.nextReading := by
    rw [State.nextReading, hedge, hlevel, State.nextReading]
  refine ⟨hnext, ?_, ?_⟩
  · rw [State.restBegins, hedge, hnext, State.restBegins]
    rfl
  · rw [State.readingCommands, hedge, hlevel, State.readingCommands]

/-- A frame's bits are read back from the line as the period found it. -/
theorem State.sendingCommands_seen {t : State} (htx : t.line.tx = s.idleTx) (hlevel : t.lineLevel = s.lineLevel)
    (hdrives : t.drives = s.drives) : t.sendingCommands = s.sendingCommands := by
  unfold State.sendingCommands
  rw [htx, hlevel, hdrives]
  unfold State.idleTx
  match s.line.tx with
  | .waiting _ (some _) => rfl
  | .waiting _ none => rfl
  | .sending _ _ _ => rfl
  | .off => rfl
  | .idle => rfl

/-- The line unit after the counts of an idle line and of the byte being received. -/
def State.readLine (s : State) : LineUnit :=
  { s.idleLine with
    rest := s.line.rest || s.restBegins
    restDue := s.line.restDue && !s.restBegins
    restPeriods := if s.restBegins then 0 else s.idleLine.restPeriods
    reading := s.nextReading }

/-- The timing line in one period. -/
theorem State.countLine_eq (s : State) :
    s.countLine =
      (s.withLine (s.lineCounted (s.line.dominant && !Config.levelEnds s.freeIndex)),
        s.idleCommands ++ s.readingCommands ++ s.sendingCommands) := by
  obtain ⟨hnext, hrest, hcommands⟩ := s.idleLine_read
  obtain ⟨_, hdrives⟩ := s.idleLine_seen
  have hlevel : (s.withLine s.idleLine).lineLevel = s.lineLevel := congrArg (s.line.dominant || ·) hdrives
  have hreading : (s.withLine s.idleLine).countReading = (s.withLine s.readLine, s.readingCommands) := by
    rw [State.countReading_eq, hnext, hrest, hcommands]
    rfl
  have hsending : (s.withLine s.readLine).countSending =
      (s.withLine { s.readLine with tx := s.nextTx }, s.sendingCommands) := by
    rw [State.countSending_eq, State.sendingCommands_seen (s := s) (t := s.withLine s.readLine) rfl hlevel hdrives, s.nextTx_eq]
    rfl
  simp only [State.countLine, State.counts, s.countIdle_eq, hreading, hsending, List.append_nil, List.append_assoc]
  rfl

/-! ### The Readout Port's clock (R163, R164) -/

/-- A rising edge: it is counted in COMMAND and REPLY, the eighth completes the command byte and the 136th ends the
reply. -/
theorem State.clockRise_eq (s : State) (xin : Bool) :
    ((s.clockRise xin).1.port, (s.clockRise xin).2) =
      match s.port.phase with
      | .command =>
        if s.port.bits + 1 < 8 then
          ({ s.port with bits := s.port.bits + 1, command := shiftIn s.port.command xin, xclkHigh := true }, [])
        else ({ s.port with xclkHigh := true }, [portCommand (shiftIn s.port.command xin)])
      | .reply =>
        if s.port.bits + 1 < 136 then ({ s.port with bits := s.port.bits + 1, xclkHigh := true }, [])
        else ({ s.port with xclkHigh := true }, [.replyShiftedOut])
      | .idle | .done => ({ s.port with xclkHigh := true }, []) := by
  unfold State.clockRise
  cases s.port.phase with
  | idle => rfl
  | done => rfl
  | command => by_cases h : s.port.bits + 1 < 8 <;> simp only [h, if_true, if_false] <;> rfl
  | reply => by_cases h : s.port.bits + 1 < 136 <;> simp only [h, if_true, if_false] <;> rfl

/-- A falling edge changes the port alone: XOUT shows the next bit in a transfer. -/
theorem State.clockFall_eq (s : State) :
    s.clockFall =
      s.withPort
        { s.port with
          xclkHigh := false
          shown :=
            if (s.port.phase = .command ∨ s.port.phase = .reply) ∧ s.port.bits ≠ 0 then s.port.bits + 1
            else s.port.shown } := by
  unfold State.clockFall
  cases s.port.phase <;> by_cases hbits : s.port.bits = 0 <;> simp [hbits]

end

end Sys2Proof.Machine
end

section
/-! PROOFS. The step on an empty queue. -/

namespace Sys2Proof.Machine

/-- What one crystal period makes of every block but the Readout Port. -/
def State.crystalCounted (s : State) : State :=
  { s with
    clock :=
      { s.clock with phase := if s.clock.phase < 4095 then s.clock.phase + 1 else s.clock.phase }
    station :=
      { s.station with
        listenCount :=
          if s.station.state == .listening then s.station.listenCount + 1 else s.station.listenCount }
    gate := s.gateCounted
    panel :=
      { s.panel.keysTicked (decide (4096 ≤ s.panel.divider + 1)) with
        toneDivider := if s.panel.toneDivider + 1 < 2000 then s.panel.toneDivider + 1 else 0 }
    line := s.lineCounted (s.line.dominant && !Config.levelEnds s.freeIndex) }

/-- The commands that fall due with those counts. -/
def State.crystalCommands (s : State) : List Instr :=
  (if s.clock.phase < 4095 then [] else [.millisecondTick]) ++
    (if s.station.state == .listening ∧ 4096 * (1000 + 50 * s.number) ≤ s.station.listenCount + 1 then [.listenEnd]
    else []) ++
    s.gateCommands ++ s.panel.keysCommands (decide (4096 ≤ s.panel.divider + 1)) ++
    (s.idleCommands ++ s.readingCommands ++ s.sendingCommands)

/-- The counts of one crystal period, one after the other: each changes its own block, and reads the others as the
period found them. -/
theorem State.crystalCounts_eq (s : State) :
    s.counts
        [State.countPhase, State.countListening, State.countGate, State.countKeys, State.countLine, State.countTone] =
      (s.crystalCounted, s.crystalCommands) := by
  simp only [State.counts, State.countPhase_eq, State.countListening_eq, State.countGate_eq, State.countKeys_eq,
    State.countLine_eq, State.countTone, State.crystalCommands, List.append_assoc, List.append_nil]
  rfl

/-- Counts after counts are the counts of both lists. -/
theorem State.counts_append (s : State) (l m : List (State → State × List Instr)) :
    s.counts (l ++ m) = (((s.counts l).1.counts m).1, (s.counts l).2 ++ ((s.counts l).1.counts m).2) := by
  induction l generalizing s with
  | nil => rfl
  | cons f l ih => simp only [List.cons_append, State.counts, ih, List.append_assoc]

/-- The Readout Port's clock in one period: no edge, a falling edge, or a rising edge with a level on XIN (R163;
assumption log 13). -/
theorem State.countPort_cases (s : State) :
    s.countPort = (s, []) ∨ (s.port.xclkHigh = true ∧ s.countPort = (s.clockFall, [])) ∨
      (s.port.xclkHigh = false ∧ ∃ xin, s.countPort = s.clockRise xin) := by
  unfold State.countPort
  split
  · cases hhigh : s.port.xclkHigh with
    | true => exact .inr (.inl ⟨rfl, if_pos rfl⟩)
    | false => exact .inr (.inr ⟨rfl, _, if_neg Bool.false_ne_true⟩)
  · exact .inl rfl

/-- One crystal period: its counts, the Readout Port's clock, and the commands that fall due with them, which wait
in any order (assumption logs 4 and 5). -/
theorem State.crystalPeriod_eq (s : State) :
    ∃ n waiting, s.crystalPeriod =
        { s.crystalCounted with
          port := s.crystalCounted.countPort.1.port, freeIndex := n, pending := waiting } ∧
      waiting.Perm (s.crystalCommands ++ s.crystalCounted.countPort.2) := by
  obtain ⟨_, hport⟩ := s.crystalCounted.countPort_frame
  have hcounts : s.counts
      [State.countPhase, State.countListening, State.countGate, State.countKeys, State.countLine, State.countTone,
        State.countPort] =
      (s.crystalCounted.countPort.1, s.crystalCommands ++ s.crystalCounted.countPort.2) := by
    refine (s.counts_append [State.countPhase, State.countListening, State.countGate, State.countKeys, State.countLine,
      State.countTone] [State.countPort]).trans ?_
    rw [s.crystalCounts_eq]
    simp only [State.counts, List.append_nil]
  have hperm := s.crystalPeriod_pending
  rw [hcounts] at hperm
  have hfields : s.crystalPeriod =
      { (s.counts
          [State.countPhase, State.countListening, State.countGate, State.countKeys, State.countLine, State.countTone,
            State.countPort]).1 with
        freeIndex := s.crystalPeriod.freeIndex, pending := s.crystalPeriod.pending } := rfl
  rw [hcounts, hport] at hfields
  exact ⟨_, _, hfields, hperm⟩

/-- Settles O3: the step on an empty queue. -/
theorem anIdleStepIsOneCrystalPeriod : Obligations.AnIdleStepIsOneCrystalPeriod := by
  have hstep : ∀ s : State, s.pending = [] → step s = .next s.idleStep := fun s hp => by
    unfold step
    rw [hp]
  refine ⟨fun s hp => ⟨fun hrun => ?_, fun hrun hdue => ?_⟩, fun s c hpeers => ?_, fun s hp hrun hdue => ?_⟩
  · rw [hstep s hp, State.idleStep, hrun]
    rfl
  · obtain ⟨c, hc, n, hidle⟩ := idleStep_due hrun hdue
    exact ⟨c, hc, n, (hstep s hp).trans (congrArg Host.Outcome.next hidle)⟩
  · intro reached
    rw [State.dueCommands, State.dueTimers_eq]
    simp only [List.mem_append, mem_if_due, s.mem_dueFrame, s.mem_dueStart, s.mem_dueExpiry, s.mem_dueSilences,
      s.mem_retriesDue hpeers, or_assoc]
    exact Iff.rfl
  · intro ticks listens listened interval active judged divided gate sampled keyTick accepts filtered keyed counts hold
      long combines panel pressed level idle begun read rests line lined byte rise fall
    have hidle : s.idleStep = s.crystalPeriod := by
      unfold State.idleStep
      rw [if_pos hrun, hdue]
    obtain ⟨n, waiting, hperiod, hwaiting⟩ := s.crystalPeriod_eq
    refine ⟨_, s.crystalCounted.countPort.2, (hstep s hp).trans (congrArg Host.Outcome.next (hidle.trans hperiod)),
      rfl, rfl, ?_, rfl, ?_, ?_, ?_, rfl, rfl, rfl, rfl, rfl, rfl⟩
    · exact rfl
    · have hline : ∀ dominant, s.lineCounted dominant = line dominant := fun _ => rfl
      rw [← hline, ← hline]
      cases hends : Config.levelEnds s.freeIndex with
      | true => exact .inr (congrArg s.lineCounted (by rw [hends]; simp))
      | false => exact .inl (congrArg s.lineCounted (by rw [hends]; simp))
    · rcases s.crystalCounted.countPort_cases with hport | ⟨hhigh, hport⟩ | ⟨hlow, xin, hport⟩
      · exact .inl ⟨by rw [hport]; rfl, by rw [hport]⟩
      · refine .inr (.inl ⟨hhigh, ?_, by rw [hport]⟩)
        rw [hport, State.clockFall_eq]
        rfl
      · refine .inr (.inr ⟨hlow, xin, ?_⟩)
        rw [hport]
        exact s.crystalCounted.clockRise_eq xin
    · have hsampled : s.gateCommands = sampled := by
        by_cases hj : s.gateJudged = true
        · have hreleased : s.gateReleased = true := (Bool.and_eq_true_iff.1 hj).2
          exact (if_pos hj).trans ((if_pos hreleased).trans (if_pos hj).symm)
        · exact (if_neg hj).trans (if_neg hj).symm
      show waiting.Perm _
      rw [← hsampled]
      exact hwaiting

end Sys2Proof.Machine
end

section
/-! PROOFS. What a carried time ends: the timers, the tone's steps, the retries, the expiries and the close. -/

namespace Sys2Proof.Machine

section
variable {s t : State}

/-! ### The timers that an adoption ends (R29) -/

/-- The beacon timer and the fresh span (R35, R106). -/
theorem State.endTimers_outbox (s : State) :
    s.endTimers.outbox.beaconDue = (s.due s.outbox.beaconTimer || s.outbox.beaconDue) ∧
      s.endTimers.outbox.beaconTimer =
        (if s.due s.outbox.beaconTimer then some (s.now + 250) else s.outbox.beaconTimer) ∧
      s.endTimers.outbox.freshEnd = (if s.due s.outbox.freshEnd then none else s.outbox.freshEnd) := by
  have hdue : ∀ timer, s.silencePeers.due timer = s.due timer := fun _ => rfl
  have hfresh : s.silencePeers.beaconTimerStep.outbox.freshEnd = s.outbox.freshEnd := by simp
  have hbeacon : s.silencePeers.beaconTimerStep.due = s.due := by
    unfold State.due
    simp
  have houtbox : s.endTimers.outbox = s.silencePeers.beaconTimerStep.freshStep.outbox := by simp [State.endTimers]
  have hstep : s.silencePeers.beaconTimerStep.freshStep.outbox.freshEnd =
      if s.due s.outbox.freshEnd then none else s.outbox.freshEnd := by
    unfold State.freshStep
    rw [hbeacon, hfresh]
    split
    · rfl
    · exact hfresh
  rw [houtbox]
  refine ⟨?_, ?_, hstep⟩
  · have hsame : s.silencePeers.beaconTimerStep.freshStep.outbox.beaconDue =
      s.silencePeers.beaconTimerStep.outbox.beaconDue := by simp
    rw [hsame]
    unfold State.beaconTimerStep
    rw [hdue]
    split
    next h =>
      rw [show s.due s.outbox.beaconTimer = true from h]
      rfl
    next h =>
      rw [show s.due s.outbox.beaconTimer = false from Bool.not_eq_true _ ▸ h]
      rfl
  · have hsame : s.silencePeers.beaconTimerStep.freshStep.outbox.beaconTimer =
      s.silencePeers.beaconTimerStep.outbox.beaconTimer := by simp
    rw [hsame]
    unfold State.beaconTimerStep
    rw [hdue]
    exact apply_ite (fun u : State => u.outbox.beaconTimer) _ _ _

/-- The two holds (R180). -/
theorem State.endTimers_holds (s : State) :
    s.endTimers.panel.resultHold =
        (if s.due (s.panel.resultHold.map (fun h => h.endsAt)) then none else s.panel.resultHold) ∧
      s.endTimers.panel.runHold =
        (if s.due (s.panel.runHold.map (fun h => h.endsAt)) then none else s.panel.runHold) := by
  have hdue : s.silencePeers.beaconTimerStep.freshStep.due = s.due ∧
      s.silencePeers.beaconTimerStep.freshStep.resultHoldStep.due = s.due := by
    unfold State.due
    simp
  have hpanel : s.silencePeers.beaconTimerStep.freshStep.panel = s.panel := by simp
  have hrun : s.silencePeers.beaconTimerStep.freshStep.resultHoldStep.panel.runHold = s.panel.runHold := by simp
  constructor
  · have hsame : s.endTimers.panel.resultHold =
      s.silencePeers.beaconTimerStep.freshStep.resultHoldStep.panel.resultHold := by simp [State.endTimers]
    rw [hsame]
    unfold State.resultHoldStep
    rw [hdue.1, hpanel]
    split
    · rfl
    · rw [hpanel]
  · have hsame : s.endTimers.panel.runHold =
      s.silencePeers.beaconTimerStep.freshStep.resultHoldStep.runHoldStep.panel.runHold := by simp [State.endTimers]
    rw [hsame]
    unfold State.runHoldStep
    rw [hdue.2, hrun]
    split
    · rfl
    · exact hrun

/-- The silence timers, of every station number (R111). -/
theorem State.endTimers_peer (s : State) (i : Nat) :
    s.endTimers.peer i = if s.silenceDue (s.peer i) then (s.peer i).fallSilent else s.peer i := by
  have hpeers : s.endTimers.receiver.peers = s.silencePeers.receiver.peers := by simp [State.endTimers]
  have hreset : s.silenceDue Peer.reset = false := rfl
  rw [State.peer, hpeers]
  simp only [State.silencePeers, State.peer, List.getD_eq_getElem?_getD, List.getElem?_map]
  cases s.receiver.peers[i]? with
  | none => simp [hreset]
  | some x => rfl

/-! ### The tone (R183, R184) -/

/-- The tone's step, or its pattern's end, lies ahead. -/
def State.ToneAhead (s : State) : Prop := ∀ x, s.panel.tone = some x → s.now < x.endsAt

/-- A tone that stays lies ahead as it did. -/
theorem State.ToneAhead.of_panel (h : s.ToneAhead) (htone : t.panel.tone = s.panel.tone) (hnow : t.now = s.now) :
    t.ToneAhead := fun x hx => hnow ▸ h x (htone ▸ hx)

/-- An ALARM that a raised code starts has its end ahead. -/
theorem State.ToneAhead.raise (h : s.ToneAhead) (c : ErrorCode) : (s.raise c).ToneAhead := by
  intro x hx
  unfold State.raise at hx ⊢
  split at hx
  next hpending =>
    rw [if_pos hpending]
    exact h x hx
  next hpending =>
    rw [if_neg hpending]
    rw [State.requestTone_alarm] at hx ⊢
    obtain rfl := Option.some.inj hx
    exact Nat.lt_add_of_pos_right (by decide)

/-- One step of a tone: the end of what plays then lies ahead, or its pattern is further on, or nothing plays. -/
theorem State.toneStep_ahead (s : State) (k : Nat) (h : s.ToneAhead ∨ ∀ x, s.panel.tone = some x → k ≤ x.step) :
    s.toneStep.ToneAhead ∨ k + 1 < 3 ∧ ∀ x, s.toneStep.panel.tone = some x → k + 1 ≤ x.step := by
  unfold State.toneStep
  split
  next hdue =>
    obtain ⟨x, hx⟩ : ∃ x, s.panel.tone = some x := by
      cases htone : s.panel.tone with
      | none => simp [State.due, htone] at hdue
      | some x => exact ⟨x, rfl⟩
    have hreached : x.endsAt ≤ s.now := by simpa [State.due, hx] using hdue
    have hk : k ≤ x.step := h.elim (fun ha => absurd (ha x hx) (Nat.not_lt.2 hreached)) (· x hx)
    unfold State.endToneStep
    rw [hx]
    dsimp only
    split
    next len hnext =>
      rw [Pattern.next_step] at hnext
      have hstep : x.step < 2 := by
        by_contra hlate
        simp [hlate] at hnext
      exact .inr ⟨by omega, fun y hy => Option.some.inj hy ▸ Nat.succ_le_succ hk⟩
    next => exact .inl fun y hy => nomatch hy
  next hdue =>
    refine .inl fun x hx => ?_
    simpa [State.due, hx] using hdue

/-- After an adoption the end of a tone's step lies ahead: no pattern has more than three steps (R29, R183). -/
theorem State.endTimers_tone (s : State) : s.endTimers.ToneAhead := by
  have hfirst := State.toneStep_ahead s.silencePeers.beaconTimerStep.freshStep.resultHoldStep.runHoldStep 0
    (.inr fun _ _ => Nat.zero_le _)
  have hsecond := State.toneStep_ahead _ 1 (hfirst.imp_right And.right)
  have hthird := State.toneStep_ahead _ 2 (hsecond.imp_right And.right)
  exact hthird.elim id fun h => absurd h.1 (by decide)

/-- Losses keep the end of a tone's step ahead. -/
theorem State.ToneAhead.lose (h : s.ToneAhead) (p : Nat) (q : Byte) : (s.lose p q).ToneAhead := by
  have hreported : (s.lossReported p q).ToneAhead :=
    State.ToneAhead.raise (h.of_panel (by simp) (by simp)) .e05
  have hlose : s.lose p q =
      if p = 0 then (s.lossReported p q).setHeld (s.lossReported p q).receiver.snapshot.highest
      else s.lossReported p q := rfl
  rw [hlose]
  split
  · exact hreported.of_panel (by simp) (by simp)
  · exact hreported

/-- Retries keep the end of a tone's step ahead. -/
theorem State.ToneAhead.retryAll (l : List (Nat × Byte)) : ∀ {s : State}, s.ToneAhead → (s.retryAll l).ToneAhead := by
  induction l with
  | nil => exact id
  | cons y ys ih =>
    intro s h
    refine ih ?_
    unfold State.retryOne State.retry
    split
    · split
      · exact h.of_panel (by simp) (by simp)
      · exact h.lose _ _
    · exact h

/-- The close keeps the end of a tone's step ahead: it starts the ALARM of E10, or none. -/
theorem State.ToneAhead.close (h : s.ToneAhead) : s.close.ToneAhead := by
  have hentries : (State.strayEntries
      { s with station := { s.station with state := .closed, closedSpeaking := s.isActive } } .closed).ToneAhead :=
    h.of_panel (by simp [State.strayEntries, State.withEntries]) (by simp [State.strayEntries, State.withEntries]; rfl)
  exact (hentries.raise .e10).of_panel (by simp [State.close]) (by simp [State.close])

/-- So does everything that falls together at a change of course time. -/
theorem State.ToneAhead.takeAll (l : List Together) : ∀ {s : State}, s.ToneAhead → (s.takeAll l).ToneAhead := by
  induction l with
  | nil => exact id
  | cons y ys ih =>
    intro s h
    refine ih ?_
    cases y with
    | expire => exact h.of_panel (by simp [State.takeTogether]) (by simp)
    | retry => exact h.retryAll _
    | close =>
      show s.closeAtLimit.ToneAhead
      unfold State.closeAtLimit
      split
      · exact h.close
      · exact h

/-! ### The retries (R117) -/

/-- An entry after the deadlines of some sequences: lost after three attempts, and tried again before (R117). -/
def MissingEntry.retried (now : Nat) (hit : Byte → Bool) (m : MissingEntry) : Option MissingEntry :=
  if hit m.seq && decide (m.deadline ≤ now) then
    if m.attempts < 3 then some { m with attempts := m.attempts + 1, deadline := now + 100 } else none
  else some m

/-- Deadlines after deadlines are the deadlines of both: an entry tried again has its next one ahead. -/
theorem MissingEntry.retried_retried (now : Nat) (hit hit' : Byte → Bool) (m : MissingEntry) :
    (m.retried now hit).bind (fun x => x.retried now hit') = m.retried now (fun q => hit q || hit' q) := by
  unfold MissingEntry.retried
  by_cases hdue : m.deadline ≤ now
  · have hlater : ¬ now + 100 ≤ now := by omega
    cases hm : hit m.seq
    · simp [hm, hdue]
    · by_cases hattempts : m.attempts < 3 <;> simp [hm, hdue, hattempts, hlater]
  · simp [hdue]

/-- A list's entries lost are filtered, and those tried again changed. -/
theorem retried_list (now : Nat) (hit : Byte → Bool) (l : List MissingEntry) :
    l.filterMap (MissingEntry.retried now hit) =
      (l.filter (fun m => !(hit m.seq && decide (m.deadline ≤ now) && decide (3 ≤ m.attempts)))).map
        (fun m =>
          if hit m.seq = true ∧ m.deadline ≤ now then { m with attempts := m.attempts + 1, deadline := now + 100 }
          else m) := by
  induction l with
  | nil => rfl
  | cons m l ih =>
    rw [List.filterMap_cons, List.filter_cons, ih, MissingEntry.retried]
    cases hm : hit m.seq with
    | false => simp [hm]
    | true =>
      by_cases hdue : m.deadline ≤ now
      · by_cases hattempts : m.attempts < 3
        · simp [hm, hdue, hattempts, Nat.not_le.2 hattempts]
        · simp [hdue, hattempts, Nat.le_of_not_lt hattempts]
      · simp [hm, hdue]

/-- One retry of a peer whose sequences are distinct (R117). -/
theorem State.retryOne_missing {p : Nat} (hp : p < 16) (hpeers : s.receiver.peers.length = 16)
    (hnodup : ((s.peer p).missing.map (fun m => m.seq)).Nodup) (q : Byte) :
    ((s.retryOne p q).peer p).missing = (s.peer p).missing.filterMap (MissingEntry.retried s.now (· == q)) := by
  obtain ⟨-, -, -, -, hdeadline⟩ := lostSequencesAreReported
  obtain ⟨t, hexec, hmissing, -⟩ := hdeadline s ⟨p, hp⟩ q hpeers hnodup
  obtain rfl := Host.Outcome.next.inj ((exec_retryDeadline ⟨p, hp⟩ q).symm.trans hexec)
  rw [retried_list]
  rw [State.settleLine_eq] at hmissing
  refine Eq.trans hmissing ?_
  simp only [beq_iff_eq]

/-- A retry leaves the other peers. -/
theorem State.retryOne_other (s : State) {p i : Nat} (hi : i ≠ p) (q : Byte) : (s.retryOne p q).peer i = s.peer i := by
  unfold State.retryOne State.retry
  split
  · split
    next m _ _ =>
      have hother := (s.peer_withPeer_eq p i
        { s.peer p with
          missing :=
            changeEntry m.seq (fun x => { x with attempts := x.attempts + 1, deadline := s.now + 100 })
              (s.peer p).missing }).trans (if_neg fun h => hi h.1)
      rw [← hother]
      simp only [State.peer, State.addControl_frame]
      rfl
    · refine (State.loseAll_peer p i [_] s).trans (if_neg hi)
  · rfl

/-- A retry keeps the Peer Table's length. -/
theorem State.retryOne_length (s : State) (p : Nat) (q : Byte) :
    (s.retryOne p q).receiver.peers.length = s.receiver.peers.length := by
  unfold State.retryOne State.retry
  split
  · split
    · simp [State.withMissing, State.withPeer]
    · exact State.loseAll_length p [_] s
  · rfl

/-- Entries tried again keep their sequences, and those lost leave with theirs. -/
theorem retried_nodup {l : List MissingEntry} (hnodup : (l.map (fun m => m.seq)).Nodup) (now : Nat) (hit : Byte → Bool) :
    ((l.filterMap (MissingEntry.retried now hit)).map (fun m => m.seq)).Nodup := by
  rw [retried_list, List.map_map]
  have hseq : ((fun m : MissingEntry => m.seq) ∘ fun m =>
      if hit m.seq = true ∧ m.deadline ≤ now then { m with attempts := m.attempts + 1, deadline := now + 100 } else m) =
      fun m => m.seq := by
    funext m
    simp only [Function.comp_apply]
    split <;> rfl
  rw [hseq]
  exact hnodup.sublist (List.filter_sublist.map _)

/-- The retries of a list, at a peer whose sequences are distinct. -/
theorem State.retryAll_missing {i : Nat} (hi : i < 16) (l : List (Nat × Byte)) :
    ∀ {s : State}, s.receiver.peers.length = 16 → ((s.peer i).missing.map (fun m => m.seq)).Nodup →
      ((s.retryAll l).peer i).missing =
        (s.peer i).missing.filterMap (MissingEntry.retried s.now (fun q => l.contains (i, q))) := by
  induction l with
  | nil =>
    intro s _ _
    exact (List.filterMap_some (l := (s.peer i).missing)).symm
  | cons y ys ih =>
    intro s hpeers hnodup
    obtain ⟨p, q⟩ := y
    have hlength := (s.retryOne_length p q).trans hpeers
    have hnow : (s.retryOne p q).now = s.now := by simp
    by_cases hpi : i = p
    · subst hpi
      have hone := State.retryOne_missing hi hpeers hnodup q
      refine (ih hlength (by rw [hone]; exact retried_nodup hnodup _ _)).trans ?_
      rw [hone, hnow, List.filterMap_filterMap]
      refine List.filterMap_congr fun m _ => (MissingEntry.retried_retried s.now _ _ m).trans ?_
      refine congrArg (fun hit => MissingEntry.retried s.now hit m) (funext fun r => ?_)
      by_cases hr : r = q <;> simp [hr]
    · have hother := s.retryOne_other hpi q
      refine (ih hlength (by rw [hother]; exact hnodup)).trans ?_
      rw [hother, hnow]
      refine List.filterMap_congr fun m _ => ?_
      refine congrArg (fun hit => MissingEntry.retried s.now hit m) (funext fun r => ?_)
      simp [hpi]

/-- A deadline that has ended is among the retries that are due (R117). -/
theorem State.mem_retriesDue_of {i : Nat} {m : MissingEntry} (hm : m ∈ (s.peer i).missing) (hdue : m.deadline ≤ s.now) :
    (i, m.seq) ∈ s.retriesDue := by
  have hplaced : s.receiver.peers[i]? = some (s.peer i) := by
    rw [State.peer, List.getD_eq_getElem?_getD]
    cases hentry : s.receiver.peers[i]? with
    | some x => rfl
    | none =>
      rw [State.peer, List.getD_eq_getElem?_getD, hentry] at hm
      exact absurd hm (List.not_mem_nil)
  unfold State.retriesDue
  refine List.mem_flatten_of_mem (List.mem_map_of_mem (List.mk_mem_zipIdx_iff_getElem?.2 hplaced)) ?_
  exact List.mem_map_of_mem (List.mem_filter.2 ⟨hm, decide_eq_true hdue⟩)

/-- After the retries that are due a peer's list is that of every deadline that has ended (R117). -/
theorem State.retriesDue_missing {i : Nat} (hi : i < 16) (hpeers : s.receiver.peers.length = 16)
    (hnodup : ((s.peer i).missing.map (fun m => m.seq)).Nodup) :
    ((s.retryAll s.retriesDue).peer i).missing =
      (s.peer i).missing.filterMap (MissingEntry.retried s.now (fun _ => true)) := by
  rw [State.retryAll_missing hi _ hpeers hnodup]
  refine List.filterMap_congr fun m hm => ?_
  unfold MissingEntry.retried
  by_cases hdue : m.deadline ≤ s.now
  · simp [hdue, State.mem_retriesDue_of hm hdue]
  · simp [hdue]

/-- A deadline that has ended at a peer after a retry had ended before it, and is of no sequence tried again. -/
theorem State.retryOne_due {p i : Nat} {q : Byte} {m : MissingEntry} (hm : m ∈ ((s.retryOne p q).peer i).missing)
    (hdue : m.deadline ≤ s.now) : m ∈ (s.peer i).missing ∧ (i, m.seq) ≠ (p, q) := by
  by_cases hi : i = p
  · subst hi
    have hquiet : ∀ r, s.retryDue i r = none → m ∈ (s.peer i).missing → m.seq ≠ r := fun r hnone hm hr => by
      simpa [hr, hdue] using List.find?_eq_none.1 hnone m hm
    unfold State.retryOne at hm
    cases hfind : s.retryDue i q with
    | none =>
      rw [hfind] at hm
      exact ⟨hm, fun h => hquiet q hfind hm (congrArg Prod.snd h)⟩
    | some x =>
      rw [hfind] at hm
      have hx := List.find?_some hfind
      simp only [Bool.and_eq_true, beq_iff_eq, decide_eq_true_eq] at hx
      obtain ⟨hq, -⟩ := hx
      dsimp only at hm
      unfold State.retry at hm
      split at hm
      · have hlist : ((s.withMissing i (changeEntry x.seq
            (fun x => { x with attempts := x.attempts + 1, deadline := s.now + 100 }) (s.peer i).missing)).peer i).missing =
            changeEntry x.seq (fun x => { x with attempts := x.attempts + 1, deadline := s.now + 100 })
              (s.peer i).missing := by
          rw [State.withMissing, State.peer_withPeer_eq]
          split
          · rfl
          next hout =>
            have hreset : s.peer i = Peer.reset := by
              have hlen : ¬ i < s.receiver.peers.length := fun hin => hout ⟨rfl, hin⟩
              simp [State.peer, List.getElem?_eq_none (Nat.not_lt.1 hlen)]
            rw [hreset]
            rfl
        simp only [State.peer, State.addControl_frame] at hm
        obtain ⟨m', hm', hchanged⟩ := List.mem_map.1 (hlist ▸ hm)
        split at hchanged
        · subst hchanged
          exact absurd hdue (by simp)
        next hother =>
          subst hchanged
          exact ⟨hm', fun h => hother ((congrArg Prod.snd h).trans hq.symm)⟩
      · have hpeer := congrArg Peer.missing ((State.loseAll_peer i i [x.seq] s).trans (if_pos rfl))
        rw [show ((s.lose i x.seq).peer i).missing = _ from hpeer] at hm
        obtain ⟨hm, hkept⟩ := List.mem_filter.1 hm
        refine ⟨hm, fun h => ?_⟩
        have hseq : m.seq = q := congrArg Prod.snd h
        simp [hq, hseq] at hkept
  · rw [s.retryOne_other hi q] at hm
    exact ⟨hm, fun h => hi (congrArg Prod.fst h)⟩

/-- After the retries of a list no deadline has ended that is on it. -/
theorem State.retryAll_due {i : Nat} {m : MissingEntry} (l : List (Nat × Byte)) :
    ∀ {s : State}, m ∈ ((s.retryAll l).peer i).missing → m.deadline ≤ s.now →
      m ∈ (s.peer i).missing ∧ (i, m.seq) ∉ l := by
  induction l with
  | nil => exact fun hm _ => ⟨hm, List.not_mem_nil⟩
  | cons y ys ih =>
    intro s hm hdue
    obtain ⟨hm, hnot⟩ := ih (s := s.retryOne y.1 y.2) hm (by simpa using hdue)
    obtain ⟨hm, hne⟩ := State.retryOne_due hm hdue
    exact ⟨hm, fun h => (List.mem_cons.1 h).elim hne hnot⟩

/-- No deadline of a peer has ended. -/
def State.Ahead (s : State) (i : Nat) : Prop := ∀ m ∈ (s.peer i).missing, s.now < m.deadline

/-- After the retries that are due no deadline has ended (R117). -/
theorem State.retriesDue_ahead (s : State) (i : Nat) : (s.retryAll s.retriesDue).Ahead i := by
  intro m hm
  by_contra hdue
  have hended : m.deadline ≤ s.now := by simpa using hdue
  obtain ⟨hmem, hnot⟩ := State.retryAll_due _ hm hended
  exact hnot (State.mem_retriesDue_of hmem hended)

/-- Where no retry is due no deadline has ended. -/
theorem State.Ahead.of_none (h : s.retriesDue = []) (i : Nat) : s.Ahead i := by
  intro m hm
  by_contra hended
  have hlist := State.mem_retriesDue_of hm (by simpa using hended)
  rw [h] at hlist
  exact absurd hlist List.not_mem_nil

/-- Retries keep the Peer Table's length. -/
theorem State.retryAll_length (l : List (Nat × Byte)) :
    ∀ s : State, (s.retryAll l).receiver.peers.length = s.receiver.peers.length := by
  induction l with
  | nil => exact fun _ => rfl
  | cons y ys ih => exact fun s => (ih _).trans (s.retryOne_length y.1 y.2)

/-! ### What falls together (R38, R70) -/

/-- What falls together leaves the Missing Lists but where a retry is among it. -/
theorem State.takeTogether_receiver {y : Together} (hy : y ≠ .retry) : (s.takeTogether y).receiver = s.receiver := by
  cases y with
  | expire => simp [State.takeTogether]
  | close => simp [State.takeTogether]
  | retry => exact absurd rfl hy

/-- Deadlines that lie ahead are still ahead after what falls together, and with the retries among it all are. -/
theorem State.takeAll_ahead {i : Nat} (l : List Together) :
    ∀ {s : State}, s.Ahead i ∨ .retry ∈ l → (s.takeAll l).Ahead i := by
  induction l with
  | nil => exact fun h => h.elim id fun h => nomatch h
  | cons y ys ih =>
    intro s h
    by_cases hy : y = .retry
    · subst hy
      exact ih (.inl (s.retriesDue_ahead i))
    · refine ih (h.imp (fun ha => ?_) fun hmem => (List.mem_cons.1 hmem).resolve_left (Ne.symm hy))
      intro m hm
      rw [State.peer, State.takeTogether_receiver hy] at hm
      simpa using ha m hm

/-- What falls together changes a peer's list, where its sequences are distinct, as its deadlines that have ended do. -/
theorem State.takeAll_missing {i : Nat} (hi : i < 16) (l : List Together) :
    ∀ {s : State}, s.receiver.peers.length = 16 → ((s.peer i).missing.map (fun m => m.seq)).Nodup →
      s.Ahead i ∨ .retry ∈ l →
      ((s.takeAll l).peer i).missing = (s.peer i).missing.filterMap (MissingEntry.retried s.now (fun _ => true)) := by
  have hahead : ∀ {u : State}, u.Ahead i →
      (u.peer i).missing = (u.peer i).missing.filterMap (MissingEntry.retried u.now (fun _ => true)) := by
    intro u hu
    refine (List.filterMap_some (l := (u.peer i).missing)).symm.trans (List.filterMap_congr fun m hm => ?_)
    have hlater := hu m hm
    simp [MissingEntry.retried, hlater]
  induction l with
  | nil => exact fun _ _ h => hahead (h.elim id fun h => nomatch h)
  | cons y ys ih =>
    intro s hpeers hnodup h
    have hnow : (s.takeTogether y).now = s.now := by simp
    by_cases hy : y = .retry
    · subst hy
      have hretried : ((s.takeTogether .retry).peer i).missing = _ := State.retriesDue_missing hi hpeers hnodup
      have hlength : (s.takeTogether .retry).receiver.peers.length = 16 := (s.retryAll_length _).trans hpeers
      refine (ih hlength ?_ (.inl (s.retriesDue_ahead i))).trans ?_
      · rw [hretried]
        exact retried_nodup hnodup _ _
      · have hlater : (s.takeTogether .retry).Ahead i := s.retriesDue_ahead i
        rw [← hahead hlater, hretried]
    · have hsame : (s.takeTogether y).receiver = s.receiver := State.takeTogether_receiver hy
      have hpeer : (s.takeTogether y).peer i = s.peer i := by rw [State.peer, hsame, State.peer]
      refine (ih (by rw [hsame]; exact hpeers) (by rw [hpeer]; exact hnodup) ?_).trans (by rw [hpeer, hnow])
      refine h.imp (fun ha m hm => ?_) fun hmem => (List.mem_cons.1 hmem).resolve_left (Ne.symm hy)
      rw [hpeer] at hm
      rw [hnow]
      exact ha m hm

/-- Every pending crossing's deadline lies ahead. -/
def State.EntriesAhead (s : State) : Prop := ∀ e ∈ s.assign.entries, s.now < e.deadline

/-- Crossings whose deadlines lie ahead stay so, and with the expiries among what falls together all are (R67). -/
theorem State.takeAll_entries (l : List Together) :
    ∀ {s : State}, s.EntriesAhead ∨ .expire ∈ l → (s.takeAll l).EntriesAhead := by
  induction l with
  | nil => exact fun h => h.elim id fun h => nomatch h
  | cons y ys ih =>
    intro s h
    have hnow : (s.takeTogether y).now = s.now := by simp
    by_cases hy : y = .expire
    · subst hy
      refine ih (.inl fun e he => ?_)
      have hentries : (s.takeTogether .expire).assign.entries =
          s.assign.entries.filter (fun e => !decide (e.deadline ≤ s.now)) := by
        simp [State.takeTogether, State.expireEntries, State.withEntries]
      rw [hentries] at he
      rw [hnow]
      simpa using (List.mem_filter.1 he).2
    · refine ih (h.imp (fun ha e he => ?_) fun hmem => (List.mem_cons.1 hmem).resolve_left (Ne.symm hy))
      rw [hnow]
      have hsubset : (s.takeTogether y).assign.entries ⊆ s.assign.entries :=
        (State.takeTogether_moves (x := false) s y).keeps (P := fun u => u.assign.entries ⊆ s.assign.entries)
          (fun _ _ hact hu => List.Subset.trans hact.entries_subset hu) (List.Subset.refl _)
      exact ha e (hsubset he)

/-- The retries fall together where a deadline has ended, and the expiries where a crossing's has. -/
theorem State.mem_together (s : State) :
    (s.retriesDue ≠ [] → .retry ∈ s.together) ∧
      ((∃ e ∈ s.assign.entries, e.deadline ≤ s.now) → .expire ∈ s.together) := by
  refine ⟨fun h => ?_, fun ⟨e, he, hdue⟩ => ?_⟩
  · simp [State.together, h]
  · have hany : s.assign.entries.any (fun e => decide (e.deadline ≤ s.now)) = true :=
      List.any_eq_true.2 ⟨e, he, decide_eq_true hdue⟩
    simp [State.together, hany]

/-- An order of what falls together, with the free order's counter past it. -/
theorem State.fallTogether_eq (s : State) (isStep : Bool) :
    ∃ l n, s.fallTogether isStep = { s with freeIndex := n }.takeAll l ∧ ∀ y, y ∈ s.together → y ∈ l := by
  unfold State.fallTogether
  refine ⟨_, _, rfl, fun y hy => ?_⟩
  have hmem := (pickOrder_perm s.together.length s.freeIndex s.together le_rfl).mem_iff.2 hy
  split
  · exact (mem_expiriesFirst _ _).2 hmem
  · exact hmem

/-- After a change of course time nothing that it reached is left behind (R29, R67, R117). -/
theorem State.fallTogether_ahead (s : State) (isStep : Bool) :
    (∀ i, (s.fallTogether isStep).Ahead i) ∧ (s.fallTogether isStep).EntriesAhead ∧
      (s.ToneAhead → (s.fallTogether isStep).ToneAhead) := by
  obtain ⟨l, n, heq, hmem⟩ := s.fallTogether_eq isStep
  obtain ⟨hretry, hexpire⟩ := s.mem_together
  rw [heq]
  refine ⟨fun i => State.takeAll_ahead l ?_, State.takeAll_entries l ?_, fun h => State.ToneAhead.takeAll l h⟩
  · by_cases hdue : s.retriesDue = []
    · exact .inl (State.Ahead.of_none (s := s) hdue i)
    · exact .inr (hmem _ (hretry hdue))
  · by_cases hdue : ∃ e ∈ s.assign.entries, e.deadline ≤ s.now
    · exact .inr (hmem _ (hexpire hdue))
    · refine .inl fun e he => ?_
      by_contra hended
      exact hdue ⟨e, he, Nat.le_of_not_lt hended⟩

/-- A change of course time does to a peer's list, where its sequences are distinct, what its deadlines that have
ended do (R117). -/
theorem State.fallTogether_missing {i : Nat} (hi : i < 16) (isStep : Bool) (hpeers : s.receiver.peers.length = 16)
    (hnodup : ((s.peer i).missing.map (fun m => m.seq)).Nodup) :
    ((s.fallTogether isStep).peer i).missing =
      (s.peer i).missing.filterMap (MissingEntry.retried s.now (fun _ => true)) := by
  obtain ⟨l, n, heq, hmem⟩ := s.fallTogether_eq isStep
  rw [heq]
  refine State.takeAll_missing hi l (s := { s with freeIndex := n }) hpeers hnodup ?_
  by_cases hdue : s.retriesDue = []
  · exact .inl (State.Ahead.of_none (s := s) hdue i)
  · exact .inr (hmem _ ((s.mem_together).1 hdue))

end

end Sys2Proof.Machine
end

section
/-! PROOFS. A beacon's time, whole: the state it finds, and what it makes of the station. -/

namespace Sys2Proof.Machine

section
variable {s t u : State} {h : Header}

/-! ### The bookkeeping of a beacon, in the Peer Table (R116) -/

/-- Of the Peer Table one station's expected sequence and Missing List alone may have changed. -/
structure State.Rebooks (s : State) (p : Nat) (t : State) : Prop where
  others : ∀ i, i ≠ p → t.peer i = s.peer i
  presence : (t.peer p).presence = (s.peer p).presence
  silence : (t.peer p).silenceEnd = (s.peer p).silenceEnd
  length : t.receiver.peers.length = s.receiver.peers.length

/-- A Peer Table that stays. -/
theorem State.Rebooks.of_peers {p : Nat} (h : t.receiver.peers = s.receiver.peers) : s.Rebooks p t :=
  ⟨fun i _ => by rw [State.peer, h, State.peer], by rw [State.peer, h, State.peer], by rw [State.peer, h, State.peer],
    by rw [h]⟩

/-- Over several operations. -/
theorem State.Rebooks.trans {p : Nat} (h : s.Rebooks p t) (h' : t.Rebooks p u) : s.Rebooks p u :=
  ⟨fun i hi => (h'.others i hi).trans (h.others i hi), h'.presence.trans h.presence, h'.silence.trans h.silence,
    h'.length.trans h.length⟩

/-- An entry with another expected sequence and Missing List. -/
theorem State.withPeer_rebooks (s : State) (p : Nat) {x : Peer} (hpresence : x.presence = (s.peer p).presence)
    (hsilence : x.silenceEnd = (s.peer p).silenceEnd) : s.Rebooks p (s.withPeer p x) := by
  have hother : ∀ i, i ≠ p → (s.withPeer p x).peer i = s.peer i := fun i hi => by
    rw [State.peer_withPeer_eq, if_neg fun hall => hi hall.1]
  have hown : (s.withPeer p x).peer p = x ∨ (s.withPeer p x).peer p = s.peer p := by
    rw [State.peer_withPeer_eq]
    split
    · exact .inl rfl
    · exact .inr rfl
  refine ⟨hother, ?_, ?_, by simp [State.withPeer]⟩
  · rcases hown with hown | hown <;> rw [hown]
    exact hpresence
  · rcases hown with hown | hown <;> rw [hown]
    exact hsilence

/-- Losses. -/
theorem State.loseAll_rebooks (s : State) (p : Nat) (lost : List Byte) : s.Rebooks p (s.loseAll p lost) := by
  have hown := (State.loseAll_peer p p lost s).trans (if_pos rfl)
  exact ⟨fun i hi => (State.loseAll_peer p i lost s).trans (if_neg hi), by rw [hown]; rfl, by rw [hown]; rfl,
    State.loseAll_length p lost s⟩

/-- The expected sequence advanced, with the losses that go with it (R114). -/
theorem State.advance_rebooks (s : State) (p : Nat) (missing : List Byte) (e : Byte) :
    s.Rebooks p (s.advance p missing e) := by
  unfold State.advance
  exact (s.withPeer_rebooks p (by rfl) (by rfl)).trans (State.loseAll_rebooks _ p _)

/-- Sequences listed, with the losses of those that find no room (R115). -/
theorem State.listAll_rebooks (s : State) (p : Nat) (missing : List Byte) : s.Rebooks p (s.listAll p missing) := by
  unfold State.listAll State.withMissing
  exact (s.withPeer_rebooks p (by rfl) (by rfl)).trans (State.loseAll_rebooks _ p _)

/-- The bookkeeping of a beacon (R116). -/
theorem State.bookBeacon_rebooks (s : State) (p : Nat) (b : BeaconPayload) : s.Rebooks p (s.bookBeacon p b) := by
  have hjoin : ∀ (v : State) (highest : Nat), v.Rebooks p (if p = 0 then v.setHeld highest else v) := by
    intro v highest
    split
    · exact .of_peers (by simp)
    · exact .of_peers rfl
  have hrestart : ∀ e, s.Rebooks p ((s.loseEntries p).advance p [] e) := fun e =>
    (State.loseAll_rebooks s p _).trans (State.advance_rebooks _ p [] e)
  unfold State.bookBeacon
  dsimp only
  split
  · split
    · exact hrestart _
    · split
      · exact (s.advance_rebooks p [] _).trans (hjoin _ _)
      · exact .of_peers rfl
  · split
    · exact (hrestart _).trans (State.listAll_rebooks _ p _)
    · split
      · exact (s.advance_rebooks p [] _).trans (hjoin _ _)
      · split
        · exact s.advance_rebooks p _ _
        · exact .of_peers rfl

/-! ### The state that a beacon's time finds -/

/-- The station once a beacon is heard, its bookkeeping done and its epoch looked at (R112). -/
def State.booked (s : State) (h : Header) (b : BeaconPayload) : State :=
  (((s.heard h).bookBeacon h.station.toNat b).epochStep ⟨h, .beacon b⟩).1

/-- What of the station the bookkeeping and the epoch leave to the carried time. -/
theorem State.booked_frame (s : State) (h : Header) (b : BeaconPayload) :
    (s.booked h b).clock = s.clock ∧ (s.booked h b).station.state = s.station.state ∧
      (s.booked h b).outbox.beaconDue = s.outbox.beaconDue ∧
      (s.booked h b).outbox.beaconTimer = s.outbox.beaconTimer ∧
      (s.booked h b).outbox.freshEnd = s.outbox.freshEnd ∧
      (s.booked h b).panel.resultHold = s.panel.resultHold ∧ (s.booked h b).panel.runHold = s.panel.runHold := by
  simp only [State.booked, State.epochStep_frame, State.bookBeacon_frame]
  exact ⟨rfl, rfl, rfl, rfl, rfl, rfl, rfl⟩

/-- Nor does a beacon of no higher epoch change the Run Table of a station on course. -/
theorem State.booked_table (hcourse : s.onCourse = true) (hepoch : h.epoch ≤ s.epoch) (b : BeaconPayload) :
    (s.booked h b).table = s.table := by
  have hframe : ((s.heard h).bookBeacon h.station.toNat b).station.state = s.station.state ∧
      ((s.heard h).bookBeacon h.station.toNat b).epoch = s.epoch ∧
      ((s.heard h).bookBeacon h.station.toNat b).table = s.table := by
    simp only [State.bookBeacon_frame]
    exact ⟨rfl, rfl, rfl⟩
  obtain ⟨hstate, hsame, htable⟩ := hframe
  rw [State.booked, State.epochStep_same (by rw [hstate]; exact State.onCourse_not_listening hcourse)
    (by rw [hsame]; exact BitVec.not_lt.2 hepoch)]
  exact htable

/-- The peers: the sender present with a silence timer of 1000 ms, the others as they were (R111). -/
theorem State.Hears.booked_peer (hs : s.Hears h) (b : BeaconPayload) :
    (∀ i, i ≠ h.station.toNat → (s.booked h b).peer i = s.peer i) ∧
      ((s.booked h b).peer h.station.toNat).presence = .present ∧
      ((s.booked h b).peer h.station.toNat).silenceEnd = some (s.now + 1000) ∧
      (s.booked h b).receiver.peers.length = 16 := by
  have hreceiver : (s.booked h b).receiver = ((s.heard h).bookBeacon h.station.toNat b).receiver := by
    simp only [State.booked, State.epochStep_frame]
  have hpeer : ∀ i, (s.booked h b).peer i = ((s.heard h).bookBeacon h.station.toNat b).peer i := fun i => by
    rw [State.peer, hreceiver, State.peer]
  have hbooks := (s.heard h).bookBeacon_rebooks h.station.toNat b
  have hown : (s.heard h).peer h.station.toNat = _ := hs.heardAs_peer _ _
  refine ⟨fun i hi => ?_, ?_, ?_, ?_⟩
  · rw [hpeer, hbooks.others i hi, State.heard, State.heardAs_peer_other hi]
  · rw [hpeer, hbooks.presence, hown]
  · rw [hpeer, hbooks.silence, hown]
  · rw [hreceiver, hbooks.length]
    obtain ⟨-, hlength, -⟩ := hs
    simpa [State.heard, State.heardAs, Config.stationCount] using hlength

/-! ### The carried time -/

/-- The station at the adopted time, its on-course runs marked by a step (R13, R31, R32). -/
def State.adopted (s : State) (time : Nat) : State :=
  if s.isStep time then (s.adoptTime time).markStepped else s.adoptTime time

/-- What an adoption leaves of the station before any timer ends. -/
theorem State.adopted_frame (s : State) (time : Nat) :
    (s.adopted time).clock = { s.clock with courseTime := min (time + 1) 86400000, phase := 0 } ∧
      (s.adopted time).assign = s.assign ∧ (s.adopted time).outbox = s.outbox ∧
      (s.adopted time).receiver = s.receiver ∧ (s.adopted time).panel = s.panel ∧
      (s.adopted time).station = s.station ∧ (s.adopted time).results = s.results ∧
      (s.adopted time).epoch = s.epoch := by
  unfold State.adopted
  split
  · exact ⟨rfl, rfl, rfl, rfl, rfl, rfl, rfl, rfl⟩
  · exact ⟨rfl, rfl, rfl, rfl, rfl, rfl, rfl, rfl⟩

/-- A time that is ahead is adopted (R29, R31). -/
theorem State.takeTime_ahead {time : Nat} (hahead : s.clock.courseTime < time + 1) :
    s.takeTime time = (s.adopted time).endTimers.fallTogether (s.isStep time) :=
  if_neg (Nat.not_le.2 hahead)

/-- What a beacon does after its time shows in the snapshot and in HELD alone, and in whether the unit waits. -/
structure State.Shows (s t : State) : Prop where
  clock : t.clock = s.clock
  table : t.table = s.table
  outbox : t.outbox = s.outbox
  panel : t.panel = s.panel
  station : t.station = s.station
  results : t.results = s.results
  peers : t.receiver.peers = s.receiver.peers
  entries : t.assign.entries = s.assign.entries

/-- The content of a beacon is its time, and what shows so (R30, R113). -/
theorem State.beaconContent_shows (s : State) (h : Header) (b : BeaconPayload) (older : Bool) :
    (s.carried b).Shows (s.beaconContent ⟨h, .beacon b⟩ b older) := by
  have hsame : (s.carried b).Shows (s.carried b) := ⟨rfl, rfl, rfl, rfl, rfl, rfl, rfl, rfl⟩
  have hsnapshot : (s.carried b).Shows ((s.carried b).snapshotBeacon b) := ⟨rfl, rfl, rfl, rfl, rfl, rfl, rfl, rfl⟩
  have hrelease : ∀ (v : State) (oldest : Nat), v.Shows (v.releaseHeld oldest) := fun v oldest => by
    unfold State.releaseHeld
    split <;> exact ⟨rfl, rfl, rfl, rfl, rfl, rfl, rfl, rfl⟩
  cases older with
  | true =>
    rw [State.beaconContent_older]
    exact hsame
  | false =>
    by_cases hzero : h.station = 0#8
    · rw [State.beaconContent_zero hzero]
      split
      · obtain ⟨h1, h2, h3, h4, h5, h6, h7, h8⟩ := hrelease ((s.carried b).snapshotBeacon b) (b.oldest.getD 0#16).toNat
        exact ⟨h1, h2, h3, h4, h5, h6, h7, h8⟩
      · exact hsnapshot
    · have hother : s.beaconContent ⟨h, .beacon b⟩ b false = s.carried b := if_neg fun hall => hzero hall.1
      rw [hother]
      exact hsame

/-- A beacon from a peer that passes the checks: its time is taken after its bookkeeping, whatever its epoch (R30). -/
theorem State.Hears.exec_beacon {b : BeaconPayload} (hs : s.Hears h) (hseq : h.seq = 0#8)
    (hgates : b.gateCount.toNat = s.gates) (holdest : b.oldest.isSome = (h.station == 0#8))
    (htime : b.courseTime.toNat ≤ 86400000) :
    ∃ t, exec (.receiveBeacon h b) s = .next t ∧ ((s.booked h b).takeTime b.courseTime.toNat).Shows t := by
  refine ⟨_, congrArg (fun v : State => Host.Outcome.next v.settleLine) (hs.receive_beacon hseq hgates holdest), ?_⟩
  have hcarried : (s.booked h b).carried b = (s.booked h b).takeTime b.courseTime.toNat := if_pos htime
  obtain ⟨hclock, htable, houtbox, hpanel, hstation, hresults, hpeers, hentries⟩ :=
    (s.booked h b).beaconContent_shows h b
      (((s.heard h).bookBeacon h.station.toNat b).epochStep ⟨h, .beacon b⟩).2
  rw [← hcarried, State.settleLine_eq]
  exact ⟨hclock, htable, houtbox, hpanel, hstation, hresults, hpeers, hentries⟩

end

end Sys2Proof.Machine
end

section
/-! PROOFS. A beacon pulls course time forward. -/

namespace Sys2Proof.Machine

section
variable {s t u : State} {h : Header}

/-! ### The clock and the Run Table -/

/-- Course time after a carried time: unchanged where that is not ahead, and otherwise one beyond it (R31). -/
theorem State.takeTime_clock (s : State) (time : Nat) :
    (s.takeTime time).clock =
      if s.clock.courseTime < time + 1 then
        { s.clock with courseTime := min (time + 1) 86400000, phase := 0 }
      else s.clock := by
  by_cases hahead : s.clock.courseTime < time + 1
  · rw [if_pos hahead, State.takeTime_ahead hahead]
    simp only [State.fallTogether_frame, State.endTimers_frame]
    exact (s.adopted_frame time).1
  · rw [if_neg hahead, State.takeTime, if_pos (Nat.le_of_not_lt hahead)]

/-- A step marks every on-course run STEPPED, and no other time changes the table (R13, R32). -/
theorem State.takeTime_table (s : State) (time : Nat) :
    (s.takeTime time).table =
      { s.table with
        records :=
          s.table.records.map
            (fun (r : RunRecord) =>
              if s.clock.courseTime + 3 ≤ time + 1 ∧ (s.station.state = .active ∨ s.station.state = .mute) ∧
                  r.state = .onCourse then
                { r with stepped := true, carriesStepped := r.carriesStepped || r.start.isSome }
              else r) } := by
  have hstep : s.isStep time = true ↔
      s.clock.courseTime + 3 ≤ time + 1 ∧ (s.station.state = .active ∨ s.station.state = .mute) := by
    simp [State.isStep]
  by_cases hsteps : s.isStep time = true
  · have hahead : s.clock.courseTime < time + 1 := by
      have := (hstep.1 hsteps).1
      omega
    rw [State.takeTime_ahead hahead]
    simp only [State.fallTogether_frame, State.endTimers_frame]
    rw [State.adopted, if_pos hsteps]
    refine congrArg (fun l => { s.table with records := l }) (List.map_congr_left fun r _ => ?_)
    obtain ⟨hpast, hstate⟩ := hstep.1 hsteps
    by_cases hcourse : r.state = .onCourse
    · simp [RunRecord.settled, hcourse, hpast, hstate, RunRecord.step]
    · simp [RunRecord.settled, hcourse]
  · have hsame : (s.takeTime time).table = s.table := by
      unfold State.takeTime
      split
      · rfl
      · simp [hsteps]
    have hnot : ∀ r : RunRecord, ¬ (s.clock.courseTime + 3 ≤ time + 1 ∧
        (s.station.state = .active ∨ s.station.state = .mute) ∧ r.state = .onCourse) :=
      fun r hall => hsteps (hstep.2 ⟨hall.1, hall.2.1⟩)
    rw [hsame]
    simp only [hnot, if_false, List.map_id']

/-! ### Expiries and the close with nothing missing -/

/-- With nothing missing no retry is due. -/
theorem State.retriesDue_none (hmissing : ∀ i, (s.peer i).missing = []) : s.retriesDue = [] := by
  have hpeer : ∀ x ∈ s.receiver.peers, x.missing = [] := fun x hx => by
    obtain ⟨i, hi, rfl⟩ := List.getElem_of_mem hx
    simpa [State.peer, hi] using hmissing i
  unfold State.retriesDue
  rw [List.flatten_eq_nil_iff]
  intro l hl
  obtain ⟨⟨x, i⟩, hmem, rfl⟩ := List.mem_map.1 hl
  have hx : x ∈ s.receiver.peers := (List.mem_zipIdx hmem).2.2 ▸ List.getElem_mem _
  simp [hpeer x hx]

/-- The expiries leave the crossings whose deadlines lie ahead, and append a STRAY NO RUN for each other one (R67). -/
theorem State.expireEntries_eq (s : State) :
    s.expireEntries.assign.entries = s.assign.entries.filter (fun e => decide (s.now < e.deadline)) ∧
      s.expireEntries.results =
        (s.strays .noRun (s.assign.entries.filter (fun e => decide (e.deadline ≤ s.now)))).results := by
  refine ⟨?_, State.strays_results (by rfl) (by rfl) _ _⟩
  simp only [State.expireEntries, State.strays_frame, State.withEntries]
  refine List.filter_congr fun e _ => ?_
  by_cases he : e.deadline ≤ s.now
  · simp [he]
  · simp [he, Nat.lt_of_not_le he]

/-- With no expiry due the expiries change neither the list nor the queue. -/
theorem State.expireEntries_none (h : s.assign.entries.any (fun e => decide (e.deadline ≤ s.now)) = false) :
    s.expireEntries = s := by
  have hnone : s.assign.entries.filter (fun e => decide (e.deadline ≤ s.now)) = [] := by
    simpa [List.filter_eq_nil_iff] using h
  have hall : s.assign.entries.filter (fun e => !decide (e.deadline ≤ s.now)) = s.assign.entries := by
    simpa [List.filter_eq_self] using h
  rw [State.expireEntries, hnone, hall]
  rfl

/-- A STRAY CLOSED for each pending crossing, and the CLOSED result after them (R38, R70; assumption log 11). -/
theorem State.close_queue (s : State) :
    s.close.results = ((s.strays .closed s.assign.entries).append (closedContents s.epoch)).results := by
  unfold State.close State.strayEntries
  refine State.append_results (s := s.strays .closed s.assign.entries) ?_ (by simp) _
  rw [State.raise_eq]
  exact State.strays_results (by rfl) (by rfl) _ _

/-- In a step that closes the station the expiries come first, whatever the free order (R38, R70). -/
theorem expiriesFirst_close {l : List Together} {expires : Bool}
    (h : l.Perm ((if expires then [.expire] else []) ++ [.close])) :
    expiriesFirst l = (if expires then [.expire] else []) ++ [.close] := by
  have hfirst := h.filter (fun x => x == .expire)
  have hlast := h.filter (fun x => x != .expire)
  unfold expiriesFirst
  cases expires with
  | true =>
    rw [show l.filter (fun x => x == .expire) = [.expire] from List.perm_singleton.1 hfirst,
      show l.filter (fun x => x != .expire) = [.close] from List.perm_singleton.1 hlast]
    rfl
  | false =>
    rw [show l.filter (fun x => x == .expire) = [] from List.perm_nil.1 hfirst,
      show l.filter (fun x => x != .expire) = [.close] from List.perm_singleton.1 hlast]
    rfl

/-- What falls together where nothing is missing: the expiries, and at the limit the close. -/
theorem State.together_quiet (hmissing : ∀ i, (s.peer i).missing = []) (hstate : s.station.state = .active) :
    s.together =
      (if s.assign.entries.any (fun e => decide (e.deadline ≤ s.now)) then [.expire] else []) ++
        if s.clock.courseTime = 86400000 then [.close] else [] := by
  unfold State.together
  rw [State.retriesDue_none hmissing]
  simp only [hstate, true_or, and_true, List.isEmpty_nil, if_true, List.append_nil]
  rfl

/-- Below the limit the expiries alone fall, in an ACTIVE station that misses nothing (R67). -/
theorem State.fallTogether_expires (hmissing : ∀ i, (s.peer i).missing = []) (hstate : s.station.state = .active)
    (htime : s.clock.courseTime ≠ 86400000) (isStep : Bool) :
    ∃ n, s.fallTogether isStep = State.expireEntries { s with freeIndex := n } := by
  have htogether := State.together_quiet hmissing hstate
  rw [if_neg htime, List.append_nil] at htogether
  unfold State.fallTogether
  rw [htogether]
  cases hany : s.assign.entries.any (fun e => decide (e.deadline ≤ s.now)) with
  | true => exact ⟨_, by simp [pickOrder, State.takeAll, State.takeTogether]; rfl⟩
  | false =>
    refine ⟨s.freeIndex, ?_⟩
    rw [State.expireEntries_none (by exact hany)]
    simp [pickOrder, State.takeAll]

/-- At the limit a step takes the expiries and then the close (R38, R70). -/
theorem State.fallTogether_step (hmissing : ∀ i, (s.peer i).missing = []) (hstate : s.station.state = .active)
    (htime : s.clock.courseTime = 86400000) :
    ∃ n, s.fallTogether true = (State.expireEntries { s with freeIndex := n }).close := by
  have htogether := State.together_quiet hmissing hstate
  rw [if_pos htime] at htogether
  have horder := expiriesFirst_close
    ((pickOrder_perm s.together.length s.freeIndex s.together le_rfl).trans (.of_eq htogether))
  have hclose : ∀ n, (State.expireEntries { s with freeIndex := n }).closeAtLimit =
      (State.expireEntries { s with freeIndex := n }).close := fun n =>
    if_pos ⟨by simp only [State.expireEntries_frame]; exact htime, .inl (by simp only [State.expireEntries_frame]; exact hstate)⟩
  refine ⟨s.freeIndex + s.together.length, ?_⟩
  unfold State.fallTogether
  dsimp only
  rw [if_pos ⟨rfl, by rw [htogether]; simp⟩, horder, ← hclose]
  cases hany : s.assign.entries.any (fun e => decide (e.deadline ≤ s.now)) with
  | true => rfl
  | false =>
    rw [State.expireEntries_none (by exact hany)]
    rfl

end

end Sys2Proof.Machine
end

section
/-! PROOFS. A beacon pulls course time forward: the timers, and the statement. -/

namespace Sys2Proof.Machine

section
variable {s t u : State} {h : Header}

/-- The clock of timers at an adopted time. -/
theorem State.adopted_now (s : State) (time : Nat) :
    (s.adopted time).now = min (time + 1) 86400000 + s.clock.stopTicks :=
  congrArg (fun c : Clock => c.courseTime + c.stopTicks) (s.adopted_frame time).1

/-- The beacon timer, the fresh span and the holds after a time that is ahead (R29). -/
theorem State.takeTime_timers {time : Nat} (hahead : s.clock.courseTime < time + 1) :
    let now := min (time + 1) 86400000 + s.clock.stopTicks
    let w := s.takeTime time
    (∀ e, s.outbox.beaconTimer = some e →
      (e ≤ now → w.outbox.beaconDue = true ∧ w.outbox.beaconTimer = some (now + 250)) ∧
      (now < e → w.outbox.beaconDue = s.outbox.beaconDue ∧ w.outbox.beaconTimer = some e)) ∧
    (∀ e, s.outbox.freshEnd = some e → w.outbox.freshEnd = (if e ≤ now then none else some e)) ∧
    (∀ g, s.panel.resultHold = some g → w.panel.resultHold = (if g.endsAt ≤ now then none else some g)) ∧
    (∀ g, s.panel.runHold = some g → w.panel.runHold = (if g.endsAt ≤ now then none else some g)) := by
  intro now w
  have hw : w = (s.adopted time).endTimers.fallTogether (s.isStep time) := State.takeTime_ahead hahead
  have hnow : (s.adopted time).now = now := s.adopted_now time
  have hdue : ∀ e, (s.adopted time).due (some e) = decide (e ≤ now) := fun e => by rw [← hnow]; rfl
  obtain ⟨-, -, houtbox, -, hpanel, -⟩ := s.adopted_frame time
  obtain ⟨hflag, htimer, hfresh⟩ := (s.adopted time).endTimers_outbox
  obtain ⟨hresult, hrun⟩ := (s.adopted time).endTimers_holds
  rw [houtbox] at hflag htimer hfresh
  rw [hpanel] at hresult hrun
  rw [hw]
  simp only [State.fallTogether_frame]
  refine ⟨fun e he => ⟨fun hreached => ?_, fun hlater => ?_⟩, fun e he => ?_, fun g hg => ?_, fun g hg => ?_⟩
  · rw [hflag, htimer, he, hdue, decide_eq_true hreached, hnow]
    exact ⟨rfl, rfl⟩
  · rw [hflag, htimer, he, hdue, decide_eq_false (Nat.not_le.2 hlater)]
    exact ⟨rfl, rfl⟩
  · rw [hfresh, he, hdue]
    exact if_congr decide_eq_true_iff rfl rfl
  · rw [hresult, hg, Option.map_some, hdue]
    exact if_congr decide_eq_true_iff rfl rfl
  · rw [hrun, hg, Option.map_some, hdue]
    exact if_congr decide_eq_true_iff rfl rfl

/-- The peers, the tone and the crossings after a time that is ahead (R29, R67, R111, R117). -/
theorem State.takeTime_peers {time : Nat} (hahead : s.clock.courseTime < time + 1) (hpeers : s.receiver.peers.length = 16) :
    let now := min (time + 1) 86400000 + s.clock.stopTicks
    let w := s.takeTime time
    (∀ i e, (s.peer i).silenceEnd = some e → (s.peer i).presence = .present →
      (w.peer i).presence = (if e ≤ now then .silent else .present)) ∧
    (∀ x, w.panel.tone = some x → now < x.endsAt) ∧
    (∀ i, ∀ m ∈ (w.peer i).missing, now < m.deadline) ∧
    (∀ i < 16, ((s.peer i).missing.map (fun m => m.seq)).Nodup →
      (w.peer i).missing =
        ((s.peer i).missing.filter (fun m => !(decide (m.deadline ≤ now) && decide (3 ≤ m.attempts)))).map
          (fun m =>
            if m.deadline ≤ now then { m with attempts := m.attempts + 1, deadline := now + 100 } else m)) ∧
    (∀ e ∈ w.assign.entries, now < e.deadline) := by
  intro now w
  have hw : w = (s.adopted time).endTimers.fallTogether (s.isStep time) := State.takeTime_ahead hahead
  have hnow : (s.adopted time).now = now := s.adopted_now time
  have hended : (s.adopted time).endTimers.now = now := by simpa using hnow
  have hfallen : ((s.adopted time).endTimers.fallTogether (s.isStep time)).now = now := by simpa using hnow
  have hreceiver : (s.adopted time).receiver = s.receiver := (s.adopted_frame time).2.2.2.1
  have hpeer : ∀ i, (s.adopted time).endTimers.peer i =
      if (s.adopted time).silenceDue (s.peer i) then (s.peer i).fallSilent else s.peer i := fun i => by
    rw [State.endTimers_peer, State.peer, hreceiver, State.peer]
  have hlength : (s.adopted time).endTimers.receiver.peers.length = 16 := by
    simpa [State.endTimers, State.silencePeers, hreceiver] using hpeers
  have hmissing : ∀ i, ((s.adopted time).endTimers.peer i).missing = (s.peer i).missing := fun i => by
    rw [hpeer]
    split <;> rfl
  obtain ⟨hdeadlines, hentries, htone⟩ := (s.adopted time).endTimers.fallTogether_ahead (s.isStep time)
  rw [hw]
  refine ⟨fun i e he hpresent => ?_, ?_, fun i => ?_, fun i hi hnodup => ?_, ?_⟩
  · obtain ⟨hpresence, -⟩ := (s.adopted time).endTimers.fallTogether_alike (s.isStep time) i
    have hdue : (s.adopted time).silenceDue (s.peer i) = decide (e ≤ now) := by
      rw [State.silenceDue, hpresent, he, ← hnow]
      rfl
    rw [hpresence, hpeer, hdue, ← hpresent]
    split <;> simp_all [Peer.fallSilent]
  · have hahead := htone (s.adopted time).endTimers_tone
    unfold State.ToneAhead at hahead
    rwa [hfallen] at hahead
  · have hahead := hdeadlines i
    unfold State.Ahead at hahead
    rwa [hfallen] at hahead
  · have hlist := State.fallTogether_missing hi (s.isStep time) hlength (by rw [hmissing]; exact hnodup)
    rw [hlist, hmissing, retried_list, hended]
    simp only [Bool.true_and, true_and]
  · unfold State.EntriesAhead at hentries
    rwa [hfallen] at hentries

/-- A beacon of the epoch held with nothing new leaves the carried time the station that has heard it. -/
theorem State.Hears.booked_quiet {b : BeaconPayload} (hs : s.Hears h) (hcourse : s.onCourse = true)
    (hepoch : h.epoch = s.epoch) (hfresh : b.flags.getLsbD 1 = false) (hsent : b.flags.getLsbD 3 = false)
    (hexpected : (s.peer h.station.toNat).expected = some (b.lastSeq + 1)) : s.booked h b = s.heard h := by
  have hpeer : (s.heard h).peer h.station.toNat = _ := hs.heardAs_peer _ _
  have hbooked : (s.heard h).bookBeacon h.station.toNat b = s.heard h :=
    State.bookBeacon_nothing hfresh hsent (by rw [hpeer]; exact hexpected)
  have hstep := State.epochStep_same (s := s.heard h) (f := ⟨h, .beacon b⟩) (State.onCourse_not_listening hcourse)
    (by show ¬ s.epoch < h.epoch; rw [hepoch]; exact BitVec.lt_irrefl _)
  rw [State.booked, hbooked, hstep]

/-- Nor is anything missing of any peer where nothing was. -/
theorem State.Hears.heard_missing (hs : s.Hears h) (hmissing : ∀ p ∈ s.receiver.peers, p.missing = []) (i : Nat) :
    ((s.heard h).peer i).missing = [] := by
  have hnone : ∀ i, (s.peer i).missing = [] := fun i => by
    rw [State.peer, List.getD_eq_getElem?_getD]
    cases hentry : s.receiver.peers[i]? with
    | none => rfl
    | some x => exact hmissing x (List.mem_of_getElem? hentry)
  by_cases hi : i = h.station.toNat
  · rw [hi, State.heard, hs.heardAs_peer]
    exact hnone _
  · rw [State.heard, State.heardAs_peer_other hi]
    exact hnone i

/-- Settles O30: the beacon's time is taken by the state its bookkeeping leaves, and what comes after it shows in none
of what the statement names. -/
theorem aBeaconPullsCourseTimeForward : Obligations.ABeaconPullsCourseTimeForward := by
  refine ⟨fun s h b hs hseq hgates holdest htime => ?_, fun s h b hs hseq hgates holdest htime hahead => ?_, ?_⟩
  · obtain ⟨t, hexec, hshows⟩ := hs.exec_beacon hseq hgates holdest htime
    obtain ⟨hclock, hstate, -⟩ := s.booked_frame h b
    have hadopted := (s.booked h b).takeTime_clock b.courseTime.toNat
    rw [hclock] at hadopted
    refine ⟨t, hexec, fun hbehind => ?_, fun hahead => ?_, fun hepoch hcourse => ?_⟩
    · rw [hshows.clock, hadopted, if_neg (Nat.not_lt.2 hbehind)]
    · rw [hshows.clock, hadopted, if_pos hahead]
    · rw [hshows.table, State.takeTime_table, State.booked_table hcourse hepoch, hclock, hstate]
  · intro now
    obtain ⟨t, hexec, hshows⟩ := hs.exec_beacon hseq hgates holdest htime
    obtain ⟨hclock, -, hflag, htimer, hfresh, hresult, hrun⟩ := s.booked_frame h b
    obtain ⟨hothers, hpresent, hsilence, hlength⟩ := hs.booked_peer b
    have hpast : (s.booked h b).clock.courseTime < b.courseTime.toNat + 1 := by
      rw [hclock]
      exact hahead
    obtain ⟨hbeacons, hfreshes, hresults, hruns⟩ := State.takeTime_timers hpast
    obtain ⟨hsilences, htone, hdeadlines, hlists, hentries⟩ := State.takeTime_peers hpast hlength
    rw [hclock, hflag, htimer] at hbeacons
    rw [hclock, hfresh] at hfreshes
    rw [hclock, hresult] at hresults
    rw [hclock, hrun] at hruns
    rw [hclock] at hsilences htone hdeadlines hlists hentries
    have hpeer : ∀ i, t.peer i = ((s.booked h b).takeTime b.courseTime.toNat).peer i := fun i => by
      rw [State.peer, hshows.peers, State.peer]
    refine ⟨t, hexec, ?_, ?_, ?_, ?_, fun i _ hi e he hpres => ?_, ?_, ?_, ?_, fun i hi hne hnodup => ?_, ?_⟩
    · rw [hshows.outbox]
      exact hbeacons
    · rw [hshows.outbox]
      exact hfreshes
    · rw [hshows.panel]
      exact hresults
    · rw [hshows.panel]
      exact hruns
    · rw [hpeer]
      exact hsilences i e (by rw [hothers i hi]; exact he) (by rw [hothers i hi]; exact hpres)
    · rw [hshows.panel]
      exact htone
    · rw [hpeer]
      exact hsilences _ _ hsilence hpresent
    · rw [hpeer]
      exact hdeadlines _
    · have hlist := hlists i hi (by rw [hothers i hne]; exact hnodup)
      rw [hothers i hne] at hlist
      rw [hpeer]
      exact hlist
    · rw [hshows.entries]
      exact hentries
  · intro s h b hs hseq hgates hother holdest htime hahead hactive hepoch hmissing hfresh hsent hexpected time now reached
      others expired
    have hstate : s.station.state = .active := by simpa [State.isActive] using hactive
    have hcourse : s.onCourse = true := by rw [State.onCourse, hstate]
    obtain ⟨t, hexec, hshows⟩ := hs.exec_beacon hseq hgates (by simp [holdest, hother]) htime
    rw [hs.booked_quiet hcourse hepoch hfresh hsent hexpected, State.takeTime_ahead (s := s.heard h) hahead] at hshows
    let v : State := ((s.heard h).adopted b.courseTime.toNat).endTimers
    obtain ⟨hclock, hassign, -, hreceiver, -, hstation, hresults, hsession⟩ :=
      (s.heard h).adopted_frame b.courseTime.toNat
    have hvclock : v.clock.courseTime = time := by
      simp only [v, State.endTimers_frame, hclock, time]
    have hvnow : v.now = now := by
      simp only [v, State.endTimers_frame]
      exact (s.heard h).adopted_now b.courseTime.toNat
    have hventries : v.assign.entries = s.assign.entries := by
      simp only [v, State.endTimers_frame, hassign]
      rfl
    have hvstate : v.station.state = .active := by
      simp only [v, State.endTimers_frame, hstation]
      exact hstate
    have hvresults : v.results = s.results := by
      simp only [v, State.endTimers_frame, hresults]
      rfl
    have hvepoch : v.epoch = s.epoch := by
      simp only [v, State.endTimers_frame, hsession]
      rfl
    have hvmissing : ∀ i, (v.peer i).missing = [] := fun i => by
      have hheard := hs.heard_missing hmissing i
      rw [State.peer, ← hreceiver, ← State.peer] at hheard
      rw [State.endTimers_peer]
      split
      · exact hheard
      · exact hheard
    have hexpired : ∀ n, (State.expireEntries { v with freeIndex := n }).assign.entries = others ∧
        (State.expireEntries { v with freeIndex := n }).results = expired.results := by
      intro n
      obtain ⟨hleft, hqueue⟩ := State.expireEntries_eq { v with freeIndex := n }
      have hsame : State.now { v with freeIndex := n } = now := hvnow
      rw [hsame] at hleft hqueue
      refine ⟨hleft.trans (congrArg (List.filter _) hventries), hqueue.trans ?_⟩
      rw [show State.assign { v with freeIndex := n } = v.assign from rfl, hventries]
      exact State.strays_results (by exact hvresults) (by exact hvclock) _ _
    refine ⟨t, hexec, fun hbelow => ?_, fun hlimit => ?_⟩
    · obtain ⟨n, hfall⟩ := State.fallTogether_expires hvmissing hvstate (by omega)
        ((s.heard h).isStep b.courseTime.toNat)
      obtain ⟨hleft, hqueue⟩ := hexpired n
      rw [hshows.station, hshows.entries, hshows.results, show State.fallTogether _ _ = _ from hfall]
      refine ⟨?_, hleft, hqueue⟩
      simp only [State.expireEntries_frame]
      exact hvstate
    · have hclosed := State.fallTogether_closes v ((s.heard h).isStep b.courseTime.toNat) (hvclock.trans hlimit)
        (.inl hvstate)
      rw [hshows.station, hshows.entries]
      refine ⟨hclosed.state, hclosed.code, hclosed.empty, fun hsteps => ?_⟩
      have hstep : (s.heard h).isStep b.courseTime.toNat = true := by
        have hsame : (s.heard h).clock = s.clock ∧ (s.heard h).station = s.station := ⟨rfl, rfl⟩
        simp [State.isStep, hsame, hsteps, hstate]
      obtain ⟨n, hfall⟩ := State.fallTogether_step hvmissing hvstate (hvclock.trans hlimit)
      obtain ⟨hleft, hqueue⟩ := hexpired n
      rw [hshows.results, hstep, show State.fallTogether _ _ = _ from hfall, State.close_queue, hleft]
      have hsession : (State.expireEntries { v with freeIndex := n }).epoch = s.epoch := by
        simp only [State.expireEntries_frame, hvepoch]
      rw [hsession]
      have htimes : (State.expireEntries { v with freeIndex := n }).clock.courseTime = expired.clock.courseTime := by
        simp only [expired, State.expireEntries_frame, State.strays_frame, hvclock]
      refine State.append_results (State.strays_results hqueue htimes _ _) ?_ _
      simp only [State.strays_frame, htimes]

end

end Sys2Proof.Machine
end
